-- ==== Sys2Proof/Word.lean ====
section
/-! DEFINITION. The word types of the tray: a byte is 8 bits (00_scope, Conventions), and the
multi-byte fields of the manual are bit vectors of the widths its tables give. -/

namespace Sys2Proof

/-- A byte is 8 bits (00_scope, Conventions). -/
abbrev Byte := BitVec 8

/-- A 16-bit field. -/
abbrev U16 := BitVec 16

/-- A 32-bit field. -/
abbrev U32 := BitVec 32

/-- A 64-bit field: tally values, sequence numbers, IDs. -/
abbrev U64 := BitVec 64

/-- A SHA-256 value or a certificate fingerprint (R55, R268). -/
abbrev Digest := BitVec 256

end Sys2Proof
end

