-- ==== Sys2Proof/Syntax.lean ====
section
/-! DEFINITION. The commands of the block: one constructor of `Instr` per row of
spec/opcode_table.json, with the operands that the row's rule gives it. Rows 0-79 are Batten
commands (one packet each, R241), the others are events at the tray's pins, ports, timers and units. -/

namespace Sys2Proof

/-! ### Batten packets (05_batten_protocol) -/

/-- The two controllers (R74, Table 2.1). -/
inductive Eave where
  | a
  | b
  deriving DecidableEq, Repr

/-- The four paths that carry Batten (05, "Paths and originators"): a management TLS connection, an
accelerator port with the src_endpoint of the BATTEN frame (R408), the ridge stream from one Eave, and Finial's own
path. -/
inductive Path where
  | management (conn : Nat)
  | inBand (port : Nat) (endpoint : U16)
  | ridge (eave : Eave)
  | finial
  deriving DecidableEq, Repr

/-- One command packet as a receiver sees it after magic, header length, body length and CRC have
been found right (Table 5.1; the packets of Table 5.5's first rows are `Instr.malformedPacket`).
The opcode is the constructor that carries the packet. -/
structure Packet where
  path : Path
  version : Byte
  flags : U16
  originator : U32
  sequence : U64
  unit : Byte
  reserved27 : Byte
  inst : U16
  reserved30 : U16
  body : List Byte
  deriving DecidableEq, Repr

/-- A receiver of Batten packets, as the BATTEN counters number them (R307). -/
inductive Unit_ where
  | wafer
  | eave (e : Eave)
  | finial
  | coping
  deriving DecidableEq, Repr

/-- The faults of Table 5.5 that leave no packet to answer. -/
inductive FaultKind where
  | framing
  | crc
  deriving DecidableEq, Repr

/-- A fault of Table 5.5, and the receiver that meets it on an internal path; on the other two paths the path gives the
receiver. -/
structure PacketFault where
  kind : FaultKind
  unit : Unit_
  deriving DecidableEq, Repr

/-- TLS cipher suites, key-exchange groups and signature schemes: those of R266, and all others. -/
inductive CipherSuite where
  | aes256GcmSha384
  | aes128GcmSha256
  | other
  deriving DecidableEq, Repr

inductive KeyGroup where
  | secp384r1
  | x25519
  | other
  deriving DecidableEq, Repr

inductive SignatureScheme where
  | ecdsaSecp384r1Sha384
  | other
  deriving DecidableEq, Repr

/-- What a client offers in the TLS handshake of the management path (R265, R266, R270). -/
structure TlsHello where
  tls13 : Bool
  earlyData : Bool
  resumption : Bool
  suites : List CipherSuite
  groups : List KeyGroup
  schemes : List SignatureScheme
  fingerprint : Digest
  issuers : List Digest
  deriving DecidableEq, Repr

/-! ### Fabric frames and blocks (07_fabric_links) -/

/-- The 64-byte frame header of Table 7.4, reserved fields included. -/
structure FrameHeader where
  sof : Byte
  cls : Byte
  type : Byte
  flags : Byte
  length : U16
  dstPort : U16
  srcEndpoint : U16
  dstEndpoint : U16
  reserved12 : U32
  tag : U64
  address : U64
  aux : U64
  reserved40 : BitVec 160
  deriving DecidableEq, Repr

/-- How a frame's EOF block ends it (Table 7.3); `pending` while no EOF block has come yet. -/
inductive Eof where
  | good
  | stomp
  | pending
  deriving DecidableEq, Repr

/-- A frame received on a port, as its blocks carry it (R402): the header, its hcrc, the payload
blocks' bytes, and the EOF block's last_valid and frame CRC. With `eof` pending, the SOF block, the second header
block and `blocks` payload blocks have come and the frame stays open; a later command with `rest` set is that frame
again when its EOF has come. -/
structure RxFrame where
  header : FrameHeader
  hcrc : U32
  payload : List Byte
  blocks : Nat
  lastValid : Nat
  crc : U32
  eof : Eof
  rest : Bool := false
  deriving DecidableEq, Repr

/-- The content of an IDENTITY block (Table 7.9), reserved bytes apart. -/
structure IdentityBlock where
  kind : Byte
  rackId : U16
  slot : Byte
  port : Byte
  serialHash : U32
  version : Byte
  deriving DecidableEq, Repr

/-- The content of an LSTATE block (Table 7.8). -/
structure LstateBlock where
  state : Byte
  lanes : Byte
  fecOffer : Byte
  fecSelect : Byte
  request : Byte
  ber : U32
  switchRound : U32
  deriving DecidableEq, Repr

/-- The content of a CREDIT block (Table 7.7). -/
structure CreditBlock where
  hold : Byte
  c0 : U16
  c1 : U16
  c2 : U16
  c3 : U16
  c7 : U16
  deriving DecidableEq, Repr

/-- A frame in reception: its class, its header and payload blocks received, its payload blocks still to come (R419),
the fragment count of its segment and its credits; `frame` is what has come of it once its hcrc has passed, and `cutTo`
the output that it has begun to leave cut-through (R475). -/
structure OpenFrame where
  cls : Nat
  blocksSeen : Nat
  payloadLeft : Nat
  fragment : Nat
  credits : Nat
  frame : Option RxFrame := none
  cutTo : Option Nat := none
  deriving DecidableEq, Repr

/-- A lane on which an uncorrectable codeword came, and how many in a row that makes on the lane (R398). -/
structure LaneFault where
  lane : Nat
  consecutive : Nat
  deriving DecidableEq, Repr

/-- The kinds of block that Table 7.8a discards when no frame is open; an IDLE block matters to a parked frame alone. -/
inductive StrayKind where
  | data
  | eof
  | cont
  | idle
  deriving DecidableEq, Repr

/-! ### Results that units report to the tray -/

/-- The result of one epoch check (Table 4.5, BOOT record epoch results). -/
inductive EpochResult where
  | pass
  | mismatch
  | notRun
  deriving DecidableEq, Repr

/-- Which TAP of the scan chain (Table 18.3). -/
inductive Tap where
  | coping
  | eaveA
  | eaveB
  | wafer
  deriving DecidableEq, Repr

/-- What full BIST found (R218-R221): sites failed, rim blocks failed in the bit order of the BOOT
record (P00-P39, L00-L31, T0-T3, C0-C1, mesh centre, descriptor), engines failed (8 x site + engine)
and patrol units failed per site (yealms, banks, VOQ RAMs). -/
structure BistResult where
  sites : List Nat
  rim : List Nat
  engines : List Nat
  slices : List (Nat × Nat)
  links : List Nat
  deriving DecidableEq, Repr

/-- What slate BIST of one site found (R1008, R1009): whether its essential parts passed, its failed
engines and its isolated slices. -/
structure SlateBist where
  pass : Bool
  engines : List Nat
  slices : List Nat
  deriving DecidableEq, Repr

/-- What the wafer found when its firmware loaded (step 11 of Table 4.1): whether a boot-flash slot
was bootable, the pushed image verified, the recovery image verified, whether the image lists the
stepping, and the digest and version of the image loaded. -/
structure LoadResult where
  bootable : Bool
  pushVerified : Bool
  recoveryVerified : Bool
  steppingListed : Bool
  wafer : Digest
  version : U32
  epochs : BitVec 64
  generations : List Nat
  deriving DecidableEq, Repr

/-- What mounting a Thatch bank found (R703, R704, R716, R708): present and healthy, and the highest
durable record number it holds; torn page discarded; records held under fill and halt lost. -/
structure MountResult where
  aFaulted : Bool
  bFaulted : Bool
  aHighest : Nat
  bHighest : Nat
  tornDiscarded : Bool
  heldLost : Bool
  replaced : Bool
  deriving DecidableEq, Repr

/-- The time capture an Eave makes at a rack marker (R178). -/
structure PtpCapture where
  ptpNs : Nat
  deriving DecidableEq, Repr

/-- What a processed PTP message leaves the Eave's servo with (R177, R180): synchronised or lost, the
magnitude of its offset in ns, and currentUtcOffset. -/
structure PtpServo where
  acquired : Bool
  offsetNs : Nat
  utcOffset : Int
  deriving DecidableEq, Repr

/-- A PTP message (R177): the domain and the transport that it came in, 0 UDP_IPV4 or 1 ETHERNET, and what it leaves
the servo with. -/
structure PtpMessage where
  domain : Nat
  transport : Nat
  servo : PtpServo
  deriving DecidableEq, Repr

/-- The heartbeat of Table 14.2. `crcGood` is the check of its last field. -/
structure Heartbeat where
  eave : Eave
  state : Byte
  selftest : U16
  count : U32
  ridgeH : U64
  digestSeq : U64
  stateDigest : Digest
  crcGood : Bool
  deriving DecidableEq, Repr

/-- A DIVERGED report (R262): the originator, the sequence, and the digest and path of each of the two copies, Eave A's
first. -/
structure Diverged where
  originator : U32
  sequence : U64
  digestA : Digest
  digestB : Digest
  pathA : Path
  pathB : Path
  deriving DecidableEq, Repr

/-- What a leaked-buffer walk found (R498, R501). -/
inductive WalkResult where
  | candidates (shingles : List Nat)
  | doubleReference
  deriving DecidableEq, Repr

/-- What the ECC of a Loft access found (R628, R629). -/
inductive EccResult where
  | clean
  | corrected
  | uncorrectable (line : Nat)
  deriving DecidableEq, Repr

/-- What a NAND patrol read of one written block found (R709-R711). -/
inductive NandRead where
  | clean (worstBits : Nat)
  | uncorrectable (segment : Nat)
  | passComplete
  deriving DecidableEq, Repr

/-- A compliance condition that has lasted 1 ms (R908-R910). -/
inductive Compliance where
  | headroom
  | openLoop
  deriving DecidableEq, Repr

/-- A cartridge that has failed (R11, R648): a Loft, cable, optical or Thatch cartridge. -/
inductive CartridgeId where
  | loft (n : Nat)
  | cable (n : Nat)
  | optical (n : Nat)
  | thatch (n : Nat)
  deriving DecidableEq, Repr

/-- What the verification of an image found (R953, R954). -/
structure VerifyResult where
  signatureGood : Bool
  deriving DecidableEq, Repr

/-- What a calibration window found (R884, R886): the precondition held over the window, every word of
it was valid, the mean of the value over it, and for RTD and AOUT_SELF the coefficients found. -/
structure CalWindow where
  held : Bool
  mean : Int
  offset : Int
  gain : Int
  referencesBad : Bool
  deriving DecidableEq, Repr

/-! ### The commands -/

/-- One constructor per row of spec/opcode_table.json, in the table's order. -/
inductive Instr where
  -- Batten commands: session and identity (Table 6.5)
  | sessionOpen (p : Packet)
  | identity (p : Packet)
  | features (p : Packet)
  | certRead (p : Packet)
  | fwIdentity (p : Packet)
  | completionRead (p : Packet)
  | sessionClose (p : Packet)
  | rolemapRead (p : Packet)
  | rolemapWrite (p : Packet)
  -- parameters (Table 6.6)
  | paramStage (p : Packet)
  | paramRead (p : Packet)
  | paramCommit (p : Packet)
  | paramDiscard (p : Packet)
  | paramDescribe (p : Packet)
  -- ports and cable plan (Table 6.7)
  | portStatus (p : Packet)
  | portUp (p : Packet)
  | portDown (p : Packet)
  | portAdapt (p : Packet)
  | cablePlanLoad (p : Packet)
  | cablePlanRead (p : Packet)
  | opticRead (p : Packet)
  -- switch core (Table 6.8)
  | topologyRead (p : Packet)
  | dormerStatus (p : Packet)
  | skylightRead (p : Packet)
  | slateIsolate (p : Packet)
  | slateRestore (p : Packet)
  -- reduction and engines (Table 6.9)
  | groupDefine (p : Packet)
  | groupDelete (p : Packet)
  | collectiveOpen (p : Packet)
  | collectiveStatus (p : Packet)
  | collectiveCancel (p : Packet)
  | decisionOpen (p : Packet)
  | decisionClose (p : Packet)
  | reedDisable (p : Packet)
  | reedEnable (p : Packet)
  | engineDisable (p : Packet)
  | engineEnable (p : Packet)
  -- Loft (Table 6.10)
  | regionAlloc (p : Packet)
  | regionInfo (p : Packet)
  | regionList (p : Packet)
  | regionFind (p : Packet)
  | regionSeal (p : Packet)
  | regionFree (p : Packet)
  -- journal and replay (Table 6.11)
  | journalStatus (p : Packet)
  | journalExport (p : Packet)
  | journalAck (p : Packet)
  | replayStart (p : Packet)
  | replayStatus (p : Packet)
  | replayCancel (p : Packet)
  | journalMark (p : Packet)
  | bankSet (p : Packet)
  -- tray management (Table 6.12)
  | trayState (p : Packet)
  | inventory (p : Packet)
  | tallyStatus (p : Packet)
  | tallyReacquire (p : Packet)
  | senseRead (p : Packet)
  | counterSnap (p : Packet)
  | counterRead (p : Packet)
  | senseSync (p : Packet)
  | aoutWrite (p : Packet)
  | aoutRead (p : Packet)
  | calRun (p : Packet)
  | channelMask (p : Packet)
  | modeSet (p : Packet)
  | roleSwap (p : Packet)
  | latchWrite (p : Packet)
  | controllerStatus (p : Packet)
  -- update (Table 6.13)
  | imgDownload (p : Packet)
  | imgVerify (p : Packet)
  | imgActivate (p : Packet)
  | imgConfirm (p : Packet)
  | imgStatus (p : Packet)
  | manifestLoad (p : Packet)
  | manifestRead (p : Packet)
  -- test and freeze (Table 6.14)
  | freeze (p : Packet)
  | freezeAt (p : Packet)
  | thaw (p : Packet)
  | restart (p : Packet)
  | snapStart (p : Packet)
  | patrolStatus (p : Packet)
  -- management connections and windows
  | tlsHandshake (conn : Nat) (eave : Eave) (hello : TlsHello)
  | connectionClose (conn : Nat)
  | sessionLingerExpiry (session : U32)
  | gapHoldExpiry (originator : U32)
  -- boundary scan (Table 18.4)
  | extest (tap : Tap)
  | samplePreload (tap : Tap)
  | idcode (tap : Tap)
  | clamp (tap : Tap)
  | highz (tap : Tap)
  | extestPulse (tap : Tap)
  | extestTrain (tap : Tap)
  | descriptorRead (tap : Tap)
  | slateSel (tap : Tap) (value : Byte)
  | scanDump (tap : Tap)
  | mbistRun (tap : Tap)
  | tallyRead (tap : Tap)
  | bypass (tap : Tap)
  | tapReset
  -- sideband bus (Table 19.13)
  | rackIdWrite (value : U32)
  | rowPosWrite (value : U32)
  | markerNextWrite (value : U64) (insideSpan : Bool)
  | eventAckWrite (number : U32)
  | voteAnswerWrite (value : U32)
  | invSelWrite (value : U16)
  | sidebandRegisterWrite (address : Byte) (data : List Byte) (broadcast : Bool)
  -- power-up sequence (Table 4.1)
  | aonPowerUp (slotPins : BitVec 5) (busMillivolts : Nat)
  | aonPowerLoss
  | finialBoot (verified : Bool)
  | eaveBoot (eave : Eave) (epochEF : EpochResult) (epochEC : EpochResult) (epochEE : EpochResult)
  | coolantGatePass
  | coolantGateAlert
  | rimWaitExpiry
  | slateRailEnable
  | waferResetRelease
  | fullBistDone (result : BistResult)
  | pushTimeout
  | firmwareLoadDone (result : LoadResult)
  | thatchMount (result : MountResult)
  -- busbar and sideband pins
  | busbarPowerFail
  | powerFailClear
  | holdupExpiry
  | busbarOvervoltage
  | busRangeResume
  | busbarLow
  | shelfFault
  | slotIdChange (pins : BitVec 5)
  -- freeze
  | frzNAssert
  | freezeAtReached
  | freezeStop
  | autoThaw
  | snapReadoutStart
  | snapDone (durationMs : Nat)
  -- tally
  | tallyPllLock
  | rackMarker (capture : Option PtpCapture)
  | tallySlewStep
  | tallyMark
  | tallySyncLoss
  | tallyFreqWindow (ppmTenths : Int)
  | holdoverExpiry
  | tallySyncReturn
  | tallyRequest (port : Nat) (t1 : U64)
  | tallyResponse (port : Nat) (t1 : U64) (t2 : U64) (t3 : U64) (t4 : U64)
  | ptpMessage (eave : Eave) (servo : PtpMessage)
  | paramSetApply
  | counterSnapshot
  | periodicSnapshot
  -- ports: bring-up and ordered sets
  | portSignalDetect (port : Nat)
  | linkTrainingDone (port : Nat) (ownLanes : BitVec 4) (farLanes : BitVec 4) (farFecL : Bool)
  | trainingTimeout (port : Nat)
  | portRetrainTimer (port : Nat) (signal : Bool)
  | berMeasureEnd (port : Nat) (ownBer : U32) (farBer : U32)
  | fecSwitch (port : Nat)
  | identityBlock (port : Nat) (block : IdentityBlock)
  | identitySend (port : Nat)
  | lstateBlock (port : Nat) (block : LstateBlock)
  | lstateRefresh (port : Nat)
  | creditBlock (port : Nat) (block : CreditBlock)
  | creditRefresh (port : Nat)
  | alignRound (port : Nat) (good : Bool)
  | freezeIdleRx (port : Nat)
  | reservedBlock (port : Nat) (code : Byte)
  | expressPreemptSof (port : Nat) (frame : OpenFrame)
  | contBlock (port : Nat) (count : BitVec 2) (cls : Byte)
  | frameRxTimeout (port : Nat)
  | fecUncorrectable (port : Nat) (lane : LaneFault)
  | laneSignalLoss (port : Nat) (lane : Nat)
  | fecLBerWindow (port : Nat) (ber : U32)
  | adaptAckTimeout (port : Nat)
  | moduleReady (port : Nat) (qualified : Bool) (offersApplication : Bool)
  | moduleRemoval (port : Nat)
  -- switch core
  | dataFrame (port : Nat) (frame : RxFrame)
  | egressGrant (port : Nat)
  | frameResume (port : Nat)
  | portDrainEnd (port : Nat)
  | auditTick (site : Nat) (walk : WalkResult)
  | fuseTrip (site : Nat)
  | rehomeMapSwitch
  | slateBistDone (site : Nat) (result : SlateBist)
  | lendStart (site : Nat)
  -- reduction
  | contribFrame (port : Nat) (frame : RxFrame)
  | contribEarlyHoldExpiry (port : Nat)
  | collectiveTimeout (collective : U64)
  | rampRelease
  -- Loft
  | loftRdFrame (port : Nat) (frame : RxFrame)
  | loftWrFrame (port : Nat) (frame : RxFrame)
  | loftAccessDone (block : Nat) (ecc : EccResult)
  | loftScrubPass (cartridge : Nat)
  | regionSealDone
  | resealDone (handle : U32)
  | loftReinitDone
  -- journal
  | recordDurable
  | segmentSealTimeout
  | segmentSignDone (r : BitVec 384) (s : BitVec 384)
  | bankFault (bank : Nat)
  | bankResyncDone (bank : Nat)
  | thatchPatrol (bank : Nat) (read : NandRead)
  | journalExportDone
  | replayCollectiveDone
  -- controllers and referee
  | heartbeat (hb : Heartbeat)
  | heartbeatInterval
  | divergedReport (report : Diverged)
  | selftestResult (failA : Bool) (failB : Bool)
  | voteTimeout
  | eaveRestartRelease (eave : Eave)
  | resyncDigestReport (eave : Eave) (digest : Digest) (reference : Digest)
  | roleSwapCheck
  | roleSwapMarker
  | roleSwapTimeout
  | finialWatchdogRestart (reportA : Byte) (reportB : Byte)
  | inventoryWrite
  -- sensing, coolant and outputs
  | senseWord (channel : Nat) (input : Int)
  | indeterminateTimeout (channel : Nat)
  | leakWindowExpiry (channel : Nat)
  | flowTrip
  | thermalTrip
  | calStartCheckEnd (window : CalWindow)
  | calMeasurementEnd (window : CalWindow)
  | calEndCheckEnd (window : CalWindow)
  | aoutSelfCodeSwitch
  | deglitchHoldEnd (channel : Nat)
  | complianceFaultOnset (channel : Nat) (cause : Compliance)
  | complianceFaultClear (channel : Nat)
  -- firmware update
  | imgVerifyDone (result : VerifyResult)
  | rollSiteReady (site : Nat)
  | activationTimeout (site : Nat)
  -- patrol
  | patrolCycleStart
  | patrolSliceDue
  | patrolNoticeEnd
  | patrolSliceIsolate
  | patrolDrainTimeout
  | patrolTestDone (pass : Bool)
  -- further pins and faults
  | busbarRangeReturn
  | frzNRelease
  | shelfOkReturn
  | gableCoreFault (site : Nat)
  | cartridgeFault (cartridge : CartridgeId)
  | scrubUncorrectable (address : Nat)
  | crossingQueueOverrun (port : Nat)
  | strayBlock (port : Nat) (kind : StrayKind)
  | frameTypeError (port : Nat) (frame : RxFrame)
  | malformedPacket (path : Path) (fault : PacketFault) (bytes : List Byte)
  | unassignedOpcode (opcode : U16) (p : Packet)
  | cartridgeMcuReady (target : Nat)
  deriving DecidableEq, Repr

end Sys2Proof
end

