-- ==== Sys2Proof/Config.lean ====
section
/-! DEFINITION. What an implementation fixes and the manual does not state. Every constant is opaque: no
proof can see its value. The argument `Nat` is the state's free-value counter where the value is
fresh at each use. -/

namespace Sys2Proof.Config

/-- A time the manual bounds and does not fix, in ticks of 3.2 ns (assumption 7). -/
opaque duration : Nat → Nat

/-- The originator ID proposed for a new session (R273; assumption 8). -/
opaque sessionId : Nat → Nat

/-- The least and the greatest value of a parameter whose range the manual does not state (Table 15.3
zero, Table 16.4 offset; assumption 9). -/
opaque unstatedMin : Nat → BitVec 64
opaque unstatedMax : Nat → BitVec 64

/-- A byte of a module's memory map (R444), of the serial and part number of an inventory entry (R840), and of the ID
of the segment-signing key (R692): bytes the manual leaves open (assumption 6). -/
opaque moduleByte : Nat → Nat → BitVec 8
opaque inventoryByte : Nat → Nat → Nat → BitVec 8
opaque keyByte : Nat → BitVec 8

/-- The DEFLATE form of a segment image (R696; assumption 4). -/
opaque deflate : List Byte → List Byte

/-- Whether a certificate chain verifies to the Narivo root, and whether a seal's signature verifies under
the first certificate of a chain (R694, Table 12.8; assumption 5). -/
opaque chainVerifies : List Byte → Bool
opaque sealVerifies : List Byte → List Byte → Bool

/-- Whether the seal of a release manifest verifies (R224, R944; assumption 5). -/
opaque manifestVerifies : List Byte → Bool

/-- The images that the factory put into slot A of each target: version, image SHA-256 and epochs, by kind
and target (assumption 10). -/
opaque factoryVersion : Nat → Nat → BitVec 32
opaque factorySha : Nat → Nat → BitVec 256
opaque factoryEpochs : Nat → Nat → BitVec 64

/-- The value of an RTD word whose resistance lies outside the range of IEC 60751 (R856, Table 15.2; assumption
61). -/
opaque analogue : Nat → Int

/-- What a boundary register or a site's internal scan chains capture (R1015): their lengths and cells are the
BSDL files', not the manual's (assumption 66). -/
opaque scanData : Nat → Nat

/-- Whether a write flushed by a re-homing had been written (R610; assumption 57). -/
opaque flushedWrite : Nat → Bool

/-- Whether a TALLY_SYNC frequency between 80 and 100 ppm off is declared lost (R158; assumption 44). -/
opaque frequencyLost : Nat → Bool

/-- The fraction of a tick, in 1/16 tk, at which a tally block leaves or arrives (R169, R432; assumption 101). -/
opaque tallyFraction : Nat → BitVec 4

/-- A byte of a SNAP section other than the directory: type, source and offset (Table 13.5; assumption 102). -/
opaque snapByte : Nat → Nat → Nat → BitVec 8

end Sys2Proof.Config
end

