-- ==== Sys2Proof/Machine/Bytes.lean ====
section
/-! DEFINITION. Byte strings: the little-endian fields of R318, reserved bytes, and reading a field
at an offset. -/

namespace Sys2Proof.Machine

/-- `n` bytes of `v`, least significant first; higher bits are dropped (R318). -/
def le : Nat → Nat → List Byte
  | 0, _ => []
  | n + 1, v => BitVec.ofNat 8 v :: le n (v / 256)

/-- The unsigned value of a little-endian byte string (R318). -/
def leVal : List Byte → Nat
  | [] => 0
  | b :: bs => b.toNat + 256 * leVal bs

/-- A signed value as an `n`-byte two's-complement field (R318). -/
def leInt (n : Nat) (v : Int) : List Byte := le n ((v % (256 ^ n : Nat)).toNat)

/-- `n` reserved bytes, sent as 0 (R318, z[n]). -/
def zs (n : Nat) : List Byte := List.replicate n 0

/-- The `n` bytes at offset `off`. -/
def sub (bs : List Byte) (off n : Nat) : List Byte := (bs.drop off).take n

/-- The unsigned field of `n` bytes at offset `off`. -/
def field (bs : List Byte) (off n : Nat) : Nat := leVal (sub bs off n)

/-- A byte string cut or NUL-padded to `n` bytes. -/
def padTo (n : Nat) (bs : List Byte) : List Byte := (bs ++ zs (n - bs.length)).take n

/-- The ASCII bytes of a string. -/
def ascii (s : String) : List Byte := s.toList.map fun c => BitVec.ofNat 8 c.toNat

/-- A digest as 32 bytes, its most significant byte first. -/
def digestBytes (d : Digest) : List Byte := (le 32 d.toNat).reverse

/-- The digest that 32 bytes spell. -/
def digestOf (bs : List Byte) : Digest := BitVec.ofNat 256 (leVal bs.reverse)

/-- Bounds a value to a field that saturates at `2^n - 1`. -/
def sat (n v : Nat) : Nat := min v (2 ^ n - 1)

end Sys2Proof.Machine
end

