-- ==== Sys2Proof/Machine/Hash.lean ====
section
/-! DEFINITION. SHA-256 (named by R55, R112, R258, R269, R304, R616 and others; its definition is FIPS
180-4, assumption 3) and the CRC-32C of R245. Both work on natural numbers, so that a closed term of
either evaluates in Lean's kernel. -/

namespace Sys2Proof.Machine

/-- Rotation of a 32-bit word to the right. -/
def rotr (n x : Nat) : Nat := (x >>> n) ||| ((x <<< (32 - n)) % 4294967296)

/-- The `k` 32-bit words of a packed number, its most significant word first. -/
def packedWords : Nat → Nat → List Nat
  | 0, _ => []
  | k + 1, v => (v >>> (32 * k)) % 4294967296 :: packedWords k v

/-- The round constants of SHA-256, eight words to a number: word i is the first 32 fractional bits of the cube
root of the i-th prime (`test_roundConstants_cubeRoots` holds each to that). -/
def shaPacked : List Nat :=
  [0x428a2f9871374491b5c0fbcfe9b5dba53956c25b59f111f1923f82a4ab1c5ed5,
   0xd807aa9812835b01243185be550c7dc372be5d7480deb1fe9bdc06a7c19bf174,
   0xe49b69c1efbe47860fc19dc6240ca1cc2de92c6f4a7484aa5cb0a9dc76f988da,
   0x983e5152a831c66db00327c8bf597fc7c6e00bf3d5a7914706ca635114292967,
   0x27b70a852e1b21384d2c6dfc53380d13650a7354766a0abb81c2c92e92722c85,
   0xa2bfe8a1a81a664bc24b8b70c76c51a3d192e819d6990624f40e3585106aa070,
   0x19a4c1161e376c082748774c34b0bcb5391c0cb34ed8aa4a5b9cca4f682e6ff3,
   0x748f82ee78a5636f84c878148cc7020890befffaa4506cebbef9a3f7c67178f2]

/-- The 64 round constants in order. -/
def shaConstants : List Nat := shaPacked.flatMap (packedWords 8)

/-- Four 32-bit words that shift: `newest` enters, `oldest` leaves. -/
structure Shift4 where
  newest : Nat
  second : Nat
  third : Nat
  oldest : Nat
  deriving DecidableEq, Repr

/-- One more word shifted in. -/
def Shift4.push (v : Nat) (q : Shift4) : Shift4 :=
  { newest := v % 4294967296, second := q.newest, third := q.second, oldest := q.third }

/-- Word-wise sum modulo 2^32. -/
def Shift4.add (x y : Shift4) : Shift4 :=
  { newest := (x.newest + y.newest) % 4294967296, second := (x.second + y.second) % 4294967296
    third := (x.third + y.third) % 4294967296, oldest := (x.oldest + y.oldest) % 4294967296 }

/-- The words of a list, newest first. -/
def Shift4.ofList (w : List Nat) : Shift4 :=
  { newest := w.getD 0 0, second := w.getD 1 0, third := w.getD 2 0, oldest := w.getD 3 0 }

def Shift4.toList (q : Shift4) : List Nat := [q.newest, q.second, q.third, q.oldest]

/-- The chaining value of SHA-256, as the two shift registers that its rounds turn it through: FIPS 180-4's working
words a to d are `upper`, its e to h are `lower`. -/
structure ShaWords where
  upper : Shift4
  lower : Shift4
  deriving DecidableEq, Repr

/-- The first chaining value: the first 32 fractional bits of the square roots of the first eight primes
(`test_initialHash_squareRoots`). -/
def shaInit : ShaWords :=
  { upper := .ofList (packedWords 4 0x6a09e667bb67ae853c6ef372a54ff53a)
    lower := .ofList (packedWords 4 0x510e527f9b05688c1f83d9ab5be0cd19) }

/-- The exclusive OR of three rotations. -/
def turn3 (i j k x : Nat) : Nat := rotr i x ^^^ rotr j x ^^^ rotr k x

/-- One round: what the lower register, the constant and the schedule word sum to enters both registers, the upper
one with its own mixing and the lower one with the upper's oldest word. -/
def shaRound (s : ShaWords) (k w : Nat) : ShaWords :=
  let lo := s.lower
  let up := s.upper
  let choice := (lo.newest &&& lo.second) ^^^ ((4294967295 - lo.newest) &&& lo.third)
  let majority := (up.newest &&& up.second) ^^^ (up.newest &&& up.third) ^^^ (up.second &&& up.third)
  let mixed := lo.oldest + turn3 6 11 25 lo.newest + choice + k + w
  { upper := up.push (mixed + turn3 2 13 22 up.newest + majority), lower := lo.push (up.oldest + mixed) }

/-- The next word of the message schedule from the last sixteen. -/
def shaNext (w : List Nat) : Nat :=
  let x := w.getD 1 0
  let y := w.getD 14 0
  (w.getD 0 0 + (rotr 7 x ^^^ rotr 18 x ^^^ (x >>> 3)) + w.getD 9 0 +
    (rotr 17 y ^^^ rotr 19 y ^^^ (y >>> 10))) % 4294967296

/-- The rounds over a list of constants, with a rolling window of sixteen schedule words. -/
def shaRounds : List Nat → List Nat → ShaWords → ShaWords
  | [], _, s => s
  | k :: ks, w, s => shaRounds ks (w.tail ++ [shaNext w]) (shaRound s k (w.headD 0))

/-- The big-endian 32-bit words of a byte string. -/
def beWords : List Byte → List Nat
  | a :: b :: c :: d :: rest =>
    (a.toNat * 16777216 + b.toNat * 65536 + c.toNat * 256 + d.toNat) :: beWords rest
  | _ => []

/-- One block of sixteen words. -/
def shaBlock (s : ShaWords) (w : List Nat) : ShaWords :=
  let r := shaRounds shaConstants w s
  { upper := s.upper.add r.upper, lower := s.lower.add r.lower }

/-- The blocks of a padded message, `n` of them. -/
def shaBlocks : Nat → List Nat → ShaWords → ShaWords
  | 0, _, s => s
  | n + 1, w, s => shaBlocks n (w.drop 16) (shaBlock s (w.take 16))

/-- The message padded to whole blocks: 0x80, zeros, and the bit length big-endian. -/
def shaPad (bs : List Byte) : List Byte :=
  bs ++ [0x80] ++ zs ((119 - bs.length % 64) % 64) ++ (le 8 (8 * bs.length)).reverse

/-- The SHA-256 of a byte string (FIPS 180-4). -/
def sha256 (bs : List Byte) : Digest :=
  let p := shaPad bs
  let r := shaBlocks (p.length / 64) (beWords p) shaInit
  BitVec.ofNat 256 ((r.upper.toList ++ r.lower.toList).foldl (fun v x => v * 4294967296 + x) 0)

/-- Eight shifts of the reflected CRC-32C register (polynomial 0x1EDC_6F41 reflected, R245). -/
def crcBits : Nat → Nat → Nat
  | 0, c => c
  | n + 1, c => crcBits n (if c % 2 = 1 then (c / 2) ^^^ 0x82F63B78 else c / 2)

/-- The CRC register after a byte string. -/
def crcBytes : List Byte → Nat → Nat
  | [], c => c
  | b :: bs, c => crcBytes bs (crcBits 8 (c ^^^ b.toNat))

/-- CRC-32C: initial value and final XOR 0xFFFF_FFFF (R245). -/
def crc32c (bs : List Byte) : U32 := BitVec.ofNat 32 (crcBytes bs 0xFFFFFFFF ^^^ 0xFFFFFFFF)

end Sys2Proof.Machine
end

