-- ==== Sys2Proof/Machine/State.lean ====
section
/-! DEFINITION. The state of the tray as plain data: every register, queue, buffer, counter, mode and
pin that the spec gives the block, grouped by the unit that holds it, and the queue of commands
that wait. A field's default is its value at reset (see `State.reset`). -/

namespace Sys2Proof.Machine

/-- Why the block stops. No command of the table stops it with a fault: every malformed or refused
command is answered or counted (R247, R287), so the type has no constructor. Safe. -/
inductive Fault where
  deriving DecidableEq, Repr

/-- Why a command has no meaning in the model. -/
inductive Refusal where
  /-- Raised by an arm of `exec` that has no meaning yet. Safe: the run stops. -/
  | notModelled (mnemonic : String)
  deriving DecidableEq, Repr

/-! ### Enumerations (Tables 2.2, 3.4, 4.2, 6.4) -/

inductive Variant where
  | x
  | l
  | s
  deriving DecidableEq, Repr

inductive Mode where
  | ledger
  | openMode
  deriving DecidableEq, Repr

inductive Role where
  | observer
  | operator
  | admin
  | auditor
  deriving DecidableEq, Repr

/-- Table 4.2. -/
inductive Phase where
  | aon
  | controllers
  | coolantGate
  | waferRamp
  | bist
  | firmware
  | links
  | ready
  | recovery
  | held
  deriving DecidableEq, Repr

/-- Table 3.4. -/
inductive TallyState where
  | acquiring
  | locked
  | slewing
  | holdover
  | unlocked
  deriving DecidableEq, Repr

inductive PortState where
  | down
  | training
  | identity
  | miswired
  | waiting
  | up
  | draining
  | disabled
  deriving DecidableEq, Repr

inductive SiteState where
  | serving
  | idle
  | lending
  | draining
  | isolated
  | failed
  | off
  deriving DecidableEq, Repr

inductive SlotState where
  | empty
  | incomplete
  | unverified
  | verified
  | active
  | trial
  deriving DecidableEq, Repr

/-- Table 12.6. -/
inductive BankState where
  | primary
  | secondary
  | offline
  | resyncing
  | absent
  deriving DecidableEq, Repr

inductive ControllerState where
  | authoritative
  | standby
  | quarantined
  | failed
  | resyncing
  deriving DecidableEq, Repr

/-- The executing receivers of Batten commands (05, "Sequence windows"). -/
inductive Receiver where
  | wafer
  | eaves
  | finial
  | coping
  deriving DecidableEq, Repr

/-! ### Identity (R2-R6, R78, R828) -/

/-- The tray identity that Finial holds: order code, serial, wafer stepping, wafer descriptor, the identity certificate
and its issuers, each Eave's TLS server certificate, whose key the tray identity key certifies (R267), and the factory's
parameter values. -/
structure Identity where
  variant : Variant := .x
  loft64 : Bool := true
  thatchB : Bool := true
  serial : List Byte := [0x53, 0x54, 0x33, 0x36]
  stepping : U16 := 1
  roles : List Nat :=
    [1, 0, 0, 0, 0, 1, 0, 0, 0, 0, 0, 0, 0, 0, 0, 0, 0, 0, 0, 0, 0, 0, 0, 0, 0, 0, 0, 0, 0, 0, 1, 0, 0, 0, 0, 1]
  descriptorGood : Bool := true
  certificates : List (List Byte) := []
  serverCertificates : List (List Byte) := [[], []]
  factory : List (Nat × Nat) := []
  deriving DecidableEq, Repr

/-! ### Batten (05_batten_protocol) -/

/-- A reply or completion notice (R243, Table 5.3), fields apart. -/
structure Reply where
  originator : U32
  sequence : U64
  opcode : U16
  unit : Byte
  inst : U16
  completion : Bool
  status : Byte
  reason : U16
  arg : U16
  payload : List Byte
  deriving DecidableEq, Repr

/-- One sequence that a window remembers: executed, skipped or held since a time (R257, R260), with the path of its
first copy (R262). A running asynchronous operation has no final reply yet (R286). -/
inductive SeqMark where
  | executed (digest : Digest) (path : Path)
  | skipped
  | held (digest : Digest) (command : Instr) (since : Nat)
  deriving DecidableEq, Repr

/-- A sequence window (R255-R261). `highWater` is H; `marks` holds the sequences of the window that
were executed, skipped or held; `kept` the kept replies; `running` the sequences in progress. -/
structure Window where
  highWater : Nat := 0
  anchored : Bool := true
  marks : List (Nat × SeqMark) := []
  kept : List (Nat × Reply) := []
  running : List Nat := []
  deriving DecidableEq, Repr

/-- A role-map entry (Table 6.5). -/
structure RoleEntry where
  issuer : Bool
  role : Role
  fingerprint : Digest
  deriving DecidableEq, Repr

/-- A management TLS connection that passed its handshake (R270, R272). -/
structure Connection where
  id : Nat
  eave : Eave
  fingerprint : Digest
  issuers : List Digest
  session : Option U32
  deriving DecidableEq, Repr

/-- A live session (R273-R277). -/
structure Session where
  originator : U32
  fingerprint : Digest
  issuers : List Digest
  role : Role
  lingering : Bool
  deriving DecidableEq, Repr

/-- A parameter set scheduled for a tick (R297). -/
structure Scheduled where
  originator : U32
  tick : Nat
  entries : List (Nat × Nat)
  deriving DecidableEq, Repr

/-- The asynchronous operations that wait for an event (R283). -/
inductive OpKind where
  | portUp (port : Nat)
  | portDown (port : Nat) (counted : Bool)
  | portAdapt (port : Nat)
  | slateIsolate (site : Nat)
  | slateRestore (site : Nat)
  | collective (collective : Nat)
  | reedDisable (site : Nat) (aborted : Nat)
  | engineDisable (engine : Nat)
  | seal (handle : Nat)
  | journalExport (segment : Nat) (compressed : Bool)
  | replay (replay : Nat)
  | bankOnline (bank : Nat)
  | reacquire (before : Nat)
  | calibration (channel : Nat)
  | roleSwap (tally : Nat)
  | imgVerify (kind : Nat) (slot : Nat) (target : Nat)
  | imgActivate (kind : Nat) (slot : Nat) (target : Nat)
  | restart
  | snapshot (full : Bool)
  | freeze
  deriving DecidableEq, Repr

/-- An operation in progress and the command it answers. -/
structure Op where
  kind : OpKind
  originator : U32
  sequence : U64
  opcode : U16
  unit : Byte
  inst : U16
  accepted : Bool
  path : Path
  deriving DecidableEq, Repr

structure Batten where
  connections : List Connection := []
  sessions : List Session := []
  usedIds : List Nat := []
  windows : List (Nat × Window) := []
  roleMap : List RoleEntry := []
  staged : List (Nat × List (Nat × Nat)) := []
  scheduled : List Scheduled := []
  appliedBy : List Nat := []
  ops : List Op := []
  ridgeOnly : Option Eave := none
  markParams : List (Nat × Nat) := []
  deriving DecidableEq, Repr

/-! ### Power, phase and latches (04_power_up_and_boot, 19) -/

/-- The Coping latch outputs of Table 4.3. -/
structure Latches where
  eaveRstN : BitVec 2 := 0
  cartRailEn : BitVec 4 := 0
  rimRailEn : BitVec 1 := 0
  slateRailEn : BitVec 36 := 0
  slateRstN : BitVec 36 := 0
  waferRstN : BitVec 1 := 0
  bootSrc : BitVec 2 := 0
  deriving DecidableEq, Repr

/-- What the BOOT record lists (R225, Table 12.3), collected along the sequence. -/
structure BootNotes where
  recoveryFallback : Bool := false
  heldLost : Bool := false
  tornDiscarded : Bool := false
  chainResumed : Bool := false
  siteFailures : List Nat := []
  rimFailures : List Nat := []
  epochs : List Nat := [2, 2, 2, 2, 2, 2, 2, 2]
  deriving DecidableEq, Repr

structure Power where
  aonUp : Bool := true
  phase : Phase := .aon
  cause : U16 := 0
  phaseTally : Nat := 0
  step : Nat := 1
  latches : Latches := {}
  bootSrcSampled : BitVec 2 := 0
  slotId : BitVec 5 := 0
  slotPins : BitVec 5 := 0
  busOutOfRange : Bool := false
  busLow : Bool := false
  powerFail : Bool := false
  nextSite : Nat := 0
  gateAlert : Bool := false
  shelfFault : Bool := false
  waferRunning : Bool := false
  slatesRunning : Bool := false
  banksMounted : Bool := false
  loftReady : Bool := true
  quiesced : Bool := false
  restarting : Bool := false
  cableCut : Bool := false
  loftHeld : Bool := false
  boot : BootNotes := {}
  refusedCartridges : List Nat := []
  faultedCartridges : List Nat := []
  emptyBays : List CartridgeId := []
  faultedRim : List Nat := []
  aonCycles : Nat := 1
  deriving DecidableEq, Repr

/-! ### Tally (03_clocks_and_tally) -/

/-- Where tally acquisition stands (Table 3.5). -/
inductive Acquire where
  | idle
  | waitPll
  | waitAnnounce
  | waitMarker
  | checkMarkers (left : Nat)
  deriving DecidableEq, Repr

/-- An anchor (R178): tally at the marker, the time of its capture, PTP value, UTC offset, whether the servo was within
1 us. -/
structure Anchor where
  tally : Nat
  at_ : Nat
  ptpNs : Nat
  utcOffset : Int
  good : Bool
  deriving DecidableEq, Repr

structure TallyUnit where
  value : U64 := 0
  state : TallyState := .acquiring
  cause : U16 := 0
  counting : Bool := false
  syncPresent : Bool := true
  pllLocked : Bool := false
  acquire : Acquire := .idle
  announced : Option Nat := none
  expected : Option Nat := none
  awaitAnnounced : Bool := false
  lastMarker : Option Nat := none
  lastMark : Option Nat := none
  lastError : Int := 0
  slewLeft : Int := 0
  before : Nat := 0
  loaded : Bool := false
  skipped : Option Nat := none
  anchors : List Anchor := []
  servoA : PtpServo := { acquired := false, offsetNs := 0, utcOffset := 0 }
  servoB : PtpServo := { acquired := false, offsetNs := 0, utcOffset := 0 }
  lastPtpNs : Nat := 0
  deriving DecidableEq, Repr

/-! ### Counters (R147-R154) -/

structure Counters where
  live : List (Nat × Nat) := []
  shadow : List (Nat × Nat) := []
  shadowId : Nat := 0
  shadowTally : Nat := 0
  nextId : Nat := 1
  armed : Option (Nat × Nat) := none
  markPending : Bool := false
  lastPeriodic : Option Nat := none
  deriving DecidableEq, Repr

/-! ### Ports (07_fabric_links) -/

/-- Per-class values of the credited classes 0-3 and 7, 16 bits each (R412). -/
structure Credits where
  c0 : U16 := 0
  c1 : U16 := 0
  c2 : U16 := 0
  c3 : U16 := 0
  c7 : U16 := 0
  deriving DecidableEq, Repr

/-- Where PORT_ADAPT stands on a port (R440-R442). -/
inductive Adapt where
  | none
  | asked
  | draining
  | retraining
  deriving DecidableEq, Repr

/-- What a queued frame is (Table 8.1, R465). -/
inductive QKind where
  | data
  | loftResponse
  | result (collective : Nat) (tile : Nat) (last : Bool)
  | retire (collective : Nat) (tile : Nat)
  | sever
  | dormer (session : Nat)
  | skylight
  | batten
  deriving DecidableEq, Repr

/-- A queued frame: the triple it belongs to (an origin queue has input 160 + site, R484), the slate
that holds it, its shingles, and the frame. -/
structure QFrame where
  input : Nat
  output : Nat
  cls : Nat
  site : Nat
  shingles : Nat
  kind : QKind
  header : FrameHeader
  payload : List Byte
  deriving DecidableEq, Repr

/-- A preemptable frame that a port is sending, or whose transmission is suspended (R419-R421): its
segment's fragment count, the header and payload blocks sent when the segment began, and the tick at
which it began. -/
structure TxFrame where
  frame : QFrame
  fragment : Nat
  sent : Nat
  since : Nat
  deriving DecidableEq, Repr

structure Port where
  state : PortState := .down
  cause : U16 := 0
  width : Nat := 0
  lanes : BitVec 4 := 0
  fecL : Bool := false
  lastChange : Nat := 0
  step : Nat := 0
  ownLanes : BitVec 4 := 15
  farFecL : Bool := false
  farSelectBad : Bool := false
  ownBer : U32 := 0
  farBer : U32 := 0
  round : U32 := 0
  switchRound : U32 := 0
  fecSOnly : Bool := false
  badAligns : Nat := 0
  idBlock : Option IdentityBlock := none
  idCount : Nat := 0
  received : Option IdentityBlock := none
  adapt : Adapt := .none
  moduleReady : Bool := false
  moduleQualified : Bool := false
  moduleOffers : Bool := false
  grantOut : Credits := {}
  usedIn : Credits := {}
  grantIn : Credits := {}
  usedOut : Credits := {}
  holdIn : BitVec 5 := 0
  holdOut : BitVec 5 := 0
  allocLossless : Nat := 0
  allocExpress : Nat := 0
  openRx : Option OpenFrame := none
  parked : Option OpenFrame := none
  discarding : Bool := false
  sending : Option TxFrame := none
  suspended : Option TxFrame := none
  skylightK : Nat := 0
  requestAnswered : Bool := false
  exchanges : List Int := []
  freezeIdle : Bool := false
  lostLanes : BitVec 4 := 0
  stale : Credits := {}
  deficits : List Nat := [0, 0, 0, 0, 0, 0, 0]
  served : List Nat := [195, 195, 195, 195, 195, 195, 195, 195]
  turn : Nat := 6
  faultedRim : Bool := false
  deriving DecidableEq, Repr

/-! ### Slates and the switch core (02, 08) -/

/-- One engine of the zoo (Table 9.4): switched off by command, failed, operations queued. -/
structure Engine where
  disabled : Bool := false
  faulted : Bool := false
  queued : Nat := 0
  deriving DecidableEq, Repr

/-- A skylight sample (R512). -/
structure Sample where
  tally : Nat
  port : Nat
  length : Nat
  head : List Byte
  deriving DecidableEq, Repr

structure Site where
  state : SiteState := .off
  cause : U16 := 0
  bistPassed : Bool := false
  fuseTrips : List Nat := []
  reedsDisabled : Bool := false
  reedsGrace : Bool := false
  engines : List Engine := [{}, {}, {}, {}, {}, {}]
  failedSlices : List Nat := []
  rams : List Nat := [0, 1, 2, 3, 4, 5, 6, 7, 8, 9, 10, 11, 12, 13, 14, 15]
  spareRam : Nat := 16
  spareLost : Bool := false
  free : Nat := 0
  queued : Nat := 0
  engineHeld : Nat := 0
  inFlight : Nat := 0
  walkPending : Bool := false
  prevCandidates : List Nat := []
  ring : List Sample := []
  newImage : Bool := false
  bistRunning : Bool := false
  restoreWaiting : Bool := false
  deriving DecidableEq, Repr

/-- A re-homing that has not reached step 6 (Table 2.3). `booting` marks an isolation before the Thatch banks were
mounted, which only the BOOT record names (R1076). -/
structure Rehoming where
  site : Nat
  target : Option Nat
  ports : List (Nat × Option Nat)
  lofts : List (Nat × Option Nat)
  drain : Bool
  booting : Bool := false
  startTally : Nat
  cause : U16
  deriving DecidableEq, Repr

/-- A dormer session's counts (DORMER_STATUS). -/
structure Dormer where
  copies : Nat := 0
  dropped : Nat := 0
  deriving DecidableEq, Repr

structure Switch where
  portSite : List (Option Nat) := []
  loftSite : List (Option Nat) := []
  queue : List QFrame := []
  dormerQueue : List QFrame := []
  dormers : List Dormer := [{}, {}, {}, {}, {}, {}, {}, {}]
  severed : List (Nat × Nat × Nat) := []
  rehomings : List Rehoming := []
  brokenLinks : List Nat := []
  deriving DecidableEq, Repr

/-! ### Reduction (01, 09) -/

inductive ReduceOp where
  | sum
  | mean
  | min
  | max
  | product
  deriving DecidableEq, Repr

/-- Table 6.4, format. -/
inductive Format where
  | fp32
  | bf16
  | fp16
  | e5m2
  | e4m3
  | int32
  | int8
  deriving DecidableEq, Repr

structure Group where
  id : Nat
  members : List (Nat × Nat)
  powerHeavy : Bool
  stepW : Nat
  record : Nat
  deriving DecidableEq, Repr

structure Decision where
  id : Nat
  regions : List (Nat × Digest)
  forced : Bool
  poisoned : Bool
  record : Nat
  deriving DecidableEq, Repr

/-- One element's long register (R24) with the presence bits of R554 and what AG1 keeps beside the
sum (R42); CANONICAL contributions wait in `buffer` (R47), and a MIN or MAX keeps its selection there. -/
structure LongRegister where
  index : Nat
  present : List Nat := []
  acc : BitVec 320 := 0
  nan : Bool := false
  pinf : Bool := false
  ninf : Bool := false
  allNegZero : Bool := true
  buffer : List (Nat × Nat) := []
  deriving DecidableEq, Repr

inductive CollectiveState where
  | waiting
  | reducing
  | rampWait
  | released
  | aborted
  deriving DecidableEq, Repr

structure Collective where
  id : Nat
  decision : Nat
  group : Group
  elements : Nat
  op : ReduceOp
  input : Format
  output : Format
  canonical : Bool
  admission : Nat
  yealms : List (Nat × Nat)
  depth : Nat
  home : Nat
  state : CollectiveState := .waiting
  registers : List LongRegister := []
  tiles : List (Nat × List Nat) := []
  lastTile : Nat := 0
  lastWaiting : List Nat := []
  flags : BitVec 3 := 0
  poisonTiles : List Nat := []
  classes : List (Nat × Nat) := []
  cause : Nat := 0
  completed : Nat := 0
  release : Nat := 0
  delay : Nat := 0
  digest : Digest := 0
  poison : Bool := false
  deriving DecidableEq, Repr

/-- A CONTRIB frame that no slate recognises yet (R552). -/
structure EarlyFrame where
  port : Nat
  site : Nat
  header : FrameHeader
  payload : List Byte
  deriving DecidableEq, Repr

/-- A CONTRIB frame that a flush took before its collective was recognised (R489, R552): the collective's ID, the SEVER
cause of the flush, and the time at which the frame's hold would have ended. -/
structure FlushedContribution where
  collective : Nat
  cause : Nat
  until_ : Nat
  deriving DecidableEq, Repr

structure Reduction where
  groups : List Group := []
  decisions : List Decision := []
  collectives : List Collective := []
  done : List Collective := []
  early : List EarlyFrame := []
  rampQueue : List Nat := []
  tokens : Nat := 5000000000000
  underNotice : List (Nat × Nat) := []
  flushed : List FlushedContribution := []
  deriving DecidableEq, Repr

/-! ### Loft (10) -/

inductive RegionKind where
  | working
  | sealing
  | isSealed
  deriving DecidableEq, Repr

structure Region where
  handle : Nat
  kind : RegionKind
  base : Nat
  size : Nat
  digest : Digest
  poisonSeen : Bool
  resealing : Bool
  deriving DecidableEq, Repr

/-- A request that reached a Loft block and is not yet answered (R605, R608); a refused one waits for the answers of
those before it. -/
structure LoftRequest where
  block : Nat
  write : Bool
  port : Nat
  header : FrameHeader
  address : Nat
  length : Nat
  data : List Byte
  handle : Nat
  forced : Bool
  lost : Bool
  refused : Bool := false
  deriving DecidableEq, Repr

structure Loft where
  regions : List Region := []
  nextHandle : Nat := 1
  requests : List LoftRequest := []
  waiting : List LoftRequest := []
  seals : List Nat := []
  cells : List Host.Cell := []
  poisonLines : List Nat := []
  deriving DecidableEq, Repr

/-! ### Journal (12) -/

/-- The body of a COLLECTIVE record (Table 12.3). -/
structure CollectiveRecord where
  collective : Nat
  decision : Nat
  decisionRecord : Nat
  groupRecord : Nat
  group : Nat
  elements : Nat
  members : Nat
  contributed : Nat
  op : Nat
  input : Nat
  output : Nat
  cflags : Nat
  flags : Nat
  abortCause : Nat
  admission : Nat
  release : Nat
  delay : Nat
  digest : Digest
  deriving DecidableEq, Repr

/-- Record bodies by type (Table 12.3). Each constructor's arguments are the body's fields in order,
reserved bytes apart. -/
inductive RecordBody where
  | collective (c : CollectiveRecord)
  | decision (decision : Nat) (event : Nat) (n : Nat) (forcedIndex : Nat) (set : Digest) (r0 : Digest) (r1 : Digest)
  | group (group : Nat) (n : Nat) (event : Nat) (flags : Nat) (stepW : Nat) (list : Digest) (members : List (Nat × Nat))
  | groupMembers (count : Nat) (first : Nat) (owner : Nat) (members : List (Nat × Nat))
  | decisionRegions (count : Nat) (first : Nat) (owner : Nat) (digests : List Digest)
  | region (handle : Nat) (event : Nat) (kind : Nat) (base : Nat) (size : Nat) (line : Nat) (refs : Nat) (digest : Digest)
  | fwset (reason : Nat) (tested : Nat) (stepping : Nat) (n : Nat) (set : Digest) (manifest : Digest) (wafer : Nat) (eaveA : Nat) (eaveB : Nat) (finial : Nat) (coping : Nat)
  | boot (bootSrc : Nat) (flags : Nat) (controllers : Nat) (phase : Nat) (masks : Nat) (cause : Nat) (sites : Nat) (rim : Nat) (epochs : List Nat) (cartridges : Nat) (cycles : Nat) (plan : Digest) (roleMap : Digest)
  | param (event : Nat) (mode : Nat) (entries : Nat) (originator : Nat) (tick : Nat) (digest : Digest) (masks : Nat)
  | tally (event : Nat) (old : Nat) (new : Nat) (cause : Nat) (before : Nat) (after : Nat) (error : Int) (offset : Nat) (clamp : Nat)
  | freeze (event : Nat) (trigger : Nat) (kind : Nat) (destructive : Nat) (freezeTally : Nat) (eventTally : Nat) (collective : Nat) (bytes : Nat) (classes : Nat) (duration : Nat)
  | control (event : Nat) (unit : Nat) (old : Nat) (new : Nat) (reason : Nat) (tick : Nat) (number : Nat) (originator : Nat) (fill : Nat) (digest1 : Digest) (digest2 : Digest)
  | fabric (event : Nat) (mode : Nat) (cause : Nat) (port : Nat) (fromSite : Nat) (toSite : Nat) (tick : Nat) (gutter : Nat) (severs : Nat) (duration : Nat) (collective : Nat) (identity : Nat)
  | mark (event : Nat) (tag : Nat) (originator : Nat) (text : List Byte) (first : Nat) (last : Nat)
  deriving DecidableEq, Repr

/-- A record: the common header of Table 12.1 and its body. -/
structure Record where
  flags : Nat
  mode : Nat
  ag : Nat
  utcQuality : Nat
  tallyState : Nat
  number : Nat
  tally : Nat
  ptpNs : Nat
  utcOffset : Int
  builder : Nat
  fwset : Nat
  prev : Digest
  body : RecordBody
  deriving DecidableEq, Repr

/-- A sealed segment's data beyond its records (Tables 12.4 and 12.5). -/
structure Segment where
  number : Nat
  signed : Bool
  acked : Bool
  lost : Bool
  reclaimed : Bool
  sealTally : Nat
  prev : Digest
  digest : Digest
  sigR : BitVec 384
  sigS : BitVec 384
  deriving DecidableEq, Repr

/-- The write point of a bank's ring (R706, R707): its block and page, the records in that page, the turns of the ring
and the retired blocks. -/
structure Ring where
  block : Nat := 0
  page : Nat := 0
  filled : Nat := 0
  turns : Nat := 0
  retired : List Nat := []
  deriving DecidableEq, Repr

structure Bank where
  state : BankState := .offline
  faulted : Bool := false
  durable : Nat := 0
  resyncCopied : Nat := 0
  factoryBad : Nat := 0
  grownBad : Nat := 0
  ring : Ring := {}
  invCycles : List (Nat × Nat) := []
  invHours : List (Nat × Nat) := []
  deriving DecidableEq, Repr

/-- What Finial retains of the chain at each seal (R691). -/
structure ChainHead where
  segment : Nat := 0
  segmentDigest : Digest := 0
  record : Nat := 0
  recordHash : Digest := 0
  deriving DecidableEq, Repr

/-- A replay in progress or ended (R731-R734). -/
structure Replay where
  id : Nat
  decision : Nat
  input : Nat
  regions : List Nat
  plan : List (CollectiveRecord × Nat × Nat)
  outcomes : List (Nat × Nat)
  state : Nat
  yealms : List (Nat × Nat) := []
  depth : Nat := 0
  deriving DecidableEq, Repr

structure Journal where
  bankA : Bank := {}
  bankB : Bank := {}
  durable : List Record := []
  waiting : List Record := []
  next : Nat := 1
  lastHash : Digest := 0
  fwset : Nat := 0
  segments : List Segment := []
  openSince : Option Nat := none
  head : ChainHead := {}
  fillWarned : Bool := false
  halted : Bool := false
  unjournalled : Nat := 0
  unjournalledFirst : Nat := 0
  unjournalledLast : Nat := 0
  frozenNotes : List (RecordBody × Nat × Nat) := []
  replays : List Replay := []
  nextReplay : Nat := 1
  deriving DecidableEq, Repr

/-! ### Freeze (13) -/

/-- A request to freeze that D1 has not acted on yet (Table 13.1). -/
structure FreezeRequest where
  code : Nat
  collective : Nat
  classes : Nat
  deriving DecidableEq, Repr

structure Snapshot where
  full : Bool
  bytes : Nat
  durationMs : Nat
  deriving DecidableEq, Repr

structure FreezeUnit where
  frozen : Bool := false
  requests : List FreezeRequest := []
  freezeTally : Nat := 0
  trigger : Nat := 0
  collective : Nat := 0
  classes : Nat := 0
  since : Nat := 0
  destructive : Bool := false
  armed : Option Nat := none
  frzLow : Bool := false
  reading : Option Bool := none
  snapshots : List Snapshot := []
  snapRequested : Bool := false
  cancelled : Option Nat := none
  notice : Nat := 0
  powerFail : Bool := false
  deriving DecidableEq, Repr

/-! ### Controllers and referee (14) -/

structure EaveUnit where
  state : ControllerState := .failed
  booted : Bool := false
  missedRun : Nat := 0
  missed : Nat := 0
  verdict : Nat := 0
  since : Nat := 0
  lastCount : Option Nat := none
  heard : Bool := false
  cleanRun : Nat := 0
  digestSeq : Nat := 0
  digest : Digest := 0
  mismatches : Nat := 0
  restarts : List Nat := []
  releasing : Bool := false
  powerUp : Bool := false
  deriving DecidableEq, Repr

/-- What a full self-test was ordered for (R804, R820). -/
inductive SelfTest where
  | none
  | diverged (report : Diverged)
  | swap (tally : Nat)
  deriving DecidableEq, Repr

/-- A vote that Finial has posted (R1047). -/
structure Vote where
  id : Nat
  report : Diverged
  deriving DecidableEq, Repr

/-- A sideband event (R1046). -/
structure Event where
  number : Nat
  kind : Nat
  channel : Nat
  heard : Bool
  deriving DecidableEq, Repr

structure Referee where
  booted : Bool := false
  a : EaveUnit := {}
  b : EaveUnit := {}
  selftest : SelfTest := .none
  vote : Option Vote := none
  nextVote : Nat := 1
  events : List Event := []
  nextEvent : Nat := 1
  readyTally : Nat := 0
  swapIndex : Nat := 1
  swapTick : Nat := 0
  swapped : Option Eave := none
  swapAnchor : Bool := false
  digestsAgree : Bool := true
  rackId : U32 := 0
  rowPos : U32 := 0
  invSel : U16 := 0
  noController : Bool := false
  chosen : Option Eave := none
  deriving DecidableEq, Repr

/-! ### Sensing, coolant and analogue outputs (15, 16) -/

inductive Comparator where
  | unknown
  | normal
  | alarm
  | indeterminate
  deriving DecidableEq, Repr

/-- One SENSE channel. `last` is its last valid word since power-up. -/
structure SenseChannel where
  raw : Int := -8388608
  last : Option Int := none
  settling : Nat := 3
  valid : Bool := false
  comparator : Comparator := .unknown
  run : Nat := 0
  faulted : Bool := false
  syncPending : Bool := false
  responsePending : Bool := false
  deriving DecidableEq, Repr

/-- What a channel held when its fallback was entered in a D9 cycle, and whether that engaged the deglitcher. -/
structure FallbackEntry where
  cycle : Nat
  code : U16
  output : U16
  holding : Bool
  engaged : Bool
  deriving DecidableEq, Repr

/-- One AOUT channel. `written` is the D9 cycle of the last write. -/
structure AoutChannel where
  powered : Bool := true
  span : Nat := 0
  code : U16 := 0
  output : U16 := 0
  holding : Bool := false
  fault : Option Compliance := none
  fallback : Bool := false
  written : Option Nat := none
  entry : Option FallbackEntry := none
  deriving DecidableEq, Repr

/-- The calibration in progress in the Coping unit (R884, R888). -/
structure Calibration where
  kind : Nat
  channel : Nat
  step : Nat
  mean : Int
  offset : Int
  gain : Int
  failed : Bool
  referencesBad : Bool
  deriving DecidableEq, Repr

/-- The Coping unit. `flowShort` is when a flow channel last read below coolant.flow_start_lpm (R201, R230), and `flowOff`
when zone W went off while the period of the flow trip ran (R894). -/
structure Coping where
  sense : List SenseChannel := []
  masks : BitVec 16 := 0
  aout : List AoutChannel := []
  calibration : Option Calibration := none
  syncPending : Bool := false
  flowAlarm : Bool := false
  flowShort : Option Nat := none
  flowOff : Option Nat := none
  pendingParams : List (Nat × Nat × Nat) := []
  deriving DecidableEq, Repr

/-! ### Firmware (17) -/

structure ImageSlot where
  kind : Nat
  slot : Nat
  target : Nat
  state : SlotState := .empty
  owner : U32 := 0
  total : Nat := 0
  image : List Byte := []
  busy : Bool := false
  deriving DecidableEq, Repr

/-- One copy of a boot pointer (R966). -/
structure PointerCopy where
  valid : Bool := false
  generation : Nat := 0
  slot : Nat := 0
  trial : Bool := false
  left : Nat := 0
  deriving DecidableEq, Repr

structure Pointer where
  kind : Nat
  target : Nat
  first : PointerCopy := {}
  second : PointerCopy := {}
  deriving DecidableEq, Repr

/-- An image that a unit runs (FW_IDENTITY, R685). -/
structure Running where
  kind : Nat
  slot : Nat
  target : Nat
  version : U32
  sha : Digest
  epochs : BitVec 64
  generations : List Nat
  deriving DecidableEq, Repr

/-- The activation in progress (R960). For a wafer image, `loading` holds the sites that load it and run
slate BIST, `restart` marks an activation that restarts the wafer (R965), and `reverting` one that a failing
site has stopped (R964). For an Eave image, `loading` holds the Eave once it is held in reset. `ended` marks one whose
command a RESTART has completed (R383). -/
structure Activation where
  kind : Nat
  slot : Nat
  target : Nat
  loading : List Nat := []
  restart : Bool := false
  reverting : Bool := false
  failedSite : Nat := 0
  ended : Bool := false
  deriving DecidableEq, Repr

structure Firmware where
  slots : List ImageSlot := []
  pointers : List Pointer := []
  running : List Running := []
  lastBooted : List Running := []
  manifest : List Byte := []
  manifestGood : Bool := false
  untested : Bool := false
  activation : Option Activation := none
  reverify : List (Nat × Nat × Nat) := []
  deriving DecidableEq, Repr

/-! ### Patrol and boundary scan (18) -/

/-- A slice of the patrol list (R991): its site and its number on the site (yealms 0-511, banks
512-551, VOQ RAMs 552-568), or a mesh link. A cycle's list is the slices of `Patrol.sites`, then `Patrol.links`. -/
inductive Slice where
  | unit (site : Nat) (number : Nat)
  | link (number : Nat)
  deriving DecidableEq, Repr

inductive SliceStage where
  | notice
  | drainWait
  | testing
  deriving DecidableEq, Repr

structure TapUnit where
  ir : Byte := 0x02
  refused : Bool := false
  dr : Nat := 0
  deriving DecidableEq, Repr

structure Patrol where
  cycleStart : Nat := 0
  started : Bool := false
  sites : List Nat := []
  links : List Nat := []
  count : Nat := 0
  next : Nat := 0
  done : Nat := 0
  period : Nat := 0
  interval : Nat := 0
  noticeMs : Nat := 50
  current : Option (Slice × SliceStage) := none
  noticeAt : Nat := 0
  coping : TapUnit := {}
  eaveA : TapUnit := {}
  eaveB : TapUnit := {}
  wafer : TapUnit := {}
  selected : Option Nat := none
  mbistSite : Option Nat := none
  mbistWait : Bool := false
  mbistDone : Bool := false
  deriving DecidableEq, Repr

/-! ### What the tray sends -/

inductive TallySend where
  | broadcast
  | request
  | response
  deriving DecidableEq, Repr

/-- A SNAP frame (Table 13.6): the fields of its header. -/
structure SnapFrame where
  channel : Nat
  type : Nat
  source : Nat
  sequence : Nat
  length : Nat
  offset : Nat
  freezeTally : Nat
  deriving DecidableEq, Repr

/-- Everything the tray sends, as its partners and clients see it. -/
inductive Out where
  | reply (path : Path) (r : Reply)
  | diverged (originator : U32) (sequence : U64) (first second : Digest) (firstPath secondPath : Path)
  | closed (conn : Nat)
  | serverCertificate (conn : Nat) (chain : List (List Byte))
  | refusedHandshake (conn : Nat)
  | frame (port : Nat) (f : QFrame)
  | stomp (port : Nat)
  | cont (port : Nat) (cls : Nat) (fragment : Nat)
  | identity (port : Nat) (block : IdentityBlock)
  | lstate (port : Nat) (block : LstateBlock)
  | credit (port : Nat) (block : CreditBlock)
  | tally (port : Nat) (kind : TallySend) (state : Nat) (frac : BitVec 4) (value : U64) (t2 : U64) (t1 : U64)
  | align (port lane width : Nat) (round : U32)
  | freezeIdle (port : Nat)
  | moduleSelect (port controlSet hostLanes laneMbps : Nat)
  | tallyMark (value : Nat)
  | snapshot (full : Bool) (directory : List (Nat × Nat × Nat × Nat)) (frames : List SnapFrame)
  deriving DecidableEq, Repr

/-! ### The state -/

/-- The whole tray. `pending` is the queue of commands that wait, first in, first out. `now` counts the
model's ticks of 3.2 ns since the always-on rail came up, and `freeCount` numbers its free values. -/
structure State where
  ident : Identity := {}
  mode : Mode := .ledger
  params : List (Nat × Nat) := []
  plan : List U64 := []
  planLoaded : Bool := false
  power : Power := {}
  batten : Batten := {}
  tally : TallyUnit := {}
  counters : Counters := {}
  ports : List Port := []
  sites : List Site := []
  switch : Switch := {}
  reduction : Reduction := {}
  loft : Loft := {}
  journal : Journal := {}
  freezeUnit : FreezeUnit := {}
  referee : Referee := {}
  coping : Coping := {}
  firmware : Firmware := {}
  patrol : Patrol := {}
  invCycles : List (Nat × Nat) := []
  invHours : List (Nat × Nat) := []
  invAt : Nat := 0
  out : List Out := []
  now : Nat := 0
  freeCount : Nat := 0
  pending : List Instr := []
  deriving DecidableEq, Repr

/-- The AOUT channel after the reset values of Table 16.1 (R924). -/
def AoutChannel.reset (n : Nat) : AoutChannel :=
  let code : U16 := if n < 4 then 0x0000 else if n < 6 then 0x8000 else 0xFFFF
  { span := if n < 4 then 0 else if n < 6 then 5 else 4, code := code, output := code }

/-- The default serving site of each port and Loft block with the factory-default corners (R88, R89). -/
def defaultActive : List Nat :=
  [1, 2, 3, 4, 6, 7, 8, 9, 10, 11, 12, 13, 14, 15, 16, 17, 18, 19, 20, 21, 22, 23, 24, 25, 26, 27, 28, 29, 31, 32, 33, 34]

/-- The role map as shipped: one entry, the provisioning certificate as ADMIN (R269). The certificate's
fingerprint is the model's choice. -/
def shippedRoleMap : List RoleEntry :=
  [{ issuer := false, role := .admin, fingerprint := 1 }]

/-- The tray right after the always-on rail has come up for the first time (R193 step 1, Table 4.3). -/
def State.reset : State :=
  { ports := List.replicate 160 {}
    sites := List.replicate 36 {}
    switch :=
      { portSite := (List.range 160).map fun p => defaultActive[p / 5]?
        loftSite := (List.range 32).map fun n => defaultActive[n]? }
    batten := { roleMap := shippedRoleMap }
    coping :=
      { sense := List.replicate 16 {}
        aout := (List.range 8).map AoutChannel.reset } }

end Sys2Proof.Machine
end

