-- ==== Sys2Proof/Machine/Ops.lean ====
section
/-! DEFINITION. The named operations that every family of commands uses: sparse maps, counters, parameters
in force, ports, sites, free values, outputs, phases, and the order-code questions. -/

namespace Sys2Proof.Machine

/-! ### Sparse maps: ascending keys, no entry at the default value -/

/-- The value stored at a key. -/
def lookup {α : Type} : List (Nat × α) → Nat → Option α
  | [], _ => none
  | (k, v) :: rest, n => if k = n then some v else lookup rest n

/-- The map with a key set, ascending. -/
def put {α : Type} (n : Nat) (v : α) : List (Nat × α) → List (Nat × α)
  | [] => [(n, v)]
  | (k, w) :: rest =>
    if n < k then (n, v) :: (k, w) :: rest
    else if n = k then (n, v) :: rest
    else (k, w) :: put n v rest

/-- The map with a key removed. -/
def erase {α : Type} (n : Nat) : List (Nat × α) → List (Nat × α)
  | [] => []
  | (k, w) :: rest => if k = n then rest else (k, w) :: erase n rest

/-- A list in ascending order; elements that the order does not tell apart keep their places. -/
def insertBy {α : Type} (before : α → α → Bool) (x : α) : List α → List α
  | [] => [x]
  | y :: rest => if before x y then x :: y :: rest else y :: insertBy before x rest

def sortBy {α : Type} (before : α → α → Bool) : List α → List α
  | [] => []
  | x :: rest => insertBy before x (sortBy before rest)

/-! ### Outputs and free values -/

/-- Sends one thing: `out` holds what the tray has sent, newest first. -/
def emit (o : Out) (s : State) : State := { s with out := o :: s.out }

/-- The next free-value index; `Config`'s opaque functions applied to it are the free values. -/
def bumpFree (s : State) : State := { s with freeCount := s.freeCount + 1 }

/-! ### Status and reason codes (Tables 6.1 and 6.3) -/

def stOk : Nat := 0x00
def stAccepted : Nat := 0x01
def stAbsent : Nat := 0x10
def stDisabled : Nat := 0x11
def stFaulted : Nat := 0x12
def stBusy : Nat := 0x13
def stPrecond : Nat := 0x14
def stRange : Nat := 0x15
def stEpoch : Nat := 0x16
def stDenied : Nat := 0x17
def stStale : Nat := 0x18
def stDiverged : Nat := 0x19
def stAborted : Nat := 0x1A
def stLedgerHalt : Nat := 0x1B
def stUnknownOp : Nat := 0x1F

def rVersion : Nat := 0x01
def rReserved : Nat := 0x02
def rLength : Nat := 0x03
def rPath : Nat := 0x04
def rRole : Nat := 0x05
def rWindow : Nat := 0x06
def rNotSeen : Nat := 0x07
def rEntry : Nat := 0x08
def rField : Nat := 0x09
def rNotFound : Nat := 0x0A
def rExists : Nat := 0x0B
def rMode : Nat := 0x0C
def rPhase : Nat := 0x0D
def rTally : Nat := 0x0E
def rFrozen : Nat := 0x0F
def rEpoch : Nat := 0x10
def rUntested : Nat := 0x11
def rInFlight : Nat := 0x12
def rRefcount : Nat := 0x13
def rSessions : Nat := 0x14
def rSetFull : Nat := 0x15
def rScheduled : Nat := 0x16
def rConflict : Nat := 0x17
def rEmptySet : Nat := 0x18
def rApplied : Nat := 0x19
def rDigest : Nat := 0x1A
def rAg : Nat := 0x1B
def rSignature : Nat := 0x1C
def rIncomplete : Nat := 0x1D
def rUnverified : Nat := 0x1E
def rNotTrial : Nat := 0x1F
def rActiveSlot : Nat := 0x20
def rThawWindow : Nat := 0x21
def rNotFrozen : Nat := 0x22
def rPreStart : Nat := 0x23
def rPreEnd : Nat := 0x24
def rNoPartner : Nat := 0x25
def rNoModule : Nat := 0x26
def rNotSealed : Nat := 0x27
def rNotWorking : Nat := 0x28
def rLastBank : Nat := 0x29
def rLastAdmin : Nat := 0x2A
def rNoStandby : Nat := 0x2B
def rBanks : Nat := 0x2C
def rFull : Nat := 0x2D
def rOutstanding : Nat := 0x2E
def rNoSpace : Nat := 0x2F
def rGroups : Nat := 0x30
def rReleased : Nat := 0x31
def rUnit : Nat := 0x32
def rTarget : Nat := 0x33
def rNotServing : Nat := 0x34
def rBothEaves : Nat := 0x35
def rNoController : Nat := 0x40
def rWaferBist : Nat := 0x41
def rPushTimeout : Nat := 0x42
def rNoImage : Nat := 0x43
def rBusRange : Nat := 0x44
def rNoPlan : Nat := 0x45
def rDuplicatePeer : Nat := 0x46
def rNoSlate : Nat := 0x47
def rBadSlot : Nat := 0x48
def rClockFault : Nat := 0x49
def rRehome : Nat := 0x4A
def rTallyWait : Nat := 0x4B
def rTallyAhead : Nat := 0x4C
def rAdminDown : Nat := 0x4D
def rAudit : Nat := 0x4E
def rNoRackId : Nat := 0x4F
def rNoRow : Nat := 0x50
def rRailOn : Nat := 0x51
def rDormerPort : Nat := 0x52
def rShareInUse : Nat := 0x53
def rFuseTrip : Nat := 0x54
def rPatrolFail : Nat := 0x55
def rIsolateCmd : Nat := 0x56
def rActivation : Nat := 0x57
def rRailOff : Nat := 0x58
def rCoreFault : Nat := 0x59

/-! ### Codes of enumerations (Tables 2.2, 3.4, 4.2, 6.4) -/

def Phase.code : Phase → Nat
  | .aon => 0 | .controllers => 1 | .coolantGate => 2 | .waferRamp => 3 | .bist => 4
  | .firmware => 5 | .links => 6 | .ready => 7 | .recovery => 8 | .held => 9

def TallyState.code : TallyState → Nat
  | .acquiring => 0 | .locked => 1 | .slewing => 2 | .holdover => 3 | .unlocked => 4

def PortState.code : PortState → Nat
  | .down => 0 | .training => 1 | .identity => 2 | .miswired => 3 | .waiting => 4
  | .up => 5 | .draining => 6 | .disabled => 7

def SiteState.code : SiteState → Nat
  | .serving => 0 | .idle => 1 | .lending => 2 | .draining => 3 | .isolated => 4
  | .failed => 5 | .off => 6

def SlotState.code : SlotState → Nat
  | .empty => 0 | .incomplete => 1 | .unverified => 2 | .verified => 3 | .active => 4 | .trial => 5

def BankState.code : BankState → Nat
  | .primary => 0 | .secondary => 1 | .offline => 2 | .resyncing => 3 | .absent => 4

def ControllerState.code : ControllerState → Nat
  | .authoritative => 0 | .standby => 1 | .quarantined => 2 | .failed => 3 | .resyncing => 4

def Role.code : Role → Nat
  | .observer => 0 | .operator => 1 | .admin => 2 | .auditor => 3

def Role.ofCode : Nat → Role
  | 1 => .operator | 2 => .admin | 3 => .auditor | _ => .observer

def Mode.code : Mode → Nat
  | .ledger => 0 | .openMode => 1

def Format.code : Format → Nat
  | .fp32 => 0 | .bf16 => 1 | .fp16 => 2 | .e5m2 => 3 | .e4m3 => 4 | .int32 => 5 | .int8 => 6

def Format.ofCode : Nat → Format
  | 0 => .fp32 | 1 => .bf16 | 2 => .fp16 | 3 => .e5m2 | 4 => .e4m3 | 5 => .int32 | _ => .int8

def ReduceOp.code : ReduceOp → Nat
  | .sum => 0 | .mean => 1 | .min => 2 | .max => 3 | .product => 4

def ReduceOp.ofCode : Nat → ReduceOp
  | 0 => .sum | 1 => .mean | 2 => .min | 3 => .max | _ => .product

def Eave.code : Eave → Nat
  | .a => 0 | .b => 1

def bit (b : Bool) : Nat := if b then 1 else 0

/-! ### Order code (R2, R3, Table 0.1) -/

def hasReeds (s : State) : Bool := s.ident.variant != .s
def hasLoft (s : State) : Bool := s.ident.variant != .s
def hasOptical (s : State) : Bool := s.ident.variant != .l

/-- A port of the tray that the order code includes (Table 0.1). -/
def portFitted (p : Nat) (s : State) : Bool := p < 128 || (p < 160 && hasOptical s)

/-- The feature word (R7, Table 0.3). -/
def featureWord (s : State) : Nat :=
  1 + 2 * bit (hasReeds s) + 4 * bit (hasLoft s) + 8 * bit (hasLoft s && s.ident.loft64) +
    16 * bit (hasOptical s) + 32 * bit s.ident.thatchB

/-- The order code's text (R3). -/
def orderCode (s : State) : List Byte :=
  let v := match s.ident.variant with | .x => "X" | .l => "L" | .s => "S"
  let l := match s.ident.variant with
    | .s => "00"
    | _ => if s.ident.loft64 then "64" else "32"
  ascii ("NV-ST36-" ++ v ++ "-" ++ l ++ "-" ++ (if s.ident.thatchB then "2" else "1"))

/-- The default mode of the variant (Table 0.1, R6). -/
def defaultMode (s : State) : Mode := if s.ident.variant = .s then .openMode else .ledger

/-! ### Counters (R147-R154, R367) -/

/-- A counter or parameter ID (Table 5.7): unit, instance, code. -/
def idOf (unit inst code : Nat) : Nat := unit * 16777216 + inst * 256 + code

/-- Adds to a counter, 64 bits wide (R150). -/
def countBy (id n : Nat) (s : State) : State :=
  { s with counters.live := put id (((lookup s.counters.live id).getD 0 + n) % 2 ^ 64) s.counters.live }

/-- Counts once. -/
def count (id : Nat) (s : State) : State := countBy id 1 s

/-- Takes one count back. -/
def uncount (id : Nat) (s : State) : State :=
  { s with counters.live := put id ((lookup s.counters.live id).getD 0 - 1) s.counters.live }

/-- The value of a running counter. -/
def counter (id : Nat) (s : State) : Nat := (lookup s.counters.live id).getD 0

def cPort (p code : Nat) : Nat := idOf 0x01 p code
def cSlate (site code : Nat) : Nat := idOf 0x02 site code
def cReed (site code : Nat) : Nat := idOf 0x03 site code
def cEngine (inst code : Nat) : Nat := idOf 0x04 inst code
def cLoft (cart code : Nat) : Nat := idOf 0x05 cart code
def cThatch (bank code : Nat) : Nat := idOf 0x06 bank code
def cTally (code : Nat) : Nat := idOf 0x07 0xFFFF code
def cEave (e code : Nat) : Nat := idOf 0x08 e code
def cFinial (code : Nat) : Nat := idOf 0x09 0xFFFF code
def cSense (ch code : Nat) : Nat := idOf 0x0B ch code
def cAout (ch code : Nat) : Nat := idOf 0x0C ch code
def cCoolant (code : Nat) : Nat := idOf 0x0D 0xFFFF code
def cPatrol (code : Nat) : Nat := idOf 0x0E 0xFFFF code
def cFreeze (code : Nat) : Nat := idOf 0x0F 0xFFFF code
def cUpdate (code : Nat) : Nat := idOf 0x10 0xFFFF code
def cTray (code : Nat) : Nat := idOf 0x00 0xFFFF code
def cBatten (recv code : Nat) : Nat := idOf 0x12 recv code

/-- The per-triple counter of R518; `base` is 0x80 for the gutter, 0x88 for tail drops. -/
def cTriple (input output cls base : Nat) : Nat := idOf 0x02 (0x8000 + 160 * input + output) (base + cls)

/-- Whether the wafer holds the counters of a unit (Table 3.8a). -/
def waferCounter (id : Nat) : Bool :=
  let u := id / 16777216
  (1 ≤ u && u ≤ 7) || u = 0x0E || (u = 0x12 && (id / 256) % 65536 = 0)

/-- Whether Finial holds the counters of a unit (Table 3.8a). -/
def finialCounter (id : Nat) : Bool :=
  let u := id / 16777216
  u = 0 || u = 8 || u = 9 || u = 0x0F || u = 0x10 || (u = 0x12 && (id / 256) % 65536 = 3)

/-- Counters of a holder that leaves reset start at 0 (R1075). -/
def clearCounters (which : Nat → Bool) (s : State) : State :=
  { s with counters.live := s.counters.live.filter fun kv => !which kv.1 }

/-! ### Ports, sites -/

def port (p : Nat) (s : State) : Port := s.ports.getD p {}

def setPort (p : Nat) (f : Port → Port) (s : State) : State :=
  { s with ports := s.ports.modify p f }

def site (n : Nat) (s : State) : Site := s.sites.getD n {}

def setSite (n : Nat) (f : Site → Site) (s : State) : State :=
  { s with sites := s.sites.modify n f }

/-- The descriptor role of a site (Table 2.2); the reserved code is treated as SPARE_DEFECTIVE. -/
def siteRole (n : Nat) (s : State) : Nat := s.ident.roles.getD n 3

/-- A SPARE_DEFECTIVE site, whose rail is held off (Table 2.2). -/
def defective (n : Nat) (s : State) : Bool := siteRole n s ≥ 2

/-- The slate that serves a port in the map in force. -/
def servingSite (p : Nat) (s : State) : Option Nat := (s.switch.portSite.getD p none)

/-- The slate that serves a Loft block in the map in force. -/
def loftSite (n : Nat) (s : State) : Option Nat := (s.switch.loftSite.getD n none)

/-- Ports that a site serves. -/
def portsOf (n : Nat) (s : State) : List Nat :=
  (List.range 160).filter fun p => servingSite p s = some n && portFitted p s

/-- Loft blocks that a site serves. -/
def loftsOf (n : Nat) (s : State) : List Nat :=
  (List.range 32).filter fun b => loftSite b s = some n && hasLoft s

/-- Whether a site forwards (R84): its state is SERVING, IDLE, LENDING or DRAINING. -/
def forwards (n : Nat) (s : State) : Bool :=
  match (site n s).state with
  | .serving | .idle | .lending | .draining => true
  | _ => false

/-- A serving site (R81): its state is SERVING or DRAINING. -/
def isServing (n : Nat) (s : State) : Bool :=
  match (site n s).state with
  | .serving | .draining => true
  | _ => false

/-- A free site (R81): its state is IDLE or LENDING. -/
def isFree (n : Nat) (s : State) : Bool :=
  match (site n s).state with
  | .idle | .lending => true
  | _ => false

/-- A wafer image is being activated (R962): a lending site ends its lending first. -/
def rolling (s : State) : Bool := s.firmware.activation.any fun a => a.kind = 0

/-- Whether a wafer activation loads a site (Table 17.5). -/
def rollLoads (n : Nat) (s : State) : Bool := s.firmware.activation.any fun a => a.kind = 0 && a.loading.contains n

/-- The key of a cartridge in the lists of faults: cable 0-15, optical 16-19, Loft 32-63, Thatch 64-67. -/
def cartKey : CartridgeId → Nat
  | .cable n => n
  | .optical n => 16 + n
  | .loft n => 32 + n
  | .thatch n => 64 + n

/-- Whether a cartridge is FAULTED: it failed, or its bay is empty (R11, R12). -/
def cartGone (key : Nat) (s : State) : Bool :=
  s.power.faultedCartridges.contains key || s.power.emptyBays.any fun c => cartKey c = key

/-- The command slate (R583): the serving site first in row-major order. -/
def commandSlate (s : State) : Option Nat := (List.range 36).find? fun n => isServing n s

/-- The minimal mesh distance |x - x'| + |y - y'| (R86). -/
def manhattan (a b : Nat) : Nat :=
  ((a / 6 : Int) - (b / 6 : Int)).natAbs + ((a % 6 : Int) - (b % 6 : Int)).natAbs

/-- The tally as an unsigned number. -/
def tallyNat (s : State) : Nat := s.tally.value.toNat

/-- The value of the latest tally mark, which the units in D0 and D9 stamp with (R141, Table 3.3, R143). -/
def markTallyNat (s : State) : Nat := tallyNat s / 1024 * 1024

/-- Sets a port's state and cause with the tally of the change (PORT_STATUS). -/
def portTo (p : Nat) (st : PortState) (cause : Nat) (s : State) : State :=
  let t := tallyNat s
  setPort p (fun q => { q with state := st, cause := BitVec.ofNat 16 cause
                               lastChange := if q.state = st then q.lastChange else t }) s

/-- Enters a phase with a cause; Finial stamps the entry, 0 before step 12 (R141, R194). -/
def setPhase (ph : Phase) (cause : Nat) (s : State) : State :=
  { s with power := { s.power with phase := ph, cause := BitVec.ofNat 16 cause
                                   phaseTally := if s.tally.counting then markTallyNat s else 0 } }

/-- Changes only the cause of the phase. -/
def setCause (cause : Nat) (s : State) : State := { s with power.cause := BitVec.ofNat 16 cause }

/-! ### Crossing queues (Table 3.2, R137) -/

/-- The dual-clock queues that carry data. -/
inductive Crossing where
  | prxToFab
  | fabToPtx
  | fabToReed
  | reedToFab
  | fabToEngine
  | fabToLoft
  | fabToGable
  | gableToNand
  deriving DecidableEq, Repr

/-- Entries of a crossing queue; each way, where it has two. -/
def Crossing.depth : Crossing → Nat
  | .prxToFab | .fabToPtx | .gableToNand => 16
  | .fabToReed | .reedToFab => 8
  | .fabToEngine | .fabToGable => 32
  | .fabToLoft => 64

/-- Bytes of an entry. -/
def Crossing.width : Crossing → Nat
  | .prxToFab | .fabToPtx | .fabToLoft => 128
  | .fabToReed | .reedToFab | .fabToEngine | .fabToGable => 64
  | .gableToNand => 4096

/-- Entries that a number of bytes takes. -/
def Crossing.entries (c : Crossing) (bytes : Nat) : Nat := (bytes + c.width - 1) / c.width

/-! ### Rails (Table 4.3, R833) -/

def anySlateRail (s : State) : Bool := s.power.latches.slateRailEn != 0
def rimRail (s : State) : Bool := s.power.latches.rimRailEn != 0
def cableRail (s : State) : Bool := s.power.latches.cartRailEn.getLsbD 0
def thatchRail (s : State) : Bool := s.power.latches.cartRailEn.getLsbD 1
def loftRail (s : State) : Bool := s.power.latches.cartRailEn.getLsbD 2
def opticalRail (s : State) : Bool := s.power.latches.cartRailEn.getLsbD 3
def slateRail (n : Nat) (s : State) : Bool := s.power.latches.slateRailEn.getLsbD n

/-- Whether any rail of zone W is on (R833). -/
def zoneWOn (s : State) : Bool := anySlateRail s || rimRail s || loftRail s || opticalRail s

/-! ### Changing latches, and what the inventory counts of each rail (R841) -/

/-- The rails by number: 0 the rim-and-mesh rail, 1 + n the rail of site n, 40 + b cartridge rail b. -/
def railOn (k : Nat) (l : Latches) : Bool :=
  if k = 0 then l.rimRailEn != 0 else if k < 37 then l.slateRailEn.getLsbD (k - 1) else l.cartRailEn.getLsbD (k - 40)

def rails : List Nat := List.range 37 ++ [40, 41, 42, 43]

/-- Adds to a number kept under a key. -/
def bumpKey (k n : Nat) (m : List (Nat × Nat)) : List (Nat × Nat) := put k ((lookup m k).getD 0 + n) m

/-- The time that each powered rail has been on, up to now; key 50 is the always-on rail. -/
def accrue (s : State) : State :=
  let d := s.now - s.invAt
  let hours := rails.foldl (fun m k => if railOn k s.power.latches && d != 0 then bumpKey k d m else m) s.invHours
  { s with invAt := s.now, invHours := if s.power.aonUp && d != 0 then bumpKey 50 d hours else hours }

/-- Writes the Coping latches; each rail that comes on counts one power cycle. -/
def setLatches (f : Latches → Latches) (s : State) : State :=
  let s := accrue s
  let l := f s.power.latches
  { s with
    power.latches := l
    invCycles := rails.foldl (fun m k => if railOn k l && !railOn k s.power.latches then bumpKey k 1 m else m) s.invCycles }

/-! ### Controllers -/

def eave (e : Eave) (s : State) : EaveUnit := match e with | .a => s.referee.a | .b => s.referee.b

def setEave (e : Eave) (f : EaveUnit → EaveUnit) (s : State) : State :=
  match e with
  | .a => { s with referee.a := f s.referee.a }
  | .b => { s with referee.b := f s.referee.b }

def peer : Eave → Eave | .a => .b | .b => .a

/-- The authoritative Eave. -/
def authority (s : State) : Option Eave :=
  if s.referee.a.state = .authoritative then some .a
  else if s.referee.b.state = .authoritative then some .b else none

/-- An Eave that may answer: AUTHORITATIVE, STANDBY or QUARANTINED (R223). -/
def eaveAnswers (e : Eave) (s : State) : Bool :=
  match (eave e s).state with
  | .authoritative | .standby | .quarantined => (eave e s).booted
  | _ => false

/-- An Eave that Finial has admitted and neither quarantined nor failed (R253). -/
def eaveAdmitted (e : Eave) (s : State) : Bool :=
  match (eave e s).state with
  | .authoritative | .standby => true
  | _ => false

/-- Whether a bank accepts records (Table 12.6). -/
def Bank.accepts (b : Bank) : Bool :=
  match b.state with
  | .primary | .secondary | .resyncing => true
  | _ => false

def bank (n : Nat) (s : State) : Bank := if n = 0 then s.journal.bankA else s.journal.bankB

def setBank (n : Nat) (f : Bank → Bank) (s : State) : State :=
  if n = 0 then { s with journal.bankA := f s.journal.bankA }
  else { s with journal.bankB := f s.journal.bankB }

/-- Whether some bank accepts records. -/
def bankAccepts (s : State) : Bool := s.journal.bankA.accepts || s.journal.bankB.accepts

/-! ### Mode, phase and reduction questions -/

def isLedger (s : State) : Bool := s.mode == .ledger

/-- The phases at which freezing triggers act (R751). -/
def triggerPhase (s : State) : Bool :=
  match s.power.phase with
  | .firmware | .links | .ready => true
  | _ => false

/-- Collectives admitted and neither released nor aborted. -/
def inFlight (s : State) : List Collective := s.reduction.collectives

/-- Wafer-domain events have no effect while the tray is frozen or the wafer is not running (R757, R210). -/
def waferLive (s : State) : Bool := s.power.waferRunning && !s.freezeUnit.frozen

/-! ### Freeze triggers (R748-R756, R789, R790) -/

/-- A trigger fires: while frozen it is only counted (R790); otherwise D1 acts on the request at
FREEZE_STOP. -/
def trigger (code collective classes : Nat) (s : State) : State :=
  if s.freezeUnit.frozen then count (cFreeze 5) s
  else { s with freezeUnit.requests := s.freezeUnit.requests ++ [{ code, collective, classes }] }

/-! The parameter IDs that other units read. -/

def pErrorMask : Nat := idOf 0x0F 0xFFFF 0x04
def pMatchEnable : Nat := idOf 0x0F 0xFFFF 0x01
def pMatchCollective : Nat := idOf 0x0F 0xFFFF 0x02
def pMatchEvent : Nat := idOf 0x0F 0xFFFF 0x03
def pAutoThaw : Nat := idOf 0x0F 0xFFFF 0x05

/-- The stored value of a parameter whose default is 0. -/
def stored (id : Nat) (s : State) : Nat := (lookup s.params id).getD 0

/-- An error-class event fires when its class bit is set in freeze.error_mask (R755), in the phases
of R751. -/
def errorClass (cls : Nat) (s : State) : State :=
  if (stored pErrorMask s).testBit cls && (s.freezeUnit.frozen || triggerPhase s) then
    trigger 4 0 (2 ^ cls) s
  else s

/-- The collective-match trigger (R754): event 0 ADMITTED, 1 LAST_TILE_COMPLETE, 2 ABORTED. -/
def matchTrigger (collective event : Nat) (s : State) : State :=
  let ev := (lookup s.params pMatchEvent).getD 1
  if stored pMatchEnable s = 1 && stored pMatchCollective s = collective && ev = event &&
      triggerPhase s then
    trigger 3 collective 0 s
  else s

/-- Folds an operation over a list of numbers. -/
def forEach (xs : List Nat) (f : Nat → State → State) (s : State) : State := xs.foldl (fun t x => f x t) s

end Sys2Proof.Machine
end

