-- ==== Sys2Proof/Machine/Operands.lean ====
section
/-! DEFINITION. The operand forms: the parameter tables of every unit (Tables 2.6, 3.7, 5.9, 7.12, 8.6,
9.5, 10, 12.9, 13.7, 14.8, 15.3-15.5, 16.4, 17, 18.7 and R208), and the payload layouts of every Batten
command (Tables 6.5-6.14) with the checks of R319, R320, R321 and R1072. -/

namespace Sys2Proof.Machine

/-! ### Parameters -/

/-- A parameter's row: signedness, whether it may be written, whether Finial retains it, its range and
default as 64-bit patterns, and which values of the range are permitted. -/
structure ParamInfo where
  signed : Bool := false
  writable : Bool := true
  retained : Bool := true
  min : Nat
  max : Nat
  default : Nat
  legal : Nat → Bool

/-- An unsigned parameter with a plain range. -/
def plain (lo hi dflt : Nat) : ParamInfo :=
  { min := lo, max := hi, default := dflt, legal := fun v => lo ≤ v && v ≤ hi }

/-- A signed value as its 64-bit pattern. -/
def pat64 (v : Int) : Nat := (v % (2 ^ 64 : Int)).toNat

/-- The signed value of a 64-bit pattern. -/
def int64 (v : Nat) : Int := if v < 2 ^ 63 then v else (v : Int) - 2 ^ 64

/-- The factory value of a parameter. -/
def factoryValue (id : Nat) (s : State) : Nat := (lookup s.ident.factory id).getD 0

/-- Unit TRAY (R208, Table 2.6, Table 3.7). -/
def trayParam : Nat → Option ParamInfo
  | 0x01 => some (plain 0 1 1)
  | 0x02 => some (plain 1 1000 25)
  | 0x03 => some (plain 1 100 5)
  | 0x10 => some (plain 1 100 20)
  | 0x20 => some (plain 5 300 30)
  | 0x30 => some { plain 0 (2 ^ 40) 0 with legal := fun v => v = 0 || (2 ^ 16 ≤ v && v ≤ 2 ^ 40) }
  | _ => none

/-- Unit PORT (Table 7.12). -/
def portParam (inst field : Nat) : Option ParamInfo :=
  if inst = 0xFFFF then
    match field with
    | 0x01 => some (plain 100 10000 1000)
    | 0x02 => some (plain 0 1 0)
    | 0x03 => some (plain 0 1 1)
    | 0x04 => some (plain 0 1 0)
    | _ => none
  else if inst < 160 then
    match field with
    | 0x10 => some (plain 16 1024 (if inst < 128 then 256 else 1024))
    | 0x11 => some (plain 4 64 8)
    | _ => none
  else none

/-- Unit SLATE (Table 8.6). -/
def slateParam (field : Nat) : Option ParamInfo :=
  if field = 0x01 then some (plain 128 512 512)
  else if field = 0x02 then
    some { plain 4 4096 256 with legal := fun v => 4 ≤ v && v ≤ 4096 && v % 4 = 0 }
  else if field = 0x03 then some (plain 1024 65536 8192)
  else if field = 0x04 then some (plain 0 1 1)
  else if field = 0x05 then some (plain 10 100000 1000)
  else if 0x10 ≤ field && field ≤ 0x16 then some (plain 1 255 16)
  else if 0x40 ≤ field && field ≤ 0x7F then
    match (field - 0x40) % 8 with
    | 0 => some (plain 0 1 0)
    | 1 => some { plain 0 0xFFFF 0xFFFF with legal := fun v => v < 160 || v = 0xFFFF }
    | 2 => some (plain 0 2 0)
    | 3 => some (plain 0 (2 ^ 64 - 1) 0)
    | 4 => some (plain 0 (2 ^ 64 - 1) 0)
    | 5 => some (plain 0 159 0)
    | 6 => some (plain 4 6 6)
    | _ => some (plain 64 262144 16384)
  else if field = 0x80 then some (plain 0 (2 ^ 24) 0)
  else if field = 0x81 then some { plain 0 0xFFFF 0xFFFF with legal := fun v => v < 160 || v = 0xFFFF }
  else if field = 0x82 then some (plain 4 6 6)
  else none

/-- Unit REED (Table 9.5). -/
def reedParam : Nat → Option ParamInfo
  | 0x01 => some (plain 1 16384 512)
  | 0x02 => some (plain 1 4 2)
  | 0x03 => some (plain 0 10000 200)
  | 0x04 => some (plain 0 3600000 10000)
  | 0x05 => some (plain 0 256 64)
  | 0x06 => some (plain 0 1 0)
  | _ => none

/-- The type of a SENSE channel (Table 15.1): 0 FLOW, 1 PRESSURE, 2 RTD, 3 LEAK, 4 FLOAT. -/
def senseType (ch : Nat) : Nat :=
  if ch < 2 then 0 else if ch < 6 then 1 else if ch < 10 then 2 else if ch < 15 then 3 else 4

/-- Unit SENSE (Tables 15.1, 15.3, 15.4, R854, R871). -/
def senseParam (s : State) (ch field : Nat) : Option ParamInfo :=
  let t := senseType ch
  if 16 ≤ ch then none
  else match field with
    | 0x01 => some { plain 0 4 t with writable := false }
    | 0x02 => some { plain 10 4000 (if t = 2 then 10 else 100) with
        legal := fun v => [10, 20, 50, 100, 250, 500, 1000, 2000, 4000].contains v }
    | 0x03 => some (plain 0 3000 (if ch < 2 then 1100 else if ch = 4 then 650 else if ch < 6 then 2100
        else if ch = 6 then 294 else if ch = 7 then 304 else if ch = 8 then 313
        else if ch = 9 then 285 else 1250))
    | 0x04 => some (plain 0 1000 (if ch = 4 then 20 else if ch < 6 then 40 else if ch < 10 then 2 else 250))
    | 0x05 => some { plain 0 1 (if ch < 2 || ch = 4 || 10 ≤ ch then 1 else 0) with writable := t < 3 }
    | 0x06 => some { plain 0 1 1 with writable := t < 3 }
    | 0x07 =>
      if t = 0 then some (plain 30000 600000 120000)
      else if t = 1 then some (plain 100000 2500000 (if ch = 4 then 400000 else 1000000))
      else some { plain 0 0 0 with writable := false }
    | 0x08 => some { signed := true, writable := false, min := (Config.unstatedMin (idOf 0x0B ch 8)).toNat
                     max := (Config.unstatedMax (idOf 0x0B ch 8)).toNat, default := 0, legal := fun _ => true }
    | 0x09 =>
      if t = 2 then some { signed := true, writable := false, min := pat64 (-50000), max := 50000
                           default := factoryValue (idOf 0x0B ch 9) s, legal := fun _ => true }
      else none
    | 0x0A => some (plain 1 255 3)
    | _ => none

/-- The default power-up code of an AOUT channel (Table 16.1). -/
def aoutDefault (ch : Nat) : Nat := if ch < 4 then 0 else if ch < 6 then 0x8000 else 0xFFFF

/-- Unit AOUT (Tables 16.1, 16.2, 16.4, R901). -/
def aoutParam (s : State) (ch field : Nat) : Option ParamInfo :=
  if 8 ≤ ch then none
  else match field with
    | 0x01 => some { plain (if ch < 4 then 0 else 3) (if ch < 4 then 2 else 6)
        (if ch < 4 then 0 else if ch < 6 then 5 else 4) with }
    | 0x02 => some (plain 0 0xFFFF (aoutDefault ch))
    | 0x03 => some (plain 0 1 0)
    | 0x04 => some (plain 0 0xFFFF (aoutDefault ch))
    | 0x05 => some { signed := true, writable := false, min := (Config.unstatedMin (idOf 0x0C ch 5)).toNat
                     max := (Config.unstatedMax (idOf 0x0C ch 5)).toNat
                     default := factoryValue (idOf 0x0C ch 5) s, legal := fun _ => true }
    | 0x06 => some { signed := true, writable := false, min := pat64 (-20000), max := 20000
                     default := factoryValue (idOf 0x0C ch 6) s, legal := fun _ => true }
    | 0x07 => if ch = 0 then some (plain 0 0xFFFF 0xFFFF) else none
    | 0x08 => if ch = 0 then some (plain 0 0xFFFF 0xFFFF) else none
    | _ => none

/-- The parameter that an ID names, or none when its unit, instance or field is not assigned (R292). -/
def paramInfo (s : State) (id : Nat) : Option ParamInfo :=
  let unit := id / 16777216
  let inst := (id / 256) % 65536
  let field := id % 256
  if unit = 0x01 then portParam inst field
  else if unit = 0x0B then senseParam s inst field
  else if unit = 0x0C then aoutParam s inst field
  else if inst ≠ 0xFFFF then none
  else match unit with
    | 0x00 => trayParam field
    | 0x02 => slateParam field
    | 0x03 => reedParam field
    | 0x05 => if field = 1 then some (plain 1 168 24) else none
    | 0x06 =>
      if field = 1 then some (plain 1 3600 60)
      else if field = 2 then some (plain 16 96 48) else none
    | 0x07 =>
      if field = 0x01 then some { plain 0 9999 (factoryValue (idOf 7 0xFFFF 1) s) with writable := false }
      else if field = 0x02 then some (plain 0 1000 100)
      else if field = 0x10 then some (plain 0 127 0)
      else if field = 0x11 then some (plain 0 1 0) else none
    | 0x09 =>
      if field = 1 then some (plain 1 168 24)
      else if field = 2 then some { plain 0 1000 100 with legal := fun v => v = 0 || (10 ≤ v && v ≤ 1000) }
      else if field = 3 then some (plain 100 60000 2000)
      else if field = 4 then some (plain 0 10 3) else none
    | 0x0D =>
      if field = 1 then some (plain 10 600 60)
      else if field = 2 then some (plain 36 60 36)
      else if field = 3 then some (plain 200 10000 2000)
      else if field = 4 then some { plain 0 1 0 with retained := false } else none
    | 0x0E =>
      if field = 1 then some (plain 0 1 1)
      else if field = 2 then some (plain 6 168 24)
      else if field = 3 then some (plain 0 1000 50) else none
    | 0x0F =>
      if field = 1 then some { plain 0 1 0 with retained := false }
      else if field = 2 then some { plain 0 (2 ^ 64 - 1) 0 with retained := false }
      else if field = 3 then some { plain 0 2 1 with retained := false }
      else if field = 4 then some { plain 0 0xFFF 0 with retained := false }
      else if field = 5 then some { plain 0 1000 0 with retained := false } else none
    | 0x10 => if field = 1 then some (plain 1 7 3) else none
    | 0x12 =>
      if field = 1 then some (plain 50 10000 500)
      else if field = 2 then some (plain 0 3600 60) else none
    | _ => none

/-- The value of a parameter in force, its default when nothing is stored. -/
def param (id : Nat) (s : State) : Nat :=
  match lookup s.params id with
  | some v => v
  | none => match paramInfo s id with
    | some i => i.default
    | none => 0

/-- Puts a parameter in force; a value equal to the default is stored as no entry. -/
def setParam (id v : Nat) (s : State) : State :=
  match paramInfo s id with
  | some i => { s with params := if v = i.default then erase id s.params else put id v s.params }
  | none => s

/-- Whether the order code excludes the unit of a parameter (R292). -/
def paramAbsent (id : Nat) (s : State) : Bool :=
  let unit := id / 16777216
  let inst := (id / 256) % 65536
  (unit = 0x01 && inst < 160 && !portFitted inst s) || (unit = 0x03 && !hasReeds s) ||
    (unit = 0x05 && !hasLoft s)

/-! Parameter IDs read by the units. -/

def pPtpDomain : Nat := idOf 0x07 0xFFFF 0x10
def pPtpTransport : Nat := idOf 0x07 0xFFFF 0x11
def pRampEnable : Nat := idOf 0x00 0xFFFF 0x01
def pRampRate : Nat := idOf 0x00 0xFFFF 0x02
def pRampBurst : Nat := idOf 0x00 0xFFFF 0x03
def pSnapPeriod : Nat := idOf 0x00 0xFFFF 0x30
def pPlanPolicy : Nat := idOf 0x01 0xFFFF 0x02
def pFecPolicy : Nat := idOf 0x01 0xFFFF 0x03
def pOpticPolicy : Nat := idOf 0x01 0xFFFF 0x04
def pCreditLossless (p : Nat) : Nat := idOf 0x01 p 0x10
def pCreditExpress (p : Nat) : Nat := idOf 0x01 p 0x11
def pShare : Nat := idOf 0x02 0xFFFF 0x01
def pLimit : Nat := idOf 0x02 0xFFFF 0x02
def pFloor : Nat := idOf 0x02 0xFFFF 0x03
def pCutThrough : Nat := idOf 0x02 0xFFFF 0x04
def pDwrr (c : Nat) : Nat := idOf 0x02 0xFFFF (0x10 + c)
def pDormer (n k : Nat) : Nat := idOf 0x02 0xFFFF (0x40 + 8 * n + k)
def pSkylightN : Nat := idOf 0x02 0xFFFF 0x80
def pSkylightPort : Nat := idOf 0x02 0xFFFF 0x81
def pSkylightClass : Nat := idOf 0x02 0xFFFF 0x82
def pMaxYealms : Nat := idOf 0x03 0xFFFF 0x01
def pDepth : Nat := idOf 0x03 0xFFFF 0x02
def pEarlyHold : Nat := idOf 0x03 0xFFFF 0x03
def pTimeout : Nat := idOf 0x03 0xFFFF 0x04
def pHold : Nat := idOf 0x03 0xFFFF 0x05
def pLend : Nat := idOf 0x03 0xFFFF 0x06
def pRefreshBits : Nat := idOf 0x06 0xFFFF 0x02
def pSwapHours : Nat := idOf 0x09 0xFFFF 0x01
def pVoteMs : Nat := idOf 0x09 0xFFFF 0x02
def pRestartLimit : Nat := idOf 0x09 0xFFFF 0x04
def pSense (ch k : Nat) : Nat := idOf 0x0B ch k
def pAout (ch k : Nat) : Nat := idOf 0x0C ch k
def pFlowStart : Nat := idOf 0x0D 0xFFFF 0x02
def pService : Nat := idOf 0x0D 0xFFFF 0x04
def pPatrolEnable : Nat := idOf 0x0E 0xFFFF 0x01
def pPatrolCycle : Nat := idOf 0x0E 0xFFFF 0x02
def pPatrolNotice : Nat := idOf 0x0E 0xFFFF 0x03
def pTrialBoots : Nat := idOf 0x10 0xFFFF 0x01
def pLinger : Nat := idOf 0x12 0xFFFF 0x02

/-! ### Payload layouts -/

/-- What a field of a layout may hold: anything, only zero bytes (z), a range or enumeration, a flags
byte with permitted bits, or a condition on the whole body. -/
inductive Check where
  | free
  | zero
  | range (lo hi : Nat)
  | flags (mask : Nat)
  | cond (ok : List Byte → Nat → Bool)

/-- A command's payload: the fields in order, the offset and size of a count field with the repeated
group, or a length field with the bytes it counts. -/
structure Layout where
  head : List (Nat × Check)
  group : List (Nat × Check) := []
  countAt : Nat := 0
  countSize : Nat := 0

/-- The size of a list of fields. -/
def sizeOf' (fs : List (Nat × Check)) : Nat := (fs.map Prod.fst).sum

/-- A field's fault: its payload offset and whether it is FIELD (else RESERVED). -/
def fieldFault (body : List Byte) (off n : Nat) : Check → Option (Nat × Bool)
  | .free => none
  | .zero => ((List.range n).find? fun i => body.getD (off + i) 0 != 0).map fun i => (off + i, false)
  | .range lo hi =>
    let v := field body off n
    if lo ≤ v ∧ v ≤ hi then none else some (off, true)
  | .flags mask => if field body off n ||| mask = mask then none else some (off, false)
  | .cond ok => if ok body (field body off n) then none else some (off, true)

/-- The first fault of a list of fields from an offset: the fields lie in ascending order, so it is the
lowest (R1072). -/
def firstFault (body : List Byte) : Nat → List (Nat × Check) → Option (Nat × Bool)
  | _, [] => none
  | off, (n, c) :: rest =>
    match fieldFault body off n c with
    | some f => some f
    | none => firstFault body (off + n) rest

/-- The number of repeated groups that the body's own count field gives. -/
def Layout.count (l : Layout) (body : List Byte) : Nat :=
  if l.countSize = 0 then 0 else field body l.countAt l.countSize

/-- The body length that the layout and its own count give (R319). -/
def Layout.length (l : Layout) (body : List Byte) : Nat :=
  sizeOf' l.head + l.count body * sizeOf' l.group

/-- The refusal of a body by R319, R320, R321 in the order of R1072: reason and argument. -/
def Layout.refusal (l : Layout) (body : List Byte) : Option (Nat × Nat) :=
  if body.length < sizeOf' l.head ∨ body.length ≠ l.length body then some (rLength, 0)
  else
    match firstFault body 0 (l.head ++ (List.replicate (l.count body) l.group).flatten) with
    | some (off, true) => some (rField, off)
    | some (off, false) => some (rReserved, off)
    | none => none

def z (n : Nat) : Nat × Check := (n, .zero)
def u (n : Nat) : Nat × Check := (n, .free)

/-- No payload. -/
def noBody : Layout := { head := [] }

/-- The slot size of an image kind (Table 17.1). -/
def slotSize : Nat → Nat
  | 0 => 536870912
  | 1 => 67108864
  | 2 => 1048576
  | 3 => 65536
  | 4 => 524288
  | 5 => 524288
  | _ => 1048576

/-- Whether an image's target is listed for its kind (Table 17.1). -/
def targetListed (kind target : Nat) : Bool :=
  if kind = 1 then target < 2
  else if kind = 4 then target < 16
  else if kind = 5 then 16 ≤ target && target < 20
  else target = 0

/-- The image field: kind, slot and target; a target not listed is reported at offset 0 (R936). -/
def imageFields (optical : Bool) : List (Nat × Check) :=
  [(1, .cond fun b k => k ≤ 6 && targetListed k (field b 2 2) && (k != 5 || optical)), (1, .range 0 1), u 2]

/-- Format combinations of Table 1.2: an integer output needs an integer input (R30). -/
def formatsCombine (fin fout : Nat) : Bool := fout < 5 || (5 ≤ fin && fin < 7)

/-- The pages that OPTIC_READ may name (R444): bytes 0-127 are the lower page, whichever upper page is named. -/
def opticPage (page : Nat) : Bool := [0x00, 0x01, 0x02, 0x10, 0x11].contains page

/-- The channel type that a calibration belongs to (R368). -/
def calMatches (kind unit ch : Nat) : Bool :=
  match kind with
  | 0 => unit = 0x0B && ch < 2
  | 1 => unit = 0x0B && 2 ≤ ch && ch < 6
  | 2 => unit = 0x0C
  | _ => unit = 0x0B && 6 ≤ ch && ch < 10

/-- The layout of each Batten command's payload (Tables 6.5-6.14), with the fields that a rule of their own refuses with
FIELD: an ID that is not assigned (R292), a bank or page of a module (R444), and a calibration of another channel type
(R368). The chunk's reserved bytes are IMG_DOWNLOAD's own, which judges the fields before them. -/
def layoutOf (s : State) : Instr → Layout
  | .sessionOpen _ => { head := [(1, .range 0 3), z 3] }
  | .completionRead _ => { head := [u 8] }
  | .rolemapWrite _ =>
    { head := [(2, .range 1 64), z 2], countAt := 0, countSize := 2
      group := [(1, .range 0 1), (1, .range 0 3), z 2, u 32] }
  | .paramStage _ =>
    { head := [(2, .range 1 1024), z 2], countAt := 0, countSize := 2, group := [u 4, z 4, u 8] }
  | .paramRead _ => { head := [(2, .range 1 1024), z 2], countAt := 0, countSize := 2, group := [u 4] }
  | .paramCommit _ => { head := [u 8] }
  | .paramDescribe _ => { head := [(4, .cond fun _ id => (paramInfo s id).isSome), z 4] }
  | .portDown _ => { head := [(1, .range 0 1), z 7] }
  | .cablePlanLoad _ => { head := [(2, .range 160 160), z 6] ++ List.replicate 160 (u 8) }
  | .opticRead _ =>
    { head := [(1, .range 0 7), (1, .range 0 0), (1, .cond fun _ p => opticPage p),
        (1, .cond fun b o => o + field b 4 1 ≤ 256), (1, .range 1 128), z 3] }
  | .skylightRead _ => { head := [(2, .range 1 256), z 6] }
  | .groupDefine _ =>
    { head := [u 4, (2, .range 1 512), (1, .flags 1), z 1,
        (4, .cond fun b w => if field b 6 1 % 2 = 0 then w = 0 else 1 ≤ w && w ≤ 100000), z 4]
      countAt := 4, countSize := 2, group := [u 2, u 2] }
  | .groupDelete _ => { head := [u 4, z 4] }
  | .collectiveOpen _ =>
    { head := [u 8, u 8, u 4, (4, .range 1 268435456), (1, .range 0 4), (1, .range 0 6),
        (1, .cond fun b fo => fo ≤ 6 && formatsCombine (field b 25 1) fo), (1, .flags 1), z 4] }
  | .collectiveStatus _ => { head := [u 8] }
  | .collectiveCancel _ => { head := [u 8] }
  | .decisionOpen _ =>
    { head := [(8, .range 1 (2 ^ 64 - 1)), (2, .range 0 64), z 6], countAt := 8, countSize := 2
      group := [u 4] }
  | .decisionClose _ => { head := [u 8] }
  | .reedDisable _ => { head := [(1, .range 0 1), z 7] }
  | .regionAlloc _ => { head := [(8, .cond fun _ v => v != 0 && v % 4096 = 0)] }
  | .regionInfo _ => { head := [u 4, z 4] }
  | .regionList _ => { head := [u 4, (2, .range 1 4096), z 2] }
  | .regionFind _ => { head := [u 32] }
  | .regionSeal _ => { head := [u 4, z 4] }
  | .regionFree _ => { head := [u 4, (1, .flags 1), z 3] }
  | .journalExport _ => { head := [u 8, (1, .flags 1), z 7] }
  | .journalAck _ =>
    { head := [u 8, u 32, (2, .range 0 512), z 6], countAt := 40, countSize := 2, group := [u 1] }
  | .replayStart _ => { head := [u 8, u 4, z 4] }
  | .replayStatus _ => { head := [u 4, z 4] }
  | .replayCancel _ => { head := [u 4, z 4] }
  | .journalMark _ => { head := [u 8, u 32] }
  | .bankSet _ => { head := [(1, .range 0 1), z 7] }
  | .inventory _ => { head := [u 2, (2, .range 1 4096), z 4] }
  | .senseRead _ => { head := [u 2, z 6] }
  | .counterSnap _ => { head := [u 8] }
  | .counterRead _ => { head := [u 4, (2, .range 1 65000), z 2] }
  | .aoutWrite _ => { head := [u 2, z 6] }
  | .calRun p => { head := [(1, .cond fun _ k => k ≤ 3 && calMatches k p.unit.toNat p.inst.toNat), z 7] }
  | .channelMask _ => { head := [u 2, u 2, z 4] }
  | .modeSet _ => { head := [(1, .range 0 1), z 7] }
  | .roleSwap _ => { head := [u 8] }
  | .latchWrite _ =>
    { head := [(1, .range 0 6), z 7,
        (8, .cond fun b m => m < 2 ^ ([2, 4, 1, 36, 36, 1, 2].getD (field b 0 1) 0)), u 8] }
  | .imgDownload _ =>
    { head := imageFields (hasOptical s) ++ [z 4, u 8, u 8, u 4, u 4], countAt := 24, countSize := 4
      group := [u 1] }
  | .imgVerify _ => { head := imageFields (hasOptical s) ++ [z 4] }
  | .imgActivate _ => { head := imageFields (hasOptical s) ++ [z 4] }
  | .imgConfirm _ => { head := imageFields (hasOptical s) ++ [z 4] }
  | .imgStatus _ =>
    { head := [(1, .cond fun b k => k ≤ 6 && targetListed k (field b 2 2) && (k != 5 || hasOptical s)),
        z 1, u 2, z 4] }
  | .manifestLoad _ => { head := [u 4, z 4], countAt := 0, countSize := 4, group := [u 1] }
  | .freezeAt _ => { head := [u 8] }
  | .snapStart _ => { head := [(1, .range 0 1), z 7] }
  | _ => noBody

/-! ### The opcode table (Tables 6.5-6.14) -/

/-- The lowest role permitted. `anyone` is SESSION_OPEN, which the role map decides. -/
inductive Need where
  | anyone
  | obs
  | opr
  | adm
  | aud
  deriving DecidableEq, Repr

/-- The target forms: the unit as a whole, each instance below a bound, each or whole, or CAL_RUN's. -/
inductive Target where
  | whole (unit : Nat)
  | each (unit lo hi : Nat)
  | eachOrWhole (unit hi : Nat)
  | senseOrAout
  deriving DecidableEq, Repr

/-- One row of the opcode table. -/
structure OpRow where
  code : Nat
  need : Need
  target : Target
  exec : Receiver
  async : Bool
  deriving DecidableEq, Repr

def rowS (code : Nat) (need : Need) (target : Target) (exec : Receiver) : OpRow :=
  { code, need, target, exec, async := false }
def rowA (code : Nat) (need : Need) (target : Target) (exec : Receiver) : OpRow :=
  { code, need, target, exec, async := true }

/-- TRAY with instance 0xFFFF, the default target (R322). -/
def tray : Target := .whole 0x00

/-- The row of each Batten command; none for the events. -/
def opRow : Instr → Option OpRow
  | .sessionOpen _ => some (rowS 0x00 .anyone tray .eaves)
  | .identity _ => some (rowS 0x01 .obs tray .finial)
  | .features _ => some (rowS 0x02 .obs tray .finial)
  | .certRead _ => some (rowS 0x03 .obs tray .finial)
  | .fwIdentity _ => some (rowS 0x04 .obs tray .eaves)
  | .completionRead _ => some (rowS 0x05 .obs tray .eaves)
  | .sessionClose _ => some (rowS 0x06 .obs tray .eaves)
  | .rolemapRead _ => some (rowS 0x07 .adm tray .finial)
  | .rolemapWrite _ => some (rowS 0x08 .adm tray .finial)
  | .paramStage _ => some (rowS 0x10 .adm tray .eaves)
  | .paramRead _ => some (rowS 0x11 .obs tray .eaves)
  | .paramCommit _ => some (rowS 0x12 .adm tray .eaves)
  | .paramDiscard _ => some (rowS 0x13 .adm tray .eaves)
  | .paramDescribe _ => some (rowS 0x14 .obs tray .eaves)
  | .portStatus _ => some (rowS 0x20 .obs (.eachOrWhole 0x01 160) .wafer)
  | .portUp _ => some (rowA 0x21 .opr (.each 0x01 0 160) .wafer)
  | .portDown _ => some (rowA 0x22 .opr (.each 0x01 0 160) .wafer)
  | .portAdapt _ => some (rowA 0x23 .adm (.each 0x01 0 160) .wafer)
  | .cablePlanLoad _ => some (rowS 0x24 .adm (.whole 0x01) .wafer)
  | .cablePlanRead _ => some (rowS 0x25 .obs (.eachOrWhole 0x01 160) .wafer)
  | .opticRead _ => some (rowS 0x26 .obs (.each 0x11 16 20) .wafer)
  | .topologyRead _ => some (rowS 0x31 .obs (.whole 0x02) .wafer)
  | .dormerStatus _ => some (rowS 0x32 .obs (.whole 0x02) .wafer)
  | .skylightRead _ => some (rowS 0x33 .obs (.each 0x02 0 36) .wafer)
  | .slateIsolate _ => some (rowA 0x3C .adm (.each 0x02 0 36) .wafer)
  | .slateRestore _ => some (rowA 0x3D .adm (.each 0x02 0 36) .wafer)
  | .groupDefine _ => some (rowS 0x40 .opr (.whole 0x03) .wafer)
  | .groupDelete _ => some (rowS 0x41 .opr (.whole 0x03) .wafer)
  | .collectiveOpen _ => some (rowA 0x42 .opr (.whole 0x03) .wafer)
  | .collectiveStatus _ => some (rowS 0x43 .obs (.whole 0x03) .wafer)
  | .collectiveCancel _ => some (rowS 0x44 .opr (.whole 0x03) .wafer)
  | .decisionOpen _ => some (rowS 0x45 .opr (.whole 0x03) .wafer)
  | .decisionClose _ => some (rowS 0x46 .opr (.whole 0x03) .wafer)
  | .reedDisable _ => some (rowA 0x48 .adm (.each 0x03 0 36) .wafer)
  | .reedEnable _ => some (rowS 0x49 .adm (.each 0x03 0 36) .wafer)
  | .engineDisable _ => some (rowA 0x4A .adm (.each 0x04 0 288) .wafer)
  | .engineEnable _ => some (rowS 0x4B .adm (.each 0x04 0 288) .wafer)
  | .regionAlloc _ => some (rowS 0x50 .opr (.whole 0x05) .wafer)
  | .regionInfo _ => some (rowS 0x51 .obs (.whole 0x05) .wafer)
  | .regionList _ => some (rowS 0x52 .obs (.whole 0x05) .wafer)
  | .regionFind _ => some (rowS 0x53 .obs (.whole 0x05) .wafer)
  | .regionSeal _ => some (rowA 0x58 .adm (.whole 0x05) .wafer)
  | .regionFree _ => some (rowS 0x59 .adm (.whole 0x05) .wafer)
  | .journalStatus _ => some (rowS 0x60 .obs (.whole 0x06) .wafer)
  | .journalExport _ => some (rowA 0x61 .aud (.whole 0x06) .wafer)
  | .journalAck _ => some (rowS 0x62 .aud (.whole 0x06) .wafer)
  | .replayStart _ => some (rowA 0x64 .aud (.whole 0x06) .wafer)
  | .replayStatus _ => some (rowS 0x65 .aud (.whole 0x06) .wafer)
  | .replayCancel _ => some (rowS 0x66 .aud (.whole 0x06) .wafer)
  | .journalMark _ => some (rowS 0x68 .opr (.whole 0x06) .wafer)
  | .bankSet _ => some (rowA 0x69 .adm (.each 0x06 0 2) .wafer)
  | .trayState _ => some (rowS 0x70 .obs tray .finial)
  | .inventory _ => some (rowS 0x71 .obs tray .eaves)
  | .tallyStatus _ => some (rowS 0x72 .obs (.whole 0x07) .wafer)
  | .tallyReacquire _ => some (rowA 0x73 .adm (.whole 0x07) .wafer)
  | .senseRead _ => some (rowS 0x74 .obs (.whole 0x0B) .coping)
  | .counterSnap _ => some (rowS 0x75 .opr tray .wafer)
  | .counterRead _ => some (rowS 0x76 .obs tray .eaves)
  | .senseSync _ => some (rowS 0x77 .adm (.whole 0x0B) .coping)
  | .aoutWrite _ => some (rowS 0x78 .adm (.each 0x0C 0 8) .coping)
  | .aoutRead _ => some (rowS 0x79 .obs (.whole 0x0C) .coping)
  | .calRun _ => some (rowA 0x7A .adm .senseOrAout .coping)
  | .channelMask _ => some (rowS 0x7B .adm (.whole 0x0B) .coping)
  | .modeSet _ => some (rowS 0x7C .adm tray .finial)
  | .roleSwap _ => some (rowA 0x7D .adm (.whole 0x08) .finial)
  | .latchWrite _ => some (rowS 0x7E .adm (.whole 0x0A) .coping)
  | .controllerStatus _ => some (rowS 0x7F .obs (.whole 0x08) .finial)
  | .imgDownload _ => some (rowS 0x80 .adm (.whole 0x10) .eaves)
  | .imgVerify _ => some (rowA 0x81 .adm (.whole 0x10) .eaves)
  | .imgActivate _ => some (rowA 0x82 .adm (.whole 0x10) .eaves)
  | .imgConfirm _ => some (rowS 0x83 .adm (.whole 0x10) .eaves)
  | .imgStatus _ => some (rowS 0x84 .obs (.whole 0x10) .eaves)
  | .manifestLoad _ => some (rowS 0x85 .adm (.whole 0x10) .finial)
  | .manifestRead _ => some (rowS 0x86 .obs (.whole 0x10) .finial)
  | .freeze _ => some (rowS 0x90 .adm (.whole 0x0F) .finial)
  | .freezeAt _ => some (rowS 0x91 .adm (.whole 0x0F) .wafer)
  | .thaw _ => some (rowS 0x92 .adm (.whole 0x0F) .finial)
  | .restart _ => some (rowA 0x93 .adm (.whole 0x0F) .finial)
  | .snapStart _ => some (rowA 0x94 .adm (.whole 0x0F) .finial)
  | .patrolStatus _ => some (rowS 0x95 .obs (.whole 0x0E) .wafer)
  | _ => none

/-- Whether a role admits a command (R324, Table 5.8). -/
def Need.admits (n : Need) (r : Role) : Bool :=
  match n with
  | .anyone | .obs => true
  | .opr => r = .operator || r = .admin
  | .adm => r = .admin
  | .aud => r = .auditor

/-- Whether an opcode is accepted on a path (Table 5.4, R323). -/
def opcodeOnPath (path : Path) (row : OpRow) : Bool :=
  match path with
  | .management _ => true
  | .ridge _ => row.code ≥ 0x10 && row.need != .aud
  | .finial => 0x70 ≤ row.code && row.code ≤ 0x9F
  | .inBand _ _ => (0x40 ≤ row.code && row.code ≤ 0x47) || (0x50 ≤ row.code && row.code ≤ 0x57) || row.code = 0x68

/-- Whether a header unit and target number name a target (R322). -/
def Target.names (t : Target) (unit inst : Nat) : Bool :=
  match t with
  | .whole k => unit = k && inst = 0xFFFF
  | .each k lo hi => unit = k && lo ≤ inst && inst < hi && (k ≠ 4 || inst % 8 < 6)
  | .eachOrWhole k hi => unit = k && (inst < hi || inst = 0xFFFF)
  | .senseOrAout => (unit = 0x0B && inst < 16) || (unit = 0x0C && inst < 8)

end Sys2Proof.Machine
end

