-- ==== Sys2Proof/Machine/Clock.lean ====
section
/-! DEFINITION. Time: ticks of D1, the tally that counts them, and the ramp bucket that gains at each. -/

namespace Sys2Proof.Machine

/-- The gain of `k` ticks, up to the capacity (R118, R131): one gain for each tick of D1, whatever it adds to the
tally. -/
def rampRefill (k : Nat) (s : State) : State :=
  let full := param pRampBurst s * 1000000000000
  let more := s.reduction.tokens + k * (param pRampRate s * 3200)
  { s with reduction.tokens := min more full }

/-- `k` ticks of 3.2 ns pass. The tally counts them while it counts and the tray is not frozen (R128, R757). -/
def advance (k : Nat) (s : State) : State :=
  if s.tally.counting && !s.freezeUnit.frozen then
    rampRefill k { s with now := s.now + k, tally.value := s.tally.value + BitVec.ofNat 64 k }
  else { s with now := s.now + k }

/-- Time passes until the tally reads at least `t`. -/
def advanceTo (t : Nat) (s : State) : State :=
  if s.tally.counting && !s.freezeUnit.frozen && decide (tallyNat s < t) then advance (t - tallyNat s) s else s

/-- Ticks in a millisecond: one tick is 3.2 ns (03, "The tally"). -/
def tkPerMs : Nat := 312500

end Sys2Proof.Machine
end

