-- ==== Sys2Proof/Machine/Arith.lean ====
section
/-! DEFINITION. Arithmetic generation AG1 (01_replay_contract): decode, the long register, round_out,
exact SUM and MEAN, MIN and MAX, and the CANONICAL combine. -/

namespace Sys2Proof.Machine

/-- The parameters of Table 1.1; integers have `isInt` and only their width. -/
structure FormatParams where
  isInt : Bool := false
  w : Nat
  p : Nat := 0
  bias : Int := 0
  emin : Int := 0
  umax : Int := 0
  qmax : Nat := 0
  inf : Nat := 0
  nan : Nat := 0
  e4m3 : Bool := false
  deriving DecidableEq, Repr

/-- Table 1.1 and R29. -/
def fp : Format → FormatParams
  | .fp32 => { w := 32, p := 24, bias := 127, emin := -126, umax := 104, qmax := 0xFFFFFF, inf := 0x7F800000, nan := 0x7FC00000 }
  | .bf16 => { w := 16, p := 8, bias := 127, emin := -126, umax := 120, qmax := 0xFF, inf := 0x7F80, nan := 0x7FC0 }
  | .fp16 => { w := 16, p := 11, bias := 15, emin := -14, umax := 5, qmax := 0x7FF, inf := 0x7C00, nan := 0x7E00 }
  | .e5m2 => { w := 8, p := 3, bias := 15, emin := -14, umax := 13, qmax := 0x7, inf := 0x7C, nan := 0x7E }
  | .e4m3 => { w := 8, p := 4, bias := 7, emin := -6, umax := 5, qmax := 0xE, nan := 0x7F, e4m3 := true }
  | .int32 => { isInt := true, w := 32 }
  | .int8 => { isInt := true, w := 8 }

/-- Bytes of one element. -/
def Format.bytes (f : Format) : Nat := (fp f).w / 8

/-- What an element stands for (R29, R42): a finite value is (-1)^s * m * 2^e. -/
inductive Decoded where
  | nan
  | pinf
  | ninf
  | finite (s : Bool) (m : Nat) (e : Int)
  deriving DecidableEq, Repr

/-- decode of R42, and R29 for integers. -/
def decode (f : Format) (x : Nat) : Decoded :=
  let q := fp f
  let x := x % 2 ^ q.w
  if q.isInt then
    if x < 2 ^ (q.w - 1) then .finite false x 0 else .finite true (2 ^ q.w - x) 0
  else
    let s := decide (x / 2 ^ (q.w - 1) = 1)
    let eb := q.w - q.p
    let be := (x / 2 ^ (q.p - 1)) % 2 ^ eb
    let fr := x % 2 ^ (q.p - 1)
    let top := 2 ^ eb - 1
    if q.e4m3 && be = top && fr = 2 ^ (q.p - 1) - 1 then .nan
    else if !q.e4m3 && be = top then
      if fr ≠ 0 then .nan else if s then .ninf else .pinf
    else if be = 0 then .finite s fr (q.emin - q.p + 1)
    else .finite s (fr + 2 ^ (q.p - 1)) (be - q.bias - q.p + 1)

/-- Flags of R41: bit 0 NAN_RESULT, bit 1 OVERFLOW, bit 2 SATURATED. -/
def fNan : Nat := 1
def fOverflow : Nat := 2
def fSaturated : Nat := 4

/-- The infinity of a sign; FP8-E4M3 has none (R33). -/
def infOf (f : Format) (neg : Bool) : Nat × Nat :=
  let q := fp f
  if q.e4m3 then (q.nan, fNan) else ((if neg then 2 ^ (q.w - 1) else 0) + q.inf, 0)

/-- The zero of a sign; integers have one zero. -/
def zeroOf (f : Format) (neg : Bool) : Nat :=
  let q := fp f
  if neg && !q.isInt then 2 ^ (q.w - 1) else 0

/-- msb_index of R1069. -/
def msbIndex (m : Nat) : Int := if m = 0 then -1 else (Nat.log2 m : Int)

/-- Saturation to an integer format (R40). -/
def satInt (f : Format) (s : Bool) (q : Nat) : Nat × Nat :=
  let w := (fp f).w
  if s then
    if q ≤ 2 ^ (w - 1) then ((2 ^ w - q) % 2 ^ w, 0) else (2 ^ (w - 1), fSaturated)
  else if q < 2 ^ (w - 1) then (q, 0) else (2 ^ (w - 1) - 1, fSaturated)

/-- round_out of R42: rounds (-1)^s * (m + st * tiny) * 2^e0 to a format, to nearest with ties to even. -/
def roundOut (f : Format) (s : Bool) (m : Nat) (e0 : Int) (st : Bool) : Nat × Nat :=
  let q := fp f
  let u : Int := if q.isInt then 0 else max (msbIndex m + e0 - (q.p - 1)) (q.emin - q.p + 1)
  let sh := u - e0
  let n := sh.toNat
  let base := if 0 ≤ sh then m / 2 ^ n else m * 2 ^ ((-sh).toNat)
  let r := m % 2 ^ n
  let half := 2 ^ (n - 1)
  let up := decide (0 < sh) && (decide (half < r) || (decide (r = half) && (st || decide (base % 2 = 1))))
  let v := if up then base + 1 else base
  if q.isInt then satInt f s v
  else
    let carry := decide (v = 2 ^ q.p)
    let v := if carry then v / 2 else v
    let u := if carry then u + 1 else u
    if v = 0 then (zeroOf f s, 0)
    else if q.umax < u ∨ (u = q.umax ∧ q.qmax < v) then
      ((if q.e4m3 then q.nan else (infOf f s).1), fOverflow)
    else
      let be : Nat := if 2 ^ (q.p - 1) ≤ v then (u + q.p - 1 + q.bias).toNat else 0
      ((if s then 2 ^ (q.w - 1) else 0) + be * 2 ^ (q.p - 1) + v % 2 ^ (q.p - 1), 0)

/-! ### The long register (R24, R25) -/

/-- The register's signed value. -/
def accInt (r : LongRegister) : Int := r.acc.toInt

/-- Adds one contribution to a register (R25, and the loop body of exact in R42). -/
def accumulate (f : Format) (x : Nat) (r : LongRegister) : LongRegister :=
  match decode f x with
  | .nan => { r with nan := true }
  | .pinf => { r with pinf := true }
  | .ninf => { r with ninf := true }
  | .finite s m e =>
    let v : Int := (m : Int) * 2 ^ (e + 149).toNat
    { r with
      acc := r.acc + BitVec.ofInt 320 (if s then -v else v)
      allNegZero := r.allNegZero && s && m = 0 }

/-- The result of an exact SUM or MEAN of `n` contributions (exact of R42). -/
def exactResult (op : ReduceOp) (fo : Format) (n : Nat) (r : LongRegister) : Nat × Nat :=
  if r.nan || (r.pinf && r.ninf) then ((fp fo).nan, fNan)
  else if r.pinf || r.ninf then infOf fo r.ninf
  else
    let a := accInt r
    if a = 0 then (zeroOf fo r.allNegZero, 0)
    else
      let s := decide (a < 0)
      let mag := a.natAbs
      if op = .mean then
        let num := mag * 256
        roundOut fo s (num / n) (-157) (num % n != 0)
      else roundOut fo s mag (-149) false

/-! ### MIN and MAX (R43-R45) -/

/-- An order key: exact values in steps of 2^-150, with -0 below +0 and infinities outermost. -/
def orderKey : Decoded → Int
  | .nan => 0
  | .pinf => 2 ^ 512
  | .ninf => -(2 ^ 512)
  | .finite s m e =>
    if m = 0 then (if s then -1 else 0)
    else
      let v : Int := (m : Int) * 2 ^ (e + 150).toNat
      if s then -v else v

/-- Keeps the contribution that R43 selects. -/
def select (op : ReduceOp) (f : Format) (a b : Nat) : Nat :=
  let ka := orderKey (decode f a)
  let kb := orderKey (decode f b)
  if op = .min then (if kb < ka then b else a) else (if ka < kb then b else a)

/-- Converts one contribution to the output format (R45). -/
def convert (fi fo : Format) (x : Nat) : Nat × Nat :=
  match decode fi x with
  | .nan => ((fp fo).nan, fNan)
  | .pinf => infOf fo false
  | .ninf => infOf fo true
  | .finite s m e => if m = 0 then (zeroOf fo s, 0) else roundOut fo s m e false

/-- MIN or MAX over contributions (R43-R45, R1071); any NaN gives the canonical NaN (R44). -/
def minMax (op : ReduceOp) (fi fo : Format) : List Nat → Nat × Nat
  | [] => (0, 0)
  | c :: cs =>
    if (c :: cs).any fun x => decode fi x = .nan then ((fp fo).nan, fNan)
    else convert fi fo (cs.foldl (select op fi) c)

/-! ### CANONICAL mode (R46-R54) -/

/-- The exact sum of two finite values, with the zero of R51. -/
def stepSum (fo : Format) (s1 : Bool) (m1 : Nat) (e1 : Int) (s2 : Bool) (m2 : Nat) (e2 : Int) : Nat × Nat :=
  let e := min e1 e2
  let a : Int := (m1 : Int) * 2 ^ (e1 - e).toNat
  let b : Int := (m2 : Int) * 2 ^ (e2 - e).toNat
  let v := (if s1 then -a else a) + (if s2 then -b else b)
  if v = 0 then (zeroOf fo (s1 && s2), 0) else roundOut fo (decide (v < 0)) v.natAbs e false

/-- One CANONICAL step of SUM, MEAN or PRODUCT (R49-R51, R1070). Where R50 and R54 do not say whether NAN_RESULT is
set, the model sets it where a step creates the NaN and not where the accumulator is one already (DESIGN CHOICE,
entry 91). -/
def canonicalStep (op : ReduceOp) (fo : Format) (a b : Decoded) : Nat × Nat :=
  match a, b with
  | .nan, _ => ((fp fo).nan, 0)
  | _, .nan => ((fp fo).nan, fNan)
  | .finite s1 m1 e1, .finite s2 m2 e2 =>
    if op = .product then
      if m1 * m2 = 0 then (zeroOf fo (s1 != s2), 0) else roundOut fo (s1 != s2) (m1 * m2) (e1 + e2) false
    else stepSum fo s1 m1 e1 s2 m2 e2
  | .finite s m _, i =>
    if op = .product then
      if m = 0 then ((fp fo).nan, fNan) else infOf fo (s != (i = .ninf))
    else infOf fo (i = .ninf)
  | i, .finite s m _ =>
    if op = .product then
      if m = 0 then ((fp fo).nan, fNan) else infOf fo (s != (i = .ninf))
    else infOf fo (i = .ninf)
  | i, j =>
    if op = .product then infOf fo ((i = .ninf) != (j = .ninf))
    else if i = j then infOf fo (i = .ninf) else ((fp fo).nan, fNan)

/-- The division that ends a CANONICAL MEAN (R52): one rounding of the accumulator over `n`. -/
def canonicalMean (fo : Format) (n : Nat) (x : Nat) : Nat × Nat :=
  match decode fo x with
  | .finite s m e =>
    if m = 0 then (x, 0)
    else
      let num := m * 2 ^ 64
      roundOut fo s (num / n) (e - 64) (num % n != 0)
  | _ => (x, 0)

/-- The CANONICAL combine of contributions in ascending rank (R48-R54, R1071). -/
def canonical (op : ReduceOp) (fi fo : Format) (n : Nat) (cs : List Nat) : Nat × Nat :=
  match op, cs with
  | _, [] => (0, 0)
  | .min, cs => minMax .min fi fo cs
  | .max, cs => minMax .max fi fo cs
  | op, c :: rest =>
    let start := convert fi fo c
    let (acc, fl) := rest.foldl (fun (a : Nat × Nat) x =>
      let (r, f) := canonicalStep op fo (decode fo a.1) (decode fi x)
      (r, a.2 ||| f)) start
    if op = .mean then
      let (r, f) := canonicalMean fo n acc
      (r, fl ||| f)
    else (acc, fl)

/-- Whether a collective's elements are buffered: CANONICAL mode, and MIN and MAX, whose selection needs
the contributions themselves (R46, R47). -/
def buffers (op : ReduceOp) (canon : Bool) : Bool := canon || op = .product || op = .min || op = .max

/-- Takes one contribution of a rank into a register: the running sum for exact SUM and MEAN (R560),
the buffer otherwise (R47, R561). -/
def contribute (op : ReduceOp) (canon : Bool) (fi : Format) (rank x : Nat) (r : LongRegister) : LongRegister :=
  let r := { r with present := rank :: r.present }
  if buffers op canon then { r with buffer := put rank x r.buffer } else accumulate fi x r

/-- The result element of a complete register. -/
def registerResult (op : ReduceOp) (canon : Bool) (fi fo : Format) (n : Nat) (r : LongRegister) : Nat × Nat :=
  if buffers op canon then
    (if canon || op = .product then canonical op fi fo n (r.buffer.map Prod.snd)
     else minMax op fi fo (r.buffer.map Prod.snd))
  else exactResult op fo n r

/-- Reed operations per element and yealms per port (Table 9.1). -/
def yealmsPerPort : Format → Nat
  | .fp32 => 26
  | .bf16 | .fp16 => 31
  | .e5m2 | .e4m3 => 42
  | .int32 => 6
  | .int8 => 11

end Sys2Proof.Machine
end

