-- ==== Sys2Proof/Machine/Mesh.lean ====
section
/-! DEFINITION. The mesh of 6 x 6 slates (02, "Rim and mesh"): links, the two minimal paths, detours, the
mesh distance, and the nearest sites. -/

namespace Sys2Proof.Machine

/-- The numbers from a to b, both included, in walking order. -/
def walk (a b : Nat) : List Nat :=
  if a ≤ b then (List.range (b + 1 - a)).map (a + ·) else ((List.range (a + 1 - b)).map (b + ·)).reverse

/-- The X-then-Y path from Sxy to Sx'y', both ends included (R84). -/
def xyPath (a b : Nat) : List Nat :=
  (walk (a / 6) (b / 6)).map (fun x => 6 * x + a % 6) ++ (walk (a % 6) (b % 6)).tail.map fun y => 6 * (b / 6) + y

/-- The Y-then-X path. -/
def yxPath (a b : Nat) : List Nat :=
  (walk (a % 6) (b % 6)).map (fun y => 6 * (a / 6) + y) ++ (walk (a / 6) (b / 6)).tail.map fun x => 6 * x + b % 6

/-- The number of the link between neighbours (R991): 30 row links, then 30 column links. -/
def linkOf (a b : Nat) : Nat :=
  let lo := min a b
  if a / 6 = b / 6 then 5 * (lo / 6) + lo % 6 else 30 + lo

/-- Whether a hop may be taken: its link is neither isolated nor under test. -/
def linkOpen (a b : Nat) (s : State) : Bool :=
  !s.switch.brokenLinks.contains (linkOf a b) && decide (s.patrol.current ≠ some (.link (linkOf a b), .testing))

/-- The links of a path are all open. -/
def linksOpen (s : State) : List Nat → Bool
  | a :: b :: rest => linkOpen a b s && linksOpen s (b :: rest)
  | _ => true

/-- A path crosses no site that cannot forward and no closed link (R84). -/
def pathClear (path : List Nat) (s : State) : Bool :=
  (path.tail.dropLast.all fun n => forwards n s) && linksOpen s path

/-- The neighbours of a site, in row-major order. -/
def neighbours (a : Nat) : List Nat :=
  (if 6 ≤ a then [a - 6] else []) ++ (if a % 6 ≠ 0 then [a - 1] else []) ++
    (if a % 6 ≠ 5 then [a + 1] else []) ++ (if a + 6 < 36 then [a + 6] else [])

/-- Hops to `b` after at most `fuel` rounds; none where no path is found. -/
def hopsTo (b : Nat) (s : State) : Nat → List (Option Nat)
  | 0 => (List.range 36).map fun n => if n = b then some 0 else none
  | fuel + 1 =>
    let d := hopsTo b s fuel
    (List.range 36).map fun n =>
      if n = b then some 0
      else
        let via := (neighbours n).filterMap fun m =>
          if linkOpen n m s && (m = b || forwards m s) then ((d.getD m none).map (· + 1)) else none
        via.foldl (fun best h => match best with | some x => some (min x h) | none => some h) none

/-- The detour of R84: fewest hops, then the lower site at each step. -/
def detourWalk (b : Nat) (d : List (Option Nat)) (s : State) : Nat → Nat → List Nat
  | 0, a => [a]
  | fuel + 1, a =>
    if a = b then [a]
    else
      match (neighbours a).find? fun m => linkOpen a m s && (m = b || forwards m s) &&
          decide ((d.getD m none).map (· + 1) = d.getD a none) with
      | some m => a :: detourWalk b d s fuel m
      | none => [a]

def detour (a b : Nat) (s : State) : Option (List Nat) :=
  let d := hopsTo b s 36
  match d.getD a none with
  | none => none
  | some _ => some (detourWalk b d s 36 a)

/-- The path that a frame between two slates takes (R84); none where the mesh offers no path. -/
def meshPath (a b : Nat) (s : State) : Option (List Nat) :=
  if pathClear (xyPath a b) s then some (xyPath a b)
  else if pathClear (yxPath a b) s then some (yxPath a b)
  else detour a b s

/-- The mesh distance D (R86). A pair with no path has none; it is taken to lie beyond every other. -/
def meshDistance (a b : Nat) (s : State) : Nat :=
  if pathClear (xyPath a b) s || pathClear (yxPath a b) s then manhattan a b
  else match detour a b s with
    | some p => p.length - 1
    | none => 36

/-- Sites in ascending mesh distance from a slate, ties to the lower row and then the lower column. -/
def nearestFirst (at_ : Nat) (ns : List Nat) (s : State) : List Nat :=
  (sortBy (fun a b => a.1 ≤ b.1) (ns.map fun n => (meshDistance at_ n s * 36 + n, n))).map Prod.snd

/-- The detours in use: every pair of forwarding sites whose two minimal paths are both closed (R341). -/
def detoursInUse (s : State) : List (Nat × Nat × Nat) :=
  (List.range 36).flatMap fun a => (List.range 36).filterMap fun b =>
    if a = b || !forwards a s || !forwards b s || pathClear (xyPath a b) s || pathClear (yxPath a b) s then none
    else (detour a b s).map fun p => (a, b, p.length - 1)

end Sys2Proof.Machine
end

