-- ==== Sys2Proof/Machine/Records.lean ====
section
/-! DEFINITION. Journal records: their 192 bytes (Tables 12.1-12.3), the stamps and flags that every
record carries, the chain, and the one operation by which every event is journalled. -/

namespace Sys2Proof.Machine

/-- A record type's code and its body, offsets 80-191 (Table 12.3). -/
def bodyBytes : RecordBody → Nat × List Byte
  | .collective c =>
    (0x01, le 8 c.collective ++ le 8 c.decision ++ le 8 c.decisionRecord ++ le 8 c.groupRecord ++
      le 4 c.group ++ le 4 c.elements ++ le 2 c.members ++ le 2 c.contributed ++ le 1 c.op ++
      le 1 c.input ++ le 1 c.output ++ le 1 c.cflags ++ le 1 c.flags ++ le 1 c.abortCause ++ zs 6 ++
      le 8 c.admission ++ le 8 c.release ++ le 8 c.delay ++ digestBytes c.digest)
  | .decision d ev n fi set r0 r1 =>
    (0x02, le 8 d ++ le 1 ev ++ le 1 n ++ le 1 fi ++ zs 5 ++ digestBytes set ++ digestBytes r0 ++
      digestBytes r1)
  | .group g n ev fl w list ms =>
    (0x03, le 4 g ++ le 2 n ++ le 1 ev ++ le 1 fl ++ le 4 w ++ zs 4 ++ digestBytes list ++
      padTo 64 ((ms.take 16).flatMap fun m => le 2 m.1 ++ le 2 m.2))
  | .groupMembers c f o ms =>
    (0x04, le 1 0 ++ le 1 c ++ le 2 f ++ zs 4 ++ le 8 o ++
      padTo 96 (ms.flatMap fun m => le 2 m.1 ++ le 2 m.2))
  | .decisionRegions c f o ds =>
    (0x04, le 1 1 ++ le 1 c ++ le 2 f ++ zs 4 ++ le 8 o ++ padTo 96 (ds.flatMap digestBytes))
  | .region h ev k b sz line refs d =>
    (0x05, le 4 h ++ le 1 ev ++ le 1 k ++ zs 2 ++ le 8 b ++ le 8 sz ++ le 8 line ++ le 4 refs ++ zs 4 ++
      digestBytes d)
  | .fwset r t st n set man w a b f c =>
    (0x06, le 1 r ++ le 1 t ++ le 2 st ++ le 4 n ++ digestBytes set ++ digestBytes man ++ le 4 w ++
      le 4 a ++ le 4 b ++ le 4 f ++ le 4 c)
  | .boot src fl ctl ph masks cause sites rim eps carts cyc plan roles =>
    (0x07, le 1 src ++ le 1 fl ++ le 1 ctl ++ le 1 ph ++ le 2 masks ++ le 2 cause ++ le 8 sites ++
      le 16 rim ++ padTo 8 (eps.map (BitVec.ofNat 8)) ++ le 4 carts ++ le 4 cyc ++ digestBytes plan ++
      digestBytes roles)
  | .param ev m n o t d masks =>
    (0x08, le 1 ev ++ le 1 m ++ le 2 n ++ le 4 o ++ le 8 t ++ digestBytes d ++ le 2 masks)
  | .tally ev o n c b a e off clamp =>
    (0x09, le 1 ev ++ le 1 o ++ le 1 n ++ zs 1 ++ le 2 c ++ zs 2 ++ le 8 b ++ le 8 a ++ leInt 8 e ++
      le 4 off ++ le 4 clamp)
  | .freeze ev tr k d ft et coll by' cls dur =>
    (0x0A, le 1 ev ++ le 1 tr ++ le 1 k ++ le 1 d ++ zs 4 ++ le 8 ft ++ le 8 et ++ le 8 coll ++ le 8 by' ++
      le 4 cls ++ le 4 dur)
  | .control ev un o n r t num orig fill d1 d2 =>
    (0x0B, le 1 ev ++ le 1 un ++ le 1 o ++ le 1 n ++ le 2 r ++ zs 2 ++ le 8 t ++ le 8 num ++ le 4 orig ++
      le 1 fill ++ zs 3 ++ digestBytes d1 ++ digestBytes d2)
  | .fabric ev m c p fs ts t g sv dur coll ident =>
    (0x0C, le 1 ev ++ le 1 m ++ le 2 c ++ le 2 p ++ le 1 fs ++ le 1 ts ++ le 8 t ++ le 8 g ++ le 4 sv ++
      le 4 dur ++ le 8 coll ++ le 8 ident)
  | .mark ev tag o text f l =>
    (0x0D, le 1 ev ++ zs 7 ++ le 8 tag ++ le 4 o ++ zs 4 ++ padTo 32 text ++ le 8 f ++ le 8 l)

/-- The 192 bytes of a record (R678). -/
def recordBytes (r : Record) : List Byte :=
  let (ty, body) := bodyBytes r.body
  le 1 ty ++ le 1 1 ++ le 2 r.flags ++ le 1 r.mode ++ le 1 r.ag ++ le 1 r.utcQuality ++ le 1 r.tallyState ++
    le 8 r.number ++ le 8 r.tally ++ le 8 r.ptpNs ++ leInt 2 r.utcOffset ++ le 1 r.builder ++ zs 5 ++
    le 8 r.fwset ++ digestBytes r.prev ++ padTo 112 body

/-! ### What a record carries -/

/-- The latest anchor with T_m ≤ T (R179); anchors stand newest first. -/
def anchorFor (t : Nat) (s : State) : Option Anchor := s.tally.anchors.find? fun a => a.tally ≤ t

/-- Whether an anchor is at most 4 markers old: a rack marker falls every 2^16 tk (R180). -/
def anchorFresh (a : Anchor) (s : State) : Bool := s.now ≤ a.at_ + 4 * 65536

/-- The UTC quality code of a stamp (R180): UNSET with no anchor since power-up, LOCKED within 1 us and 4 markers, else
HOLDOVER. A stamp below every anchor is HOLDOVER (DESIGN CHOICE, entry 94). -/
def utcQuality (t : Nat) (s : State) : Nat :=
  if s.tally.anchors.isEmpty then 2
  else match anchorFor t s with
    | some a => if a.good && anchorFresh a s then 0 else 1
    | none => 1

/-- ptp_ns of a stamp, before the clamp of R182 (R179): 3.2 ns is 16/5, and the nanosecond is the nearest one, which
keeps the bound of R181 (DESIGN CHOICE, entry 94). -/
def ptpRaw (t : Nat) (s : State) : Nat :=
  match anchorFor t s with
  | none => 0
  | some a => a.ptpNs + ((t - a.tally) * 32 + 5) / 10

/-! ### Row synchronisation (R113, R114, R171-R173, R176) -/

/-- Row position and membership of ROW_POS (R113): valid bit 31, row member bit 8, k in bits 2:0. -/
def rowMember (s : State) : Bool := s.referee.rowPos.getLsbD 31 && s.referee.rowPos.getLsbD 8

/-- Whether the tray sits in the row master rack (R113). -/
def rowMaster (s : State) : Bool := s.referee.rowPos.toNat % 8 = 0 && s.referee.rowPos.getLsbD 8

/-- The uplink ports to rack 0, on a tray of another rack of a row (R114, R171). -/
def rowUplinks (s : State) : List Nat :=
  if rowMember s && !rowMaster s then [128, 129, 130, 131].filter fun p => (port p s).state = .up else []

/-- Twice the sum of a port's last 16 offsets, in 1/16 tk, once it has completed 16 (R172). -/
def portOffset (q : Port) : Option Int :=
  if q.exchanges.length < 16 then none else some (q.exchanges.take 16).sum

/-- The median of an ascending list; of an even number, the mean of the middle two, in twice the unit. -/
def median2 (xs : List Int) : Int :=
  let n := xs.length
  xs.getD ((n - 1) / 2) 0 + xs.getD (n / 2) 0

/-- TALLY_OFFSET (Table 3.6) from the exchanges of the up ports; not valid while none has completed 16. The offset is
rounded down to 1/16 tk, and one that the 24 bits cannot hold wraps (DESIGN CHOICE, entry 95). -/
def tallyOffset (s : State) : U32 :=
  let xs := sortBy (· ≤ ·) ((rowUplinks s).filterMap fun p => portOffset (port p s))
  if xs.isEmpty then 0
  else
    let m := median2 xs
    let skew := 80 * 64 < m.natAbs
    BitVec.ofNat 32 (2 ^ 31 + (if skew then 2 ^ 30 else 0) + (m / 64 % (2 ^ 24 : Int)).toNat)

/-- The record flag of a tally state (Table 3.4). -/
def tallyFlag : TallyState → Nat
  | .slewing => 2
  | .holdover => 4
  | .unlocked => 8
  | _ => 0

/-- Record flags (Table 12.2) other than CONTINUED and LOFT_POISON. -/
def recordFlags (s : State) : Nat :=
  bit s.firmware.untested + tallyFlag s.tally.state +
    16 * bit ((tallyOffset s).getLsbD 30 && !rowMaster s) +
    128 * bit (!(s.journal.bankA.accepts && s.journal.bankB.accepts))

/-- The largest number of records that the sequencer holds while no bank accepts (R723): 64 MiB. -/
def heldLimit : Nat := 67108864 / 192

/-- The records that the crossing queues to a bank's two Thatch blocks hold (Table 3.2). -/
def nandQueue : Nat := 2 * (Crossing.gableToNand.depth * Crossing.gableToNand.width / 192)

/-- Blocks of a bank's two cartridges (R706, R708): 16 TiB in blocks of 24 MiB. -/
def bankBlocks : Nat := 699050

/-- The blocks of a bank's ring: those that are not factory bad, less the 1 % reserve (R708). -/
def ringBlocks (b : Bank) : Nat := (bankBlocks - b.factoryBad) * 99 / 100

/-- Records of a block: 1,536 pages of 85 (R706). -/
def blockRecords : Nat := 1536 * 85

/-- The records that an accepting bank's space holds: its ring less the blocks that have gone bad (R719). -/
def bankRecords (b : Bank) : Nat := (ringBlocks b - b.grownBad) * blockRecords

/-- Records held by unacknowledged and open segments (R719). -/
def heldRecords (s : State) : Nat :=
  (s.journal.durable.length + s.journal.waiting.length) -
    4096 * (s.journal.segments.filter fun g => g.acked && !g.reclaimed).length

/-- The fill of a bank in whole percent, rounded down (R719). -/
def bankFill (b : Bank) (s : State) : Nat :=
  if b.accepts then heldRecords s * 100 / max 1 (bankRecords b) else 0

/-- The journal's fill: the highest among accepting banks (R719). -/
def fill (s : State) : Nat := max (bankFill s.journal.bankA s) (bankFill s.journal.bankB s)

/-- Whether an Open-mode journal has space left (R722). -/
def spaceLeft (s : State) : Bool := fill s < 100

/-- Whether records are built at all: the banks have been mounted, by the slates or, while every slate is in reset, by the
authoritative Eave (R217), and the tray is not frozen (R742). -/
def buildsRecords (s : State) : Bool :=
  s.power.banksMounted && !s.freezeUnit.frozen && (s.power.slatesRunning || (authority s).isSome)

/-- Whether the building of a record waits for room (Table 3.2, R138): in the crossing queue to the NAND while a bank
accepts, and in Ledger mode, which journals every collective (R57), in the 64 MiB of R723 while none does
(DESIGN CHOICE, entry 96). -/
def buildingWaits (s : State) : Bool :=
  if bankAccepts s then nandQueue ≤ s.journal.waiting.length else isLedger s && heldLimit ≤ s.journal.waiting.length

/-- A GROUP DEFINE or DECISION OPEN record gives its group or decision the record number that COLLECTIVE
records name (R684). -/
def noteNumber (body : RecordBody) (n : Nat) (s : State) : State :=
  match body with
  | .group g _ 0 _ _ _ _ =>
    { s with reduction.groups := s.reduction.groups.map fun x => if x.id = g then { x with record := n } else x }
  | .decision d 0 _ _ _ _ _ =>
    { s with reduction.decisions := s.reduction.decisions.map fun x =>
        if x.id = d then { x with record := n } else x }
  | _ => s

/-- The stamp of a record's header: a Finial event carries the mark's value, every other the tally (R141, Table 3.3). A
stamp of a wafer domain lags by 0 of the Lmax that it may (DESIGN CHOICE, entry 97). -/
def stampOf (builder : Nat) (s : State) : Nat := if builder = 0xFF then markTallyNat s else tallyNat s

/-- Builds one record and hands it to the sequencer, which numbers and chains it (R686-R688). -/
def buildRecord (body : RecordBody) (builder extra : Nat) (s : State) : State :=
  let stamp := stampOf builder s
  let raw := ptpRaw stamp s
  let clamped := !s.tally.anchors.isEmpty && raw < s.tally.lastPtpNs
  let ptp := if clamped then s.tally.lastPtpNs + 1 else raw
  let s := if clamped then count (cTally 2) s else s
  let isFw := match body with | .fwset .. => true | _ => false
  let fw := if isFw then s.journal.next else s.journal.fwset
  let r : Record :=
    { flags := recordFlags s ||| extra, mode := s.mode.code, ag := 1, utcQuality := utcQuality stamp s
      tallyState := s.tally.state.code, number := s.journal.next, tally := stamp, ptpNs := ptp
      utcOffset := ((anchorFor stamp s).map Anchor.utcOffset).getD 0, builder := builder, fwset := fw
      prev := s.journal.lastHash, body := body }
  noteNumber body s.journal.next { s with
    tally.lastPtpNs := if !s.tally.anchors.isEmpty then ptp else s.tally.lastPtpNs
    journal := { s.journal with
      waiting := s.journal.waiting ++ [r], next := s.journal.next + 1
      lastHash := sha256 (recordBytes r), fwset := fw
      openSince := if s.journal.next % 4096 = 1 then some s.now else s.journal.openSince } }

/-- An Open-mode record that finds no place goes unwritten (R722, R723). -/
def unjournalled (s : State) : Bool :=
  !isLedger s && (if bankAccepts s then !spaceLeft s else decide (heldLimit ≤ s.journal.waiting.length))

/-- A record that is not written is counted with its tally span (R722). -/
def countUnjournalled (s : State) : State :=
  let t := tallyNat s
  countBy (cThatch 0 5) 1 { s with
    journal.unjournalled := s.journal.unjournalled + 1
    journal.unjournalledFirst := if s.journal.unjournalled = 0 then t else s.journal.unjournalledFirst
    journal.unjournalledLast := t }

/-- Bytes of a record held while no bank accepts (journal.held_bytes, R723). -/
def countHeld (s : State) : State := if bankAccepts s then s else countBy (cThatch 0 6) 192 s

/-- Journals one event. While no record is built, and while the building waits, it waits for the next build (R217,
R742, Table 3.2). -/
def journalWith (body : RecordBody) (builder extra : Nat) (s : State) : State :=
  if !buildsRecords s || buildingWaits s then { s with journal.frozenNotes := s.journal.frozenNotes ++ [(body, builder, extra)] }
  else if unjournalled s then countUnjournalled s
  else buildRecord body builder extra (countHeld s)

/-- The builder code of the wafer: the command slate, or the authoritative Eave while no slate runs
(R217, Table 12.1). -/
def waferBuilder (s : State) : Nat :=
  if s.power.slatesRunning then (commandSlate s).getD 0xFE else 0xFE

/-- The building slate of a command's record: an in-band command runs on its ingress slate (R582, R583). -/
def commandBuilder (path : Path) (s : State) : Nat :=
  match path with
  | .inBand q _ => (servingSite q s).getD (waferBuilder s)
  | _ => waferBuilder s

def journalWafer (body : RecordBody) (s : State) : State := journalWith body (waferBuilder s) 0 s
/-- Journals the event of a command at the slate that executes it. -/
def journalCommand (p : Packet) (body : RecordBody) (s : State) : State := journalWith body (commandBuilder p.path s) 0 s
def journalEave (body : RecordBody) (s : State) : State := journalWith body 0xFE 0 s
def journalFinial (body : RecordBody) (s : State) : State := journalWith body 0xFF 0 s

/-- Builds the records that waited, in order. -/
def flushNotes (s : State) : State :=
  let notes := s.journal.frozenNotes
  notes.foldl (fun t n => journalWith n.1 n.2.1 n.2.2 t) { s with journal.frozenNotes := [] }

/-- Builds the records that waited, once room is there. -/
def settleBuilding (s : State) : State :=
  if s.journal.frozenNotes.isEmpty || !buildsRecords s || buildingWaits s then s else flushNotes s

/-! ### Bodies that several commands write -/

/-- A CONTROL record of a Finial event, whose tick is the mark's value (R141, Table 3.3). -/
def finialBody (event unit old new reason number : Nat) (s : State) : RecordBody :=
  .control event unit old new reason (markTallyNat s) number 0 (fill s) 0 0

/-- A CONTROL record (Table 12.3). -/
def controlBody (event unit old new reason number : Nat) (s : State) : RecordBody :=
  .control event unit old new reason (tallyNat s) number 0 (fill s) 0 0

/-- A CONTROL BANK_STATE record for a bank's change (R700). -/
def journalBank (n : Nat) (old new : BankState) (s : State) : State :=
  journalWafer (controlBody 5 (2 + n) old.code new.code 0 0 s) s

/-- A TALLY record (R168). -/
def tallyBody (event : Nat) (old : TallyState) (before after : Nat) (s : State) : RecordBody :=
  .tally event old.code s.tally.state.code s.tally.cause.toNat before after s.tally.lastError
    (tallyOffset s).toNat (counter (cTally 2) s)

/-- Moves the tally to a state, with its record (R168) and the error class of a departure from LOCKED. -/
def tallyTo (st : TallyState) (cause : Nat) (s : State) : State :=
  let old := s.tally.state
  if old = st then { s with tally.cause := BitVec.ofNat 16 cause }
  else
    let s := { s with tally.state := st, tally.cause := BitVec.ofNat 16 cause }
    let s := journalWafer (tallyBody 0 old (tallyNat s) (tallyNat s) s) s
    if old = .locked then errorClass 10 s else s

/-- A PARAM record (Table 12.3). -/
def paramBody (event entries originator tick : Nat) (digest : Digest) (s : State) : RecordBody :=
  .param event s.mode.code entries originator tick digest s.coping.masks.toNat

/-- A FREEZE record (R786). -/
def freezeBody (event kind destructive eventTally bytes duration : Nat) (s : State) : RecordBody :=
  .freeze event s.freezeUnit.trigger kind destructive s.freezeUnit.freezeTally eventTally
    s.freezeUnit.collective bytes s.freezeUnit.classes duration

/-! ### The firmware set (R685) -/

/-- One 40-byte entry of the set digest (R685) and of FW_IDENTITY. -/
def runningBytes (r : Running) : List Byte :=
  le 1 r.kind ++ le 1 r.slot ++ le 2 r.target ++ le 4 r.version.toNat ++ digestBytes r.sha

/-- Running images in ascending kind, target and slot (R685, R974). -/
def runningOrder (rs : List Running) : List Running :=
  sortBy (fun a b => a.kind * 1048576 + a.target * 4 + a.slot ≤ b.kind * 1048576 + b.target * 4 + b.slot) rs

/-- The version of the first running image of a kind and target. -/
def runningVersion (kind target : Nat) (s : State) : Nat :=
  ((s.firmware.running.find? fun r => r.kind = kind && r.target = target).map fun r => r.version.toNat).getD 0

/-- The version of the wafer image: of two in a roll, that of the image on the command slate (R974). -/
def waferVersion (s : State) : Nat :=
  let new := (commandSlate s).any fun n => (site n s).newImage
  match s.firmware.activation, s.firmware.running.filter fun r => r.kind = 0 with
  | some a, _ :: _ :: _ =>
    let slot := if new then a.slot else 1 - a.slot
    ((s.firmware.running.find? fun r => r.kind = 0 && r.slot = slot).map fun r => r.version.toNat).getD 0
  | _, _ => runningVersion 0 0 s

/-- Whether an image SHA-256 of a kind stands in a tested set whose entries start at an offset of the
manifest, 40 bytes each (Table 17.3). -/
def setHolds (m : List Byte) (off n : Nat) (r : Running) : Bool :=
  (List.range n).any fun i =>
    let e := off + 40 * i
    field m e 1 = r.kind && digestOf (sub m (e + 8) 32) = r.sha

/-- The offsets and sizes of the tested sets of a manifest, and where the rolling pairs begin. -/
def setOffsets (m : List Byte) : Nat → Nat → List (Nat × Nat) × Nat
  | 0, off => ([], off)
  | n + 1, off =>
    let k := field m off 2
    let (rest, fin) := setOffsets m n (off + 8 + 40 * k)
    ((off + 8, k) :: rest, fin)

/-- The tested sets of the loaded manifest; a manifest that did not verify is absent (R224). -/
def testedSets (s : State) : List (Nat × Nat) :=
  if s.firmware.manifestGood then (setOffsets s.firmware.manifest (field s.firmware.manifest 10 2) 32).1 else []

/-- Whether a set of running images lies in one tested set (R943). RECOVERY is never part of it. -/
def inTestedSet (rs : List Running) (s : State) : Bool :=
  (testedSets s).any fun t =>
    (rs.filter fun r => r.kind ≤ 5).all fun r => setHolds s.firmware.manifest t.1 t.2 r

/-- Whether two Eave images are a rolling pair of the loaded manifest (R941). -/
def rollingPair (a b : Digest) (s : State) : Bool :=
  let m := s.firmware.manifest
  let off := (setOffsets m (field m 10 2) 32).2
  s.firmware.manifestGood && (List.range (field m 12 2)).any fun i =>
    let x := digestOf (sub m (off + 64 * i) 32)
    let y := digestOf (sub m (off + 64 * i + 32) 32)
    (x = a && y = b) || (x = b && y = a)

/-- The running set lies in a tested set: in a roll, each wafer image with the rest (R943, R963). -/
def runningTested (rs : List Running) (s : State) : Bool :=
  let wafers := rs.filter fun r => r.kind = 0
  let rest := rs.filter fun r => r.kind ≠ 0
  let waferSets := if wafers.length ≤ 1 then [wafers] else wafers.map fun w => [w]
  waferSets.all fun w => inTestedSet (w ++ rest) s

/-- The running set that an activation would leave passes in Ledger mode: it is tested, or its Eave images are a rolling
pair of which each, with the rest, is (R956, R957). -/
def activationTested (rs : List Running) (s : State) : Bool :=
  let rest := rs.filter fun r => r.kind ≠ 1
  runningTested rs s || match rs.filter fun r => r.kind = 1 with
    | [x, y] => rollingPair x.sha y.sha s && runningTested (x :: rest) s && runningTested (y :: rest) s
    | _ => false

/-- A FWSET record (R685, R973, R975), and the fwset of the records that follow it. -/
def journalFwset (reason : Nat) (builder : Nat) (s : State) : State :=
  let rs := runningOrder s.firmware.running
  let body : RecordBody := .fwset reason (bit (runningTested s.firmware.running s)) s.ident.stepping.toNat
    rs.length (sha256 (rs.flatMap runningBytes)) (sha256 s.firmware.manifest) (waferVersion s)
    (runningVersion 1 0 s) (runningVersion 1 1 s) (runningVersion 2 0 s) (runningVersion 3 0 s)
  journalWith body builder 0 s

/-- UNTESTED_SET holds while the running set is in no tested set in Open mode (R946, R958). -/
def refreshTested (s : State) : State :=
  { s with firmware.untested := !runningTested s.firmware.running s }

end Sys2Proof.Machine
end

