-- ==== Sys2Proof/WellFormed.lean ====
section
/-! DEFINITION. Which command terms stand for something the tray can meet: port, site, channel, bank and
cartridge numbers in the ranges of 02_tray_and_rack, and lists within the sizes of the manual. -/

namespace Sys2Proof

/-- A port of the tray is 0-159 (R76). -/
def portOk (p : Nat) : Bool := p < 160

/-- A site of the wafer is 0-35 (R77). -/
def siteOk (n : Nat) : Bool := n < 36

/-- A path names a port that exists. -/
def Path.wf : Path → Bool
  | .inBand p _ => portOk p
  | _ => true

/-- A packet's header gives its body's length in 32 bits (Table 5.1). -/
def Packet.wf (p : Packet) : Bool := p.path.wf && p.body.length < 2 ^ 32

/-- The payload is at most 65,535 bytes long: the header's length has 16 bits (Table 7.4). The rest of an open frame ends
with its EOF. -/
def RxFrame.wf (f : RxFrame) : Bool := f.payload.length < 65536 && !(f.rest && f.eof = .pending)

/-- A preempted frame has a class below the express class and a fragment count of two bits (R419). What the port holds
of it is the port's. -/
def OpenFrame.wf (f : OpenFrame) : Bool := f.cls < 7 && f.fragment < 4 && f.frame.isNone && f.cutTo.isNone

/-- A BIST result names sites 0-35, engines 8 x site + 0-5, and slices below 569 (R218, R991). -/
def BistResult.wf (r : BistResult) : Bool :=
  r.sites.all siteOk && r.engines.all (fun e => e < 288 && e % 8 < 6) &&
    r.slices.all (fun x => siteOk x.1 && x.2 < 569)

/-- A slate BIST result names engines 0-5 and slices below 569 (R1008). -/
def SlateBist.wf (r : SlateBist) : Bool := r.engines.all (· < 6) && r.slices.all (· < 569)

/-- Cartridge numbers within their bays (Table 2.1). -/
def CartridgeId.wf : CartridgeId → Bool
  | .loft n => n < 32
  | .cable n => n < 16
  | .optical n => n < 4
  | .thatch n => n < 4

/-- The packet a command carries, of the Batten rows of the table. -/
def Instr.packet? : Instr → Option Packet
  | .sessionOpen p | .identity p | .features p | .certRead p | .fwIdentity p | .completionRead p
  | .sessionClose p | .rolemapRead p | .rolemapWrite p | .paramStage p | .paramRead p | .paramCommit p
  | .paramDiscard p | .paramDescribe p | .portStatus p | .portUp p | .portDown p | .portAdapt p
  | .cablePlanLoad p | .cablePlanRead p | .opticRead p | .topologyRead p | .dormerStatus p
  | .skylightRead p | .slateIsolate p | .slateRestore p | .groupDefine p | .groupDelete p
  | .collectiveOpen p | .collectiveStatus p | .collectiveCancel p | .decisionOpen p | .decisionClose p
  | .reedDisable p | .reedEnable p | .engineDisable p | .engineEnable p | .regionAlloc p | .regionInfo p
  | .regionList p | .regionFind p | .regionSeal p | .regionFree p | .journalStatus p | .journalExport p
  | .journalAck p | .replayStart p | .replayStatus p | .replayCancel p | .journalMark p | .bankSet p
  | .trayState p | .inventory p | .tallyStatus p | .tallyReacquire p | .senseRead p | .counterSnap p
  | .counterRead p | .senseSync p | .aoutWrite p | .aoutRead p | .calRun p | .channelMask p | .modeSet p
  | .roleSwap p | .latchWrite p | .controllerStatus p | .imgDownload p | .imgVerify p | .imgActivate p
  | .imgConfirm p | .imgStatus p | .manifestLoad p | .manifestRead p | .freeze p | .freezeAt p | .thaw p
  | .restart p | .snapStart p | .patrolStatus p | .unassignedOpcode _ p => some p
  | _ => none

/-- The port a command of the table names. -/
def Instr.port? : Instr → Option Nat
  | .tallyRequest p _ | .tallyResponse p _ _ _ _ | .portSignalDetect p | .linkTrainingDone p _ _ _
  | .trainingTimeout p | .portRetrainTimer p _ | .berMeasureEnd p _ _ | .fecSwitch p | .identityBlock p _
  | .identitySend p | .lstateBlock p _ | .lstateRefresh p | .creditBlock p _ | .creditRefresh p
  | .alignRound p _ | .freezeIdleRx p | .reservedBlock p _ | .expressPreemptSof p _ | .contBlock p _ _
  | .frameRxTimeout p | .fecUncorrectable p _ | .laneSignalLoss p _ | .fecLBerWindow p _
  | .adaptAckTimeout p | .moduleReady p _ _ | .moduleRemoval p | .dataFrame p _ | .egressGrant p
  | .frameResume p | .portDrainEnd p | .contribFrame p _ | .contribEarlyHoldExpiry p | .loftRdFrame p _
  | .loftWrFrame p _ | .crossingQueueOverrun p | .strayBlock p _ | .frameTypeError p _ => some p
  | _ => none

/-- The site a command of the table names. -/
def Instr.site? : Instr → Option Nat
  | .auditTick n _ | .fuseTrip n | .slateBistDone n _ | .lendStart n | .rollSiteReady n
  | .activationTimeout n | .gableCoreFault n => some n
  | _ => none

/-- The frame a command carries. -/
def Instr.frame? : Instr → Option RxFrame
  | .dataFrame _ f | .contribFrame _ f | .loftRdFrame _ f | .loftWrFrame _ f | .frameTypeError _ f => some f
  | _ => none

/-- The opcodes that Tables 6.5-6.14 assign. -/
def opcodeAssigned (n : Nat) : Bool :=
  n ≤ 0x08 || (0x10 ≤ n && n ≤ 0x14) || (0x20 ≤ n && n ≤ 0x26) || (0x31 ≤ n && n ≤ 0x33) || n = 0x3C || n = 0x3D ||
    (0x40 ≤ n && n ≤ 0x46) || (0x48 ≤ n && n ≤ 0x4B) || (0x50 ≤ n && n ≤ 0x53) || n = 0x58 || n = 0x59 ||
    (0x60 ≤ n && n ≤ 0x62) || (0x64 ≤ n && n ≤ 0x66) || n = 0x68 || n = 0x69 || (0x70 ≤ n && n ≤ 0x86) ||
    (0x90 ≤ n && n ≤ 0x95)

/-- The other numbers of a command: SENSE and AOUT channels, lanes, banks, Loft blocks and cartridges. -/
def Instr.numbersOk : Instr → Bool
  | .senseWord n _ | .indeterminateTimeout n => n < 16
  | .leakWindowExpiry n => 10 ≤ n && n < 15
  | .deglitchHoldEnd n | .complianceFaultOnset n _ | .complianceFaultClear n => n < 8
  | .fecUncorrectable _ f => f.lane < 4 && 0 < f.consecutive
  | .laneSignalLoss _ n => n < 4
  | .bankFault n | .bankResyncDone n | .thatchPatrol n _ => n < 2
  | .loftAccessDone n _ => n < 32
  | .loftScrubPass n => n < 32
  | .cartridgeFault c => c.wf
  | .cartridgeMcuReady n => n < 20
  | .fullBistDone r => r.wf
  | .slateBistDone _ r => r.wf
  | .expressPreemptSof _ f => f.wf
  | .malformedPacket p _ _ => p.wf
  | .divergedReport r => r.pathA.wf && r.pathB.wf
  | .unassignedOpcode op _ => !opcodeAssigned op.toNat
  | _ => true

/-- A command term that stands for something the tray can meet. -/
def Instr.wf (i : Instr) : Bool :=
  (i.packet?.all Packet.wf) && (i.port?.all portOk) && (i.site?.all siteOk) && (i.frame?.all RxFrame.wf) &&
    i.numbersOk

end Sys2Proof
end

