-- ==== Sys2Proof/Machine/Fabric.lean ====
section
/-! DEFINITION. The switch core's shared operations (07, 08): credits, shingles, queues, the gutter,
flushes and SEVER notices, dormer copies and skylight samples, frame checks. -/

namespace Sys2Proof.Machine

/-! ### Credits (R411-R418) -/

def Credits.get (c : Credits) : Nat → Nat
  | 0 => c.c0.toNat | 1 => c.c1.toNat | 2 => c.c2.toNat | 3 => c.c3.toNat | _ => c.c7.toNat

def Credits.put (c : Credits) (cls : Nat) (v : Nat) : Credits :=
  match cls with
  | 0 => { c with c0 := BitVec.ofNat 16 v } | 1 => { c with c1 := BitVec.ofNat 16 v }
  | 2 => { c with c2 := BitVec.ofNat 16 v } | 3 => { c with c3 := BitVec.ofNat 16 v }
  | _ => { c with c7 := BitVec.ofNat 16 v }

def Credits.add (c : Credits) (cls k : Nat) : Credits := c.put cls (c.get cls + k)

/-- Classes 0-3 and 7 are credit-controlled (Table 7.6). -/
def credited (cls : Nat) : Bool := cls < 4 || cls = 7

/-- The hold bit of a credited class (Table 7.7). -/
def holdIndex (cls : Nat) : Nat := if cls = 7 then 4 else cls

/-- Credits and shingles of a frame of L payload bytes (R411, R467). -/
def creditsOf (l : Nat) : Nat := (64 + l + 255) / 256

/-- Whether a port is held by a re-homing that has not reached step 6 (Table 2.3). -/
def rehoming (p : Nat) (s : State) : Bool :=
  s.switch.rehomings.any fun r => r.ports.any fun q => q.1 = p

/-- The re-homing that a port is held by. -/
def rehomingOf (p : Nat) (s : State) : Option Rehoming :=
  s.switch.rehomings.find? fun r => r.ports.any fun q => q.1 = p

/-- Buffers of a class are free again: those of frames from before the port last entered UP grant nothing to the new
link, and the rest advance the grant. -/
def Port.grantBack (q : Port) (cls k : Nat) : Port :=
  let old := min k (q.stale.get cls)
  { q with stale := q.stale.put cls (q.stale.get cls - old), grantOut := q.grantOut.add cls (k - old) }

/-- The receiver frees a buffer: the grant of its class advances (R414), except on a port that drains
(Table 8.4) or is held by a re-homing (Table 2.3, step 3). -/
def returnCredits (p cls k : Nat) (s : State) : State :=
  if p < 160 && credited cls && (port p s).state = .up && !rehoming p s then setPort p (fun q => q.grantBack cls k) s
  else s

/-- The allocation of a class on a port: the values taken at its entry to UP (R415, R451). -/
def Port.allocation (q : Port) (cls : Nat) : Nat := if cls = 7 then q.allocExpress else q.allocLossless

/-- A CREDIT block with the port's grants and holds (Table 7.7). -/
def creditBlockOf (q : Port) : CreditBlock :=
  { hold := q.holdOut.zeroExtend 8, c0 := q.grantOut.c0, c1 := q.grantOut.c1, c2 := q.grantOut.c2
    c3 := q.grantOut.c3, c7 := q.grantOut.c7 }

def sendCredit (p : Nat) (s : State) : State := emit (.credit p (creditBlockOf (port p s))) s

/-! ### Shingle accounting (R468-R474, Table 8.2) -/

/-- Shingles of one slate's share (R468). -/
def shareTotal (s : State) : Nat := param pShare s * 4096

/-- The reservation of one input (R469): the parameters in force, and what a port that is UP or DRAINING was granted
at its entry to UP where that is more (R451, R470). -/
def inputReserve (p : Nat) (s : State) : Nat :=
  let q := port p s
  let want := 4 * param (pCreditLossless p) s + param (pCreditExpress p) s
  if q.state = .up ∨ q.state = .draining then max want (4 * q.allocLossless + q.allocExpress) else want

/-- Shingles reserved on a slate for the inputs it serves (R469). -/
def reserved (n : Nat) (s : State) : Nat := ((portsOf n s).map fun p => inputReserve p s).sum

/-- Whether a queued frame draws on the shared pool: lossy, tray-originated or a copy (R469). -/
def drawsPool (f : QFrame) : Bool := f.input ≥ 160 || !credited f.cls

/-- Free shingles of a slate's shared pool. -/
def poolFree (n : Nat) (s : State) : Nat :=
  (shareTotal s - reserved n s) -
    (((s.switch.queue ++ s.switch.dormerQueue).filter fun f => f.site = n && drawsPool f).map QFrame.shingles).sum

/-- Moves shingles of a slate from free to queued. -/
def takeShingles (n k : Nat) (s : State) : State :=
  setSite n (fun t => { t with free := t.free - k, queued := t.queued + k }) s

/-- Returns queued shingles of a slate to the free list. -/
def freeShingles (n k : Nat) (s : State) : State :=
  setSite n (fun t => { t with free := t.free + k, queued := t.queued - k }) s

/-- A granted frame's shingles go from queued to in-flight (Table 8.2). -/
def flyShingles (n k : Nat) (s : State) : State :=
  setSite n (fun t => { t with queued := t.queued - k, inFlight := t.inFlight + k }) s

/-- The shingles of a frame that has left its output are free. -/
def landShingles (n k : Nat) (s : State) : State :=
  setSite n (fun t => { t with free := t.free + k, inFlight := t.inFlight - k }) s

/-- A Batten frame that awaits its execution is engine-held (Table 8.1, Table 8.2). -/
def holdShingles (n k : Nat) (s : State) : State :=
  setSite n (fun t => { t with free := t.free - k, engineHeld := t.engineHeld + k }) s

/-- The shingles of an executed Batten frame are free; what the slate lost meanwhile is not freed again. -/
def releaseShingles (n k : Nat) (s : State) : State :=
  setSite n (fun t => { t with free := t.free + min k t.engineHeld, engineHeld := t.engineHeld - k }) s

/-- A slate that enters service starts with a full free list, empty queues and no pending walk (R525). -/
def freshStore (n : Nat) (s : State) : State :=
  let total := shareTotal s
  setSite n (fun t => { t with free := total, queued := 0, engineHeld := 0, inFlight := 0
                               walkPending := false, prevCandidates := [] }) s

/-- The VOQ of a triple, in arrival order. -/
def voq (input output cls : Nat) (s : State) : List QFrame :=
  s.switch.queue.filter fun f => f.input = input && f.output = output && f.cls = cls

/-- Puts a frame at the tail of its queue. -/
def enqueue (f : QFrame) (s : State) : State :=
  takeShingles f.site f.shingles { s with switch.queue := s.switch.queue ++ [f] }

/-- A frame taken out of the queue that it waits in: a session's copy queue, or a VOQ or origin queue. -/
def takeOut (f : QFrame) (s : State) : State :=
  match f.kind with
  | .dormer _ => { s with switch.dormerQueue := s.switch.dormerQueue.erase f }
  | _ => { s with switch.queue := s.switch.queue.erase f }

/-- Removes one frame from the queues and frees its shingles. -/
def unqueue (f : QFrame) (s : State) : State := freeShingles f.site f.shingles (takeOut f s)

/-- The header of a frame that the tray sends (Table 7.4). -/
def trayHeader (cls type flags length dst tag address aux : Nat) : FrameHeader :=
  { sof := 0x33, cls := BitVec.ofNat 8 cls, type := BitVec.ofNat 8 type, flags := BitVec.ofNat 8 flags
    length := BitVec.ofNat 16 length, dstPort := 0xFFFF, srcEndpoint := 0xFFFF
    dstEndpoint := BitVec.ofNat 16 dst, reserved12 := 0, tag := BitVec.ofNat 64 tag
    address := BitVec.ofNat 64 address, aux := BitVec.ofNat 64 aux, reserved40 := 0 }

/-- A frame built on a slate for an output: it waits in the slate's origin queue (R465, input
160 + site). -/
def originFrame (n output cls : Nat) (kind : QKind) (h : FrameHeader) (payload : List Byte) : QFrame :=
  { input := 160 + n, output, cls, site := n, shingles := creditsOf payload.length, kind, header := h, payload }

/-! ### Frames on their way out (R402, R419) -/

/-- Blocks of header and payload of a frame (R402). -/
def headPayloadBlocks (f : QFrame) : Nat := 2 + (f.payload.length + 31) / 32

/-- Blocks of a segment sent by now: 10 a tick at width 4 (Table 7.1). -/
def blocksSent (t : TxFrame) (width now : Nat) : Nat := t.sent + (now - t.since) * (5 * width) / 2

/-- Whether a frame has not left its port yet. -/
def stillSending (t : TxFrame) (width now : Nat) : Bool := blocksSent t width now < headPayloadBlocks t.frame + 1

/-! ### What a port's senders are still owed (R414, R415) -/

/-- Frames from an input that wait in a queue or leave an output. -/
def heldFrames (p : Nat) (s : State) : List QFrame :=
  (s.switch.queue ++ s.ports.flatMap fun q => (q.sending.toList ++ q.suspended.toList).map TxFrame.frame).filter
    fun f => f.input = p

/-- The packets of an input's BATTEN frames that wait for their turn in a sequence window. -/
def heldPackets (p : Nat) (s : State) : List Packet :=
  (s.batten.windows.flatMap fun w => w.2.marks).filterMap fun m => match m.2 with
    | .held _ c _ => c.packet?.filter fun k => match k.path with
      | .inBand q _ => q = p
      | _ => false
    | _ => none

/-- Credits of the frame that carries a packet (R408, R411). -/
def packetCredits (k : Packet) : Nat := creditsOf (36 + k.body.length)

/-- Credits of a class that the frames in reception on a port hold: those of a frame that leaves cut-through are those
of the frame in flight. -/
def openCredits (p cls : Nat) (s : State) : Nat :=
  let q := port p s
  (((q.openRx.toList ++ q.parked.toList).filter fun o => o.cls = cls && o.cutTo.isNone).map OpenFrame.credits).sum

/-- Credits of a class whose buffers an input still holds: frames in reception, queued and leaving, Loft requests,
CONTRIB frames that wait for their collective, and BATTEN frames that wait for their turn. -/
def heldCredits (p cls : Nat) (s : State) : Nat :=
  openCredits p cls s +
  (((heldFrames p s).filter fun f => f.cls = cls).map QFrame.shingles).sum +
    (((s.loft.requests ++ s.loft.waiting).filter fun r => r.port = p && r.header.cls.toNat % 8 = cls).map fun r =>
      creditsOf r.header.length.toNat).sum +
    ((s.reduction.early.filter fun e => e.port = p && e.header.cls.toNat % 8 = cls).map fun e =>
      creditsOf e.payload.length).sum +
    (if cls = 7 then ((heldPackets p s).map packetCredits).sum else 0)

/-- `heldCredits` of every credited class. -/
def heldAll (p : Nat) (s : State) : Credits :=
  { c0 := BitVec.ofNat 16 (heldCredits p 0 s), c1 := BitVec.ofNat 16 (heldCredits p 1 s)
    c2 := BitVec.ofNat 16 (heldCredits p 2 s), c3 := BitVec.ofNat 16 (heldCredits p 3 s)
    c7 := BitVec.ofNat 16 (heldCredits p 7 s) }

/-! ### Gutter and SEVER (R484-R488) -/

/-- Counts a gutter discard in the slate's counter, and in that of its triple where the frame has an output port
(R484, R518). -/
def gutter (n input output cls : Nat) (s : State) : State :=
  let s := count (cSlate n 4) s
  if output < 160 then count (cTriple input output cls 0x80) s else s

/-- The payload of a SEVER (R409). -/
def severPayload (output cls cause tally n : Nat) : List Byte :=
  le 2 output ++ le 1 cls ++ zs 1 ++ le 2 cause ++ zs 2 ++ le 8 tally ++ le 4 n ++ zs 12

/-- Sends one SEVER on the input port to the endpoint of the oldest flushed frame; one that cannot be
sent is counted (R486, R488). -/
def sever (input output cls cause endpoint tag n : Nat) (s : State) : State :=
  let at_ := (servingSite input s).getD 0
  if (port input s).state = .up then
    enqueue (originFrame at_ input 7 .sever (trayHeader 7 0x09 0 32 endpoint tag 0 0)
      (severPayload output cls cause (tallyNat s) n)) (count (cSlate at_ 5) s)
  else count (cSlate at_ 6) s

/-- A frame discarded on arrival under R96 or R463 (R484, R487): to the gutter, with a SEVER for the
first lossless frame of its triple in the marker interval. -/
def discardArrival (n input output cls cause endpoint tag k : Nat) (s : State) : State :=
  let s := returnCredits input cls k (gutter n input output cls s)
  if cls < 4 && !s.switch.severed.contains (input, output, cls) then
    sever input output cls cause endpoint tag 1 { s with switch.severed := (input, output, cls) :: s.switch.severed }
  else s

/-- Whether a flushed frame is a DATA frame from an input, for which a SEVER may go out (R486, R488). -/
def severable (f : QFrame) : Bool := f.input < 160 && f.cls < 4 && f.kind = .data

/-- The triples of a list of frames, in order of first appearance. -/
def triples (fs : List QFrame) : List (Nat × Nat × Nat) :=
  (fs.map fun f => (f.input, f.output, f.cls)).eraseDups

/-- One frame goes to the gutter by a flush: counted, its shingles and credits freed; a RESULT frame is
counted in slate.result_flush and its collective journalled (R484, R490). -/
def flushOne (cause : Nat) (f : QFrame) (s : State) : State :=
  let s := returnCredits f.input f.cls f.shingles (gutter f.site f.input f.output f.cls (unqueue f s))
  match f.kind with
  | .result c _ _ =>
    journalWafer (.fabric 4 0 cause f.output 0xFF f.site (tallyNat s) 1 0 0 c 0) (count (cSlate f.site 7) s)
  | _ => s

/-- SEVER notices for a flush: one per triple of classes 0-3 (R486). -/
def severAll (cause : Nat) (fs : List QFrame) (s : State) : State :=
  let fs := fs.filter severable
  (triples fs).foldl (fun t x =>
    let mine := fs.filter fun f => (f.input, f.output, f.cls) = x
    match mine with
    | [] => t
    | f :: _ => sever f.input f.output f.cls cause f.header.srcEndpoint.toNat f.header.tag.toNat mine.length t) s

/-- The numbers a flush reports: frames to the gutter, and SEVER notices sent. -/
def flushCounts (fs : List QFrame) (s : State) : Nat × Nat :=
  (fs.length, ((triples (fs.filter severable)).filter fun x => (port x.1 s).state = .up).length)

/-- A frame that has left its output, or was cut off on the way: its shingles are free and its credits return (R414,
Table 8.2). -/
def landFrame (f : QFrame) (s : State) : State :=
  returnCredits f.input f.cls f.shingles (landShingles f.site f.shingles s)

/-- Whether the frame that a port sends is a cut-through frame of which the input still receives the rest. -/
def cutOpen (p : Nat) (t : TxFrame) (s : State) : Bool :=
  let q := port t.frame.input s
  q.openRx.any (fun o => o.cutTo = some p) || q.parked.any (fun o => o.cutTo = some p)

/-- The frame that a port has finished sending is no longer in flight. A frame that leaves cut-through stays so until
its own EOF has come. -/
def landPort (p : Nat) (s : State) : State :=
  match (port p s).sending with
  | none => s
  | some t =>
    if stillSending t (port p s).width s.now || cutOpen p t s then s
    else landFrame t.frame (setPort p (fun q => { q with sending := none }) s)

/-- Every frame whose last block has left is no longer in flight. -/
def landAll (s : State) : State := forEach (List.range 160) landPort s

/-- A frame cut off in transmission goes to the gutter (R492, R763). -/
def cutOne (f : QFrame) (s : State) : State :=
  let s := gutter f.site f.input f.output f.cls (count (cPort f.output 0x0A) (emit (.stomp f.output) (landFrame f s)))
  match f.kind with
  | .result c _ _ =>
    journalWafer (.fabric 4 0 0 f.output 0xFF f.site (tallyNat s) 1 0 0 c 0) (count (cSlate f.site 7) s)
  | _ => s

/-- The queued frames and copies that a condition selects. -/
def queuedWhere (which : QFrame → Bool) (s : State) : List QFrame :=
  s.switch.queue.filter which ++ s.switch.dormerQueue.filter which

/-- Flushes the queued frames and copies that a condition selects and the frames cut off in transmission
(R484-R490), with a FABRIC FLUSH record. `mode` is 0 DRAIN, 1 ABORT, 2 implicit. -/
def flush (which : QFrame → Bool) (cut : List QFrame) (mode cause p : Nat) (s : State) : State :=
  let fs := queuedWhere which s
  let (n, sv) := flushCounts (cut ++ fs) s
  let s := severAll cause (cut ++ fs) (fs.foldl (fun t f => flushOne cause f t) (cut.foldl (fun t f => cutOne f t) s))
  if n = 0 then s
  else journalWafer (.fabric 0 mode cause p 0xFF ((servingSite p s).getD 0xFF) (tallyNat s) n sv 0 0 0) s

/-- Queues a frame that the tray built; on an output that is neither UP nor DRAINING it goes to the gutter
at once with the port's cause (R463, R490). -/
def sendTray (f : QFrame) (s : State) : State :=
  let q := port f.output s
  if q.state = .up ∨ q.state = .draining then enqueue f s
  else flushOne q.cause.toNat f (enqueue f s)

/-- The frames queued towards a port. -/
def towards (p : Nat) (f : QFrame) : Bool := f.output = p

/-! ### Dormer copies and skylight samples (R503-R513) -/

/-- The 64 header bytes of a frame (Table 7.4), with the hcrc. -/
def headerBytes60 (h : FrameHeader) : List Byte :=
  [h.sof, h.cls, h.type, h.flags] ++ le 2 h.length.toNat ++ le 2 h.dstPort.toNat ++ le 2 h.srcEndpoint.toNat ++
    le 2 h.dstEndpoint.toNat ++ le 4 h.reserved12.toNat ++ le 8 h.tag.toNat ++ le 8 h.address.toNat ++
    le 8 h.aux.toNat ++ le 20 h.reserved40.toNat

def headerBytes (h : FrameHeader) : List Byte := headerBytes60 h ++ le 4 (crc32c (headerBytes60 h)).toNat

/-- Whether a session takes a copy of a frame of a port in a direction (R503, R504, R508, R528). -/
def dormerMatches (n p : Nat) (egress : Bool) (tag : Nat) (s : State) : Bool :=
  let dir := param (pDormer n 2) s
  let src := param (pDormer n 1) s
  let mask := param (pDormer n 4) s
  param (pDormer n 0) s = 1 && (dir = 2 || dir = bit egress) && (src = 0xFFFF || src = p) &&
    (tag &&& mask) = (param (pDormer n 3) s &&& mask)

/-- Takes one session's copy on a slate (Table 8.5, R505, R506, R509). -/
def dormerCopy (n p at_ : Nat) (egress : Bool) (h : FrameHeader) (payload : List Byte) (s : State) : State :=
  let orig := headerBytes h ++ payload
  let body := orig.take 4096
  let out := param (pDormer n 5) s
  let k := creditsOf body.length
  let held := ((s.switch.dormerQueue.filter fun f => f.kind = .dormer n).map QFrame.shingles).sum
  let hdr := { trayHeader (param (pDormer n 6) s) 0x01 0 body.length 0xFFFF (n + 8 * bit egress) (tallyNat s)
    (p + 65536 * bit (decide (4096 < orig.length))) with dstPort := BitVec.ofNat 16 out }
  if (port out s).state = .up && held + k ≤ param (pDormer n 7) s &&
      2 * param pFloor s + k ≤ poolFree at_ s then
    let f := { originFrame at_ out (param (pDormer n 6) s) (.dormer n) hdr body with shingles := k }
    takeShingles at_ k { s with
      switch.dormerQueue := s.switch.dormerQueue ++ [f]
      switch.dormers := s.switch.dormers.modify n fun d => { d with copies := d.copies + 1 } }
  else { s with switch.dormers := s.switch.dormers.modify n fun d => { d with dropped := d.dropped + 1 } }

/-- Every matching session takes its copy, on a slate that runs (R190). -/
def dormers (p : Nat) (egress : Bool) (h : FrameHeader) (payload : List Byte) (s : State) : State :=
  let at_ := (servingSite p s).getD 0
  if !forwards at_ s then s
  else forEach (List.range 8) (fun n t =>
    if dormerMatches n p egress h.tag.toNat t then dormerCopy n p at_ egress h payload t else t) s

/-- An engine that serves: its slate runs (R190), and it is neither switched off nor failed (R579). -/
def engineOn (n e : Nat) (s : State) : Bool :=
  forwards n s && match (site n s).engines[e]? with
  | some x => !x.disabled && !x.faulted
  | none => false

/-- A skylight sample is taken (R512, R513). -/
def skylightSample (p at_ : Nat) (h : FrameHeader) (payload : List Byte) (s : State) : State :=
  let head := padTo 128 (headerBytes h ++ payload)
  let x : Sample := { tally := tallyNat s, port := p, length := h.length.toNat, head }
  let wraps := decide (4096 ≤ (site at_ s).ring.length)
  let s := setSite at_ (fun t => { t with ring := (if wraps then t.ring.drop 1 else t.ring) ++ [x] })
    (count (cSlate at_ 0x0A) s)
  let s := if wraps then count (cSlate at_ 0x0B) s else s
  let out := param pSkylightPort s
  if out < 160 && (port out s).state = .up then
    enqueue (originFrame at_ out (param pSkylightClass s) .skylight
      { trayHeader (param pSkylightClass s) 0x01 0 128 0xFFFF 0x10 (tallyNat s) p with
        dstPort := BitVec.ofNat 16 out } head) s
  else s

/-- The counter k of an input advances, and the frame at which it reaches skylight.n - 1 is sampled
(R500a); a slate whose sampler is not enabled builds no sample (Table 9.4). -/
def skylight (p : Nat) (h : FrameHeader) (payload : List Byte) (s : State) : State :=
  let n := param pSkylightN s
  if n = 0 then s
  else
    let at_ := (servingSite p s).getD 0
    if (port p s).skylightK + 1 ≥ n then
      let s := setPort p (fun q => { q with skylightK := 0 }) s
      if engineOn at_ 5 s then skylightSample p at_ h payload s else s
    else setPort p (fun q => { q with skylightK := q.skylightK + 1 }) s

/-! ### Checks of an arriving frame (R404-R407, R417, Table 7.8a) -/

/-- What the checks of a frame find. -/
inductive FrameCheck where
  | good
  | notUp
  | header
  | framing
  | type
  | credit
  | stomp
  | crc
  deriving DecidableEq, Repr

/-- Framing of R406 that the header shows: reserved bits and length limits. -/
def headerFraming (h : FrameHeader) : Bool :=
  h.sof = 0x33 && h.cls &&& 0xF8 = 0 && h.flags &&& 0xFC = 0 && h.reserved12 = 0 && h.reserved40 = 0 &&
    h.length.toNat ≤ (if h.cls = 7 then 512 else 4096)

/-- Framing of R406 that the frame's end shows: block count and last_valid. -/
def endFraming (f : RxFrame) : Bool :=
  let l := f.header.length.toNat
  f.blocks = (l + 31) / 32 && f.payload.length = l && f.lastValid = (if l = 0 then 0 else (l - 1) % 32 + 1)

/-- The types that a sender may send, with their classes and dst_port (Table 7.5): an endpoint on ports 0-127, a
switch tray on the uplinks; on an ST36-S the Loft and reduction types are not permitted (R407). -/
def typePermitted (p : Nat) (h : FrameHeader) (s : State) : Bool :=
  let c := h.cls.toNat
  let inTray := h.dstPort = 0xFFFF
  let endpoint := decide (p < 128)
  match h.type.toNat with
  | 0x01 => portFitted h.dstPort.toNat s
  | 0x02 | 0x04 => endpoint && hasLoft s && c < 4 && inTray
  | 0x03 | 0x05 => !endpoint && hasLoft s && c < 4 && inTray
  | 0x06 => endpoint && hasReeds s && c < 4 && inTray
  | 0x07 => !endpoint && hasReeds s && c < 4 && inTray
  | 0x08 => c = 7 && inTray
  | 0x09 => !endpoint && c = 7 && inTray
  | _ => false

/-- The first check that a frame's header fails. An express frame needs the state UP (R461). -/
def headerCheck (p : Nat) (f : RxFrame) (s : State) : FrameCheck :=
  let q := port p s
  let c := f.header.cls.toNat % 8
  if q.state ≠ .up ∧ (c = 7 ∨ q.state ≠ .draining) then .notUp
  else if f.hcrc ≠ crc32c (headerBytes60 f.header) then .header
  else if !headerFraming f.header then .framing
  else if !typePermitted p f.header s then .type
  else if credited c && (q.grantOut.get c + 65536 - q.usedIn.get c) % 65536 < creditsOf f.header.length.toNat then
    .credit
  else .good

/-- The first check that a frame's end fails. -/
def endCheck (f : RxFrame) : FrameCheck :=
  if !endFraming f then .framing
  else if f.eof = .stomp then .stomp
  else if f.crc ≠ crc32c (headerBytes f.header ++ f.payload) then .crc
  else .good

/-- The first check that a whole frame fails. -/
def frameCheck (p : Nat) (f : RxFrame) (s : State) : FrameCheck :=
  match headerCheck p f s with
  | .good => endCheck f
  | bad => bad

/-- The sender has used the credits of a frame (R413). -/
def useCredits (p cls k : Nat) (s : State) : State :=
  if credited cls then setPort p (fun q => { q with usedIn := q.usedIn.add cls k }) s else s

/-- Discards a frame whose header failed a check: its counter, and its credits returned (R414). -/
def discardFrame (p code cls k : Nat) (s : State) : State :=
  returnCredits p cls k (useCredits p cls k (count (cPort p code) s))

/-- What every frame that passes R404 does: frame and byte counts, the skylight counter, ingress
copies (R500a, R503). A copy or export is never itself copied or sampled (R508), and neither are the
frames of its own analysis input (R528). -/
def admitFrame (p : Nat) (f : RxFrame) (s : State) : State :=
  let s := countBy (cPort p 3) (64 + f.header.length.toNat) (count (cPort p 1) s)
  dormers p false f.header f.payload (skylight p f.header f.payload s)

/-- A frame that began to leave cut-through ends with EOF_STOMP at its output (R425). -/
def stompCut (p out : Nat) (s : State) : State :=
  let q := port out s
  let mine (t : TxFrame) : Bool := t.frame.input = p && t.frame.kind = .data
  let stomp (f : QFrame) (s : State) : State := landFrame f (count (cPort out 0x0A) (emit (.stomp out) s))
  match q.sending.filter mine, q.suspended.filter mine with
  | some t, _ => stomp t.frame (setPort out (fun q => { q with sending := none }) s)
  | none, some t => stomp t.frame (setPort out (fun q => { q with suspended := none }) s)
  | none, none => s

/-- A frame in reception is discarded: it has been received as far as its copies go, ends downstream where it was
leaving cut-through, and returns its credits (R414, R425, R524). -/
def dropOpen (p : Nat) (o : OpenFrame) (s : State) : State :=
  let s := match o.frame with
    | some f => admitFrame p f s
    | none => s
  match o.cutTo with
  | some out => stompCut p out s
  | none => returnCredits p o.cls o.credits s

/-- Discards the open frame: the blocks still to come of a preemptable one are absorbed (R424). -/
def discardOpen (p : Nat) (s : State) : State :=
  match (port p s).openRx with
  | some o => dropOpen p o (setPort p (fun q => { q with
      openRx := none, discarding := q.discarding || decide (o.cls < 7) }) s)
  | none => s

/-- Discards the parked frame. -/
def discardParked (p : Nat) (s : State) : State :=
  match (port p s).parked with
  | some o => dropOpen p o (setPort p (fun q => { q with parked := none, discarding := true }) s)
  | none => s

/-- Whatever a port has open or parked is discarded, and nothing more comes of it. -/
def dropReception (p : Nat) (s : State) : State :=
  setPort p (fun q => { q with discarding := false }) (discardParked p (discardOpen p s))

end Sys2Proof.Machine
end

