-- ==== Sys2Proof/Machine/Replies.lean ====
section
/-! DEFINITION. Replies, kept replies, asynchronous operations and sequence windows as data
(05_batten_protocol): what a command's meaning answers, and how an operation in progress completes. -/

namespace Sys2Proof.Machine

/-- What the meaning of a command answers: its final status, reason, argument and payload; or admission
with the payload of the ACCEPTED reply, the completion following from an event (R283). -/
inductive Ans where
  | done (status reason arg : Nat) (payload : List Byte)
  | accept (payload : List Byte)
  deriving DecidableEq, Repr

/-- Whether a command was executed: answered OK or ACCEPTED. -/
def Ans.executed : Ans → Bool
  | .done st _ _ _ => st = stOk || st = stAccepted
  | .accept _ => true

/-- OK with a payload. -/
def ok (payload : List Byte) : Ans := .done stOk 0 0 payload

/-- A refusal: no payload. -/
def refuse (status reason arg : Nat) : Ans := .done status reason arg []

/-- PRECOND with detail PHASE and the phase code (R296, R314). -/
def refusePhase (s : State) : Ans := refuse stPrecond rPhase s.power.phase.code

/-! ### Windows -/

/-- The key of the window that a quarantined Eave keeps for an originator: it judges alone the copies that reach it,
and refuses most of them (R223, R287). Every other receiver's window of an originator is the one of the originator's own
number (DEDUCED, entry 15). -/
def quarantineKey (o : Nat) (e : Eave) : Nat := o + 2 ^ 32 * (1 + Eave.code e)

/-- Whether an originator is in-band (Table 5.4). -/
def isInBand (o : Nat) : Bool := 0x100 ≤ o && o < 0x180

/-- The window of an originator; an in-band window that has seen no packet is unanchored (R1073). -/
def windowOf (o : Nat) (s : State) : Window :=
  (lookup s.batten.windows o).getD { anchored := !isInBand o }

def setWindow (o : Nat) (w : Window) (s : State) : State :=
  { s with batten.windows := put o w s.batten.windows }

/-- Forgets what has left the window of 256 entries below H (R255, R261). -/
def Window.prune (w : Window) : Window :=
  { w with marks := w.marks.filter fun m => w.highWater < m.1 + 256
           kept := w.kept.filter fun k => w.highWater < k.1 + 256 }

/-- Keeps the reply or the latest completion notice of a sequence (R261). -/
def keep (o seq : Nat) (r : Reply) (final : Bool) (s : State) : State :=
  match lookup s.batten.windows o with
  | none => s
  | some w =>
    setWindow o { w with
      kept := if w.highWater < seq + 256 then put seq r w.kept else w.kept
      running := if final then w.running.filter (· != seq) else seq :: w.running } s

/-- Marks a sequence as executed: H moves past it when it is the next one, and passes over it later when it is not. -/
def markExecuted (o q : Nat) (d : Digest) (path : Path) (s : State) : State :=
  let w := windowOf o s
  setWindow o (Window.prune { w with
    marks := put q (.executed d path) w.marks
    highWater := if q = w.highWater + 1 then q else w.highWater }) s

/-! ### Commands that the tray itself sends (R254, R255) -/

/-- Header and body of a packet (Table 5.1). -/
def packetBytes (opcode : Nat) (p : Packet) : List Byte :=
  [0xA0, 0xE2, 0x77, 0xB4, p.version, 8] ++ le 2 p.flags.toNat ++ le 4 p.originator.toNat ++ le 4 p.body.length ++
    le 8 p.sequence.toNat ++ le 2 opcode ++ [p.unit, p.reserved27] ++ le 2 p.inst.toNat ++ le 2 p.reserved30.toNat ++ p.body

/-- The sequence that an originator of the tray numbers next: one higher than all before (R255). -/
def nextSequence (o : Nat) (s : State) : Nat :=
  let w := windowOf o s
  (w.marks.map Prod.fst).foldl max w.highWater + 1

/-- A command of the tray's own takes its sequence; its effect is the caller's. -/
def originate (path : Path) (o opcode unit inst : Nat) (body : List Byte) (s : State) : State :=
  let q := nextSequence o s
  let p : Packet :=
    { path, version := 0x10, flags := 0, originator := BitVec.ofNat 32 o, sequence := BitVec.ofNat 64 q
      unit := BitVec.ofNat 8 unit, reserved27 := 0, inst := BitVec.ofNat 16 inst, reserved30 := 0, body }
  markExecuted o q (sha256 (packetBytes opcode p)) path s

/-- A command that Finial sends to the Coping unit (originator 2). -/
def finialSends (opcode unit inst : Nat) (body : List Byte) (s : State) : State :=
  originate .finial 2 opcode unit inst body s

/-- A command of the ridge stream to the Coping unit (originator 1): both Eaves number it alike, and the Coping unit
discards the second copy (R254, R825). -/
def ridgeSends (opcode unit inst : Nat) (body : List Byte) (s : State) : State :=
  let both := eaveAdmitted .a s && eaveAdmitted .b s
  let s := originate (.ridge (if eaveAdmitted .a s then .a else .b)) 1 opcode unit inst body s
  if both then count (cBatten 4 5) s else s

/-- A latch group's value. -/
def latchValue (g : Nat) (l : Latches) : Nat :=
  match g with
  | 0 => l.eaveRstN.toNat
  | 1 => l.cartRailEn.toNat
  | 2 => l.rimRailEn.toNat
  | 3 => l.slateRailEn.toNat
  | 4 => l.slateRstN.toNat
  | 5 => l.waferRstN.toNat
  | _ => l.bootSrc.toNat

/-- The payload of LATCH_WRITE (Table 6.12). -/
def latchBody (g mask value : Nat) : List Byte := le 1 g ++ zs 7 ++ le 8 mask ++ le 8 value

/-- An action writes Coping latches through commands that `send` numbers: one LATCH_WRITE for each group that it
changes, in the order of Table 6.4 (DESIGN CHOICE, entry 104). -/
def byLatchWrites (send : List Byte → State → State) (act : State → State) (s : State) : State :=
  (List.range 7).foldl (fun t g =>
    let old := latchValue g s.power.latches
    let new := latchValue g (act s).power.latches
    if old = new then t else send (latchBody g (old ^^^ new) new) t) (act s)

/-- Latch writes by Finial (R248, Table 14.6). -/
def byFinial (act : State → State) (s : State) : State := byLatchWrites (finialSends 0x7E 0x0A 0xFFFF) act s

/-- Latch writes by both Eaves on the ridge stream (R831). -/
def byEaves (act : State → State) (s : State) : State := byLatchWrites (ridgeSends 0x7E 0x0A 0xFFFF) act s

/-! ### Sending -/

/-- The paths on which a reply to an originator leaves: every connection of its session (R280), or the path on which
the command came. Without an open connection the reply is only kept (R285). -/
def replyPaths (path : Path) (originator : U32) (s : State) : List Path :=
  match path with
  | .management _ =>
    (s.batten.connections.filter fun k => k.session = some originator && originator != 0).map fun k => .management k.id
  | other => [other]

/-- The connections on which a connection's replies leave: all of its session (R280), or itself while it belongs to
none. -/
def sessionPaths (conn : Nat) (s : State) : List Path :=
  match (s.batten.connections.find? fun k => k.id = conn).bind Connection.session with
  | some o => replyPaths (.management conn) o s
  | none => [.management conn]

/-- The packet of a reply (Tables 5.1-5.3, R243-R245): is_reply, and completion in a notice. -/
def replyBytes (r : Reply) : List Byte :=
  let body := le 1 r.status.toNat ++ zs 3 ++ le 4 (r.reason.toNat * 65536 + r.arg.toNat) ++ r.payload
  let head := [0xA0, 0xE2, 0x77, 0xB4, 0x10, 8] ++ le 2 (1 + 4 * bit r.completion) ++ le 4 r.originator.toNat ++
    le 4 body.length ++ le 8 r.sequence.toNat ++ le 2 r.opcode.toNat ++ le 1 r.unit.toNat ++ zs 1 ++
    le 2 r.inst.toNat ++ zs 2
  head ++ body ++ le 4 (crc32c (head ++ body)).toNat

/-- Sends a reply or a completion notice (R251, R280): in-band as an express BATTEN frame to the endpoint
of the command on its port (R403, R408), else on its connections. -/
def sendReply (path : Path) (r : Reply) (s : State) : State :=
  match path with
  | .inBand p e =>
    let bytes := replyBytes r
    sendTray (originFrame ((servingSite p s).getD 0) p 7 .batten (trayHeader 7 0x08 0 bytes.length e.toNat 0 0 0) bytes) s
  | _ => (replyPaths path r.originator s).foldl (fun t q => emit (.reply q r) t) s

/-- The reply to a packet (R243, R244). -/
def replyTo (p : Packet) (opcode : Nat) (status reason arg : Nat) (payload : List Byte) : Reply :=
  { originator := p.originator, sequence := p.sequence, opcode := BitVec.ofNat 16 opcode, unit := p.unit
    inst := p.inst, completion := false, status := BitVec.ofNat 8 status, reason := BitVec.ofNat 16 reason
    arg := BitVec.ofNat 16 arg, payload := payload }

/-- Answers a packet whose sequence the window of key `o` has recorded: the reply is kept there and sent. -/
def answerIn (o : Nat) (p : Packet) (opcode : Nat) (a : Ans) (s : State) : State :=
  match a with
  | .done status reason arg payload =>
    let r := replyTo p opcode status reason arg payload
    sendReply p.path r (keep o p.sequence.toNat r true s)
  | .accept payload =>
    let r := replyTo p opcode stAccepted 0 0 payload
    if p.flags.getLsbD 1 then
      sendReply p.path r (keep o p.sequence.toNat r false s)
    else
      match lookup s.batten.windows o with
      | none => s
      | some w => setWindow o { w with running := p.sequence.toNat :: w.running } s

/-- Answers a packet whose sequence its originator's window has recorded. -/
def answer (p : Packet) (opcode : Nat) (a : Ans) (s : State) : State := answerIn p.originator.toNat p opcode a s

/-- Answers a packet that records nothing (R288). -/
def answerUnrecorded (p : Packet) (opcode status reason arg : Nat) (s : State) : State :=
  sendReply p.path (replyTo p opcode status reason arg []) s

/-! ### Operations in progress (R282-R285) -/

/-- The operation that a packet starts. -/
def opOf (kind : OpKind) (p : Packet) (opcode : Nat) : Op :=
  { kind, originator := p.originator, sequence := p.sequence, opcode := BitVec.ofNat 16 opcode, unit := p.unit
    inst := p.inst, accepted := p.flags.getLsbD 1, path := p.path }

/-- Starts an operation. -/
def startOp (kind : OpKind) (p : Packet) (opcode : Nat) (s : State) : State :=
  { s with batten.ops := s.batten.ops ++ [opOf kind p opcode] }

/-- The notice that ends an operation: a completion notice after ACCEPTED, else the one reply (R283,
R284). -/
def noticeOf (op : Op) (status reason arg : Nat) (payload : List Byte) : Reply :=
  { originator := op.originator, sequence := op.sequence, opcode := op.opcode, unit := op.unit
    inst := op.inst, completion := op.accepted, status := BitVec.ofNat 8 status
    reason := BitVec.ofNat 16 reason, arg := BitVec.ofNat 16 arg, payload := payload }

/-- Ends one operation: its notice is kept if its session lives (R285) and sent. -/
def finishOp (op : Op) (status reason arg : Nat) (payload : List Byte) (s : State) : State :=
  let r := noticeOf op status reason arg payload
  sendReply op.path r (keep op.originator.toNat op.sequence.toNat r true
    { s with batten.ops := s.batten.ops.filter (· != op) })

/-- Ends every operation of a kind alike. -/
def finishAll (kind : OpKind → Bool) (status reason arg : Nat) (payload : List Byte) (s : State) : State :=
  (s.batten.ops.filter fun o => kind o.kind).foldl (fun t o => finishOp o status reason arg payload t) s

/-- Ends the first operation of a kind with one payload and the others with another (R520, R574). -/
def finishFirst (kind : OpKind → Bool) (status reason arg : Nat) (payload others : List Byte) (s : State) :
    State :=
  match s.batten.ops.filter fun o => kind o.kind with
  | [] => s
  | o :: rest =>
    rest.foldl (fun t q => finishOp q status reason arg others t) (finishOp o status reason arg payload s)

/-- Whether an operation of a kind is running. -/
def hasOp (kind : OpKind → Bool) (s : State) : Bool := s.batten.ops.any fun o => kind o.kind

/-- The operations of a kind. -/
def opsOf (kind : OpKind → Bool) (s : State) : List Op := s.batten.ops.filter fun o => kind o.kind

/-! ### Sessions -/

/-- Discards a session: its window and staged set end, its connections belong to none; its scheduled
set still applies (R308). -/
def endSession (o : U32) (s : State) : State :=
  { s with batten := { s.batten with
      sessions := s.batten.sessions.filter fun x => x.originator != o
      windows := s.batten.windows.filter fun w => w.1 % 2 ^ 32 != o.toNat
      staged := erase o.toNat s.batten.staged
      connections := s.batten.connections.map fun c =>
        if c.session = some o then { c with session := none } else c } }

/-- The role-map entries that match a certificate by its own fingerprint or by an issuer's (R272). -/
def matching (fp : Digest) (issuers : List Digest) (s : State) : List RoleEntry :=
  s.batten.roleMap.filter fun e => if e.issuer then issuers.contains e.fingerprint else e.fingerprint = fp

/-- Whether a role permits another (R268). -/
def Role.permits (have_ want : Role) : Bool :=
  have_ = want || want = .observer || (have_ = .admin && want = .operator)

/-- The role map's digest (R269): 36-byte entries in order, with no count. -/
def roleMapBytes (es : List RoleEntry) : List Byte :=
  es.flatMap fun e => le 1 (bit e.issuer) ++ le 1 e.role.code ++ zs 2 ++ digestBytes e.fingerprint

/-- The cable plan's 1,280 bytes and digest (R112); zero digest when none is loaded. -/
def planBytes (s : State) : List Byte := s.plan.flatMap fun e => le 8 e.toNat
def planDigest (s : State) : Digest := if s.planLoaded then sha256 (planBytes s) else 0

/-- Every event numbered below `n` is heard (14, before R831). -/
def hearBefore (n : Nat) (s : State) : State :=
  { s with referee.events := s.referee.events.map fun e => { e with heard := e.heard || decide (e.number < n) } }

/-- Posts an event with the next number (R1046). -/
def postEvent (kind channel : Nat) (s : State) : State :=
  { s with referee := { s.referee with
      events := s.referee.events ++
        [{ number := s.referee.nextEvent, kind := kind, channel := channel, heard := false }]
      nextEvent := s.referee.nextEvent + 1 } }

end Sys2Proof.Machine
end

