-- ==== Sys2Proof/Machine/Reduce.lean ====
section
/-! DEFINITION. The reduction's shared operations (01, 09): yealm assignment, contribution intake, tiles,
results and release, abort, and the settling of LAST frames. -/

namespace Sys2Proof.Machine

/-! ### A collective's geometry -/

/-- T of 09, "Admission": tiles of 1,024 elements. -/
def tileCount (c : Collective) : Nat := (c.elements + 1023) / 1024

/-- The elements of tile t; the last may be partial. -/
def tileSize (c : Collective) (t : Nat) : Nat := min 1024 (c.elements - 1024 * t)

/-- The slate that accumulates tile t: that of y_(t mod Y) (R547). -/
def tileSite (c : Collective) (t : Nat) : Nat :=
  match c.yealms[t % max 1 c.yealms.length]? with
  | some y => y.1
  | none => c.home

def tileDone (c : Collective) (t : Nat) : Bool := c.tiles.any fun x => x.1 = t

/-- b of R558: the lowest tile that is not yet complete. -/
def lowestOpen (c : Collective) : Nat := ((List.range (tileCount c)).find? fun t => !tileDone c t).getD (tileCount c)

/-- The rank of a (port, endpoint) pair (R551). -/
def rankOf (c : Collective) (p ep : Nat) : Option Nat := c.group.members.findIdx? fun m => m.1 = p && m.2 = ep

/-- The collective in flight with an ID. -/
def findCollective (id : Nat) (s : State) : Option Collective := s.reduction.collectives.find? fun c => c.id = id

/-- Replaces a collective in flight. -/
def storeCollective (c : Collective) (s : State) : State :=
  { s with reduction.collectives := s.reduction.collectives.map fun d => if d.id = c.id then c else d }

/-- Whether a collective runs CANONICAL: marked, or PRODUCT (R46). -/
def runsCanonical (op : ReduceOp) (marked : Bool) : Bool := marked || op = .product

/-! ### Yealm assignment (R541-R547) -/

/-- Tile slots in use on a yealm (R529, R547), those of a replay's internal collective among them (R731). -/
def slotsUsed (n y : Nat) (s : State) : Nat :=
  (s.reduction.collectives.map fun c => if c.yealms.contains (n, y) then c.depth else 0).sum +
    (s.journal.replays.map fun r => if r.state = 0 && r.yealms.contains (n, y) then r.depth else 0).sum

/-- Whether a site's yealms may be taken for an operation: reeds on, engines of Table 9.4 on (R544). -/
def siteEligible (n : Nat) (op : ReduceOp) (canon : Bool) (s : State) : Bool :=
  let t := site n s
  let serves := match t.state with
    | .serving => true
    | .lending => param pLend s = 1 && !rolling s
    | _ => false
  serves && !t.reedsDisabled && !t.reedsGrace && engineOn n 0 s &&
    (!(canon || op = .min || op = .max || op = .product) || engineOn n 1 s) &&
    (!runsCanonical op canon || engineOn n 4 s)

/-- Whether a yealm may be taken: not isolated, not under a patrol slice, and with free tile slots. -/
def yealmEligible (n y depth : Nat) (s : State) : Bool :=
  !(site n s).failedSlices.contains y && !s.reduction.underNotice.contains (n, y) && slotsUsed n y s + depth ≤ 4

/-- The slate serving a port, or its default slate while none serves it (R545). -/
def originSite (p : Nat) (s : State) : Nat := (servingSite p s).getD (defaultActive.getD (p / 5) 0)

/-- The eligible yealms in the order of R545; lending sites come last (R567a). -/
def eligibleYealms (p0 depth : Nat) (op : ReduceOp) (canon : Bool) (s : State) : List (Nat × Nat) :=
  let at_ := originSite p0 s
  let ok := (List.range 36).filter fun n => siteEligible n op canon s
  let sites := nearestFirst at_ (ok.filter fun n => (site n s).state ≠ .lending) s ++
    nearestFirst at_ (ok.filter fun n => (site n s).state = .lending) s
  sites.flatMap fun n =>
    ((List.range 512).filter fun y => yealmEligible n y depth s).map fun y => (n, y)

/-- y_0 is the first eligible yealm on a slate whose digest engine is enabled; the others keep their order (R546). -/
def homeFirst (ys : List (Nat × Nat)) (s : State) : List (Nat × Nat) :=
  match ys.find? fun y => engineOn y.1 2 s with
  | none => []
  | some h => h :: ys.filter (· != h)

/-- The yealm list of a new collective (R542, R543, R545, R546). -/
def assignYealms (g : Group) (elements : Nat) (op : ReduceOp) (canon : Bool) (fi : Format) (s : State) :
    List (Nat × Nat) :=
  let want := min (min (g.members.length * yealmsPerPort fi) ((elements + 1023) / 1024)) (param pMaxYealms s)
  (homeFirst (eligibleYealms ((g.members.head?.map Prod.fst).getD 0) (param pDepth s) op canon s) s).take want

/-! ### Records and completion -/

/-- Whether a decision's regions have been forced out or poisoned (R626, R633). -/
def decisionPoison (d : Nat) (s : State) : Bool :=
  s.reduction.decisions.any fun x => x.id = d && (x.forced || x.poisoned)

/-- The COLLECTIVE record's body (Table 12.3). -/
def collectiveBody (c : Collective) (s : State) : RecordBody :=
  .collective
    { collective := c.id, decision := c.decision
      decisionRecord := ((s.reduction.decisions.find? fun d => d.id = c.decision).map Decision.record).getD 0
      groupRecord := c.group.record, group := c.group.id, elements := c.elements
      members := c.group.members.length, contributed := c.classes.length, op := c.op.code
      input := c.input.code, output := c.output.code
      cflags := bit c.canonical + 2 * bit c.group.powerHeavy, flags := c.flags.toNat, abortCause := c.cause
      admission := c.admission, release := c.release, delay := c.delay, digest := c.digest }

/-- Journals a collective's release or abort, built by its home slate (R58). -/
def journalCollective (c : Collective) (s : State) : State :=
  journalWith (collectiveBody c s) c.home (32 * bit (c.poison || decisionPoison c.decision s)) s

/-- The completion payload of COLLECTIVE_OPEN (Table 6.9). -/
def collectivePayload (c : Collective) : List Byte :=
  le 1 c.flags.toNat ++ zs 7 ++ le 8 c.release ++ le 8 c.delay ++ digestBytes c.digest

/-- Moves a collective from flight to the last 65,536 completed (R348). -/
def retire (c : Collective) (s : State) : State :=
  { s with reduction := { s.reduction with
      collectives := s.reduction.collectives.filter fun d => d.id != c.id
      done := (c :: s.reduction.done.filter fun d => d.id != c.id).take 65536
      rampQueue := s.reduction.rampQueue.filter (· != c.id) } }

/-- The operation of a COLLECTIVE_OPEN. -/
def isCollectiveOp (id : Nat) : OpKind → Bool
  | .collective c => c = id
  | _ => false

/-- A GRACE of REED_DISABLE that has no collective left on its site completes (R571, R574). -/
def graceDone (n : Nat) (s : State) : Bool :=
  !s.reduction.collectives.any fun c => c.yealms.any fun y => y.1 = n

/-- The REED_DISABLE operations of a site. -/
def isReedOp (n : Nat) : OpKind → Bool
  | .reedDisable m _ => m = n
  | _ => false

/-- The number of collectives that an operation of REED_DISABLE reports (R571, R572, R574). -/
def reedAborted : OpKind → Nat
  | .reedDisable _ k => k
  | _ => 0

/-- Completes the REED_DISABLEs whose site holds no collective any more (R573). -/
def settleReeds (s : State) : State :=
  forEach (List.range 36) (fun n t =>
    if hasOp (isReedOp n) t && graceDone n t then
      (opsOf (isReedOp n) t).foldl (fun u o => finishOp o stOk 0 0 (le 4 (reedAborted o.kind) ++ zs 4) u)
        (setSite n (fun x => { x with reedsDisabled := true, reedsGrace := false }) t)
    else t) s

/-- A lending site whose last collective has ended while reed.lend is 0 returns to IDLE (R577). -/
def settleLending (s : State) : State :=
  if param pLend s = 1 then s
  else forEach (List.range 36) (fun n t =>
    if (site n t).state = .lending && graceDone n t then setSite n (fun x => { x with state := .idle }) t
    else t) s

/-- One operation of an engine and the bytes it worked on (R586). -/
def engineWork (n e bytes : Nat) (s : State) : State :=
  countBy (cEngine (8 * n + e) 2) bytes (count (cEngine (8 * n + e) 1) s)

/-- A collective ends as ABORTED (R558a, R568): no further RESULT frame, a zero payload, its record. R568 zeroes the
flags of the completion payload; that the record's flags byte is 0 too is the model's choice (DESIGN CHOICE, entry
92). -/
def abortCollective (id cause reason arg : Nat) (s : State) : State :=
  match findCollective id s with
  | none => s
  | some c =>
    let c := { c with state := .aborted, cause, flags := 0, release := tallyNat s, delay := 0, digest := 0
                      registers := [], tiles := [], lastWaiting := [] }
    let mine := s.switch.queue.filter fun f => match f.kind with
      | .result d _ _ => d = id
      | .retire d _ => d = id
      | _ => false
    let s := retire c (mine.foldl (fun t f => unqueue f t) s)
    let s := journalCollective c (count (cReed c.home 6) s)
    let s := finishAll (isCollectiveOp id) stAborted reason arg (collectivePayload c) s
    settleLending (settleReeds (errorClass 6 (matchTrigger id 2 s)))

/-- Aborts every collective in flight that a condition selects, in admission order. -/
def abortWhere (which : Collective → Bool) (cause reason arg : Nat) (s : State) : State :=
  forEach ((s.reduction.collectives.filter which).map Collective.id) (fun id t => abortCollective id cause reason arg t) s

/-- Whether a collective holds yealms on a site, or has its home slate there (R67). -/
def onSite (n : Nat) (c : Collective) : Bool := c.home = n || c.yealms.any fun y => y.1 = n

/-! ### Results (R562-R567) -/

/-- The RESULT frame of a tile to a member (Table 9.2); empty data is a retire notice (R563). -/
def resultFrame (c : Collective) (t rank : Nat) (data : List Byte) (last retiring : Bool) : QFrame :=
  let m := c.group.members.getD rank (0, 0)
  let cls := (lookup c.classes rank).getD 0
  let flags := bit (c.poisonTiles.contains t) + 2 * bit last
  originFrame (tileSite c t) m.1 cls (if retiring then .retire c.id t else .result c.id t last)
    (trayHeader cls 0x07 flags data.length m.2 c.id (1024 * t) 0) data

/-- The bytes of a tile's result elements, little-endian in the output format. -/
def tileBytes (c : Collective) (t : Nat) : List Byte :=
  ((lookup c.tiles t).getD []).flatMap fun x => le c.output.bytes x

/-- Sends a tile's result to every member (R562). -/
def sendTile (c : Collective) (t : Nat) (s : State) : State :=
  forEach (List.range c.group.members.length) (fun r u => sendTray (resultFrame c t r (tileBytes c t) false false) u)
    (engineWork (tileSite c t) 0 (tileBytes c t).length s)

/-- Sends every member a retire notice for a tile (R563). -/
def sendRetire (c : Collective) (t : Nat) (s : State) : State :=
  forEach (List.range c.group.members.length) (fun r u => sendTray (resultFrame c t r [] false true) u) s

/-- Whether a RESULT data frame of a collective to a member has not left its output (R566). -/
def outstanding (c : Collective) (rank : Nat) (s : State) : Bool :=
  let m := c.group.members.getD rank (0, 0)
  let mine (f : QFrame) : Bool := f.output = m.1 && f.header.dstEndpoint.toNat = m.2 && (match f.kind with
    | .result d _ _ => d = c.id
    | _ => false)
  let q := port m.1 s
  s.switch.queue.any mine || q.suspended.any (fun t => mine t.frame) ||
    q.sending.any fun t => mine t.frame && stillSending t q.width s.now

/-- The release of a collective: its digest over ascending tiles (R55, R567), its completion notice, its
record, its tile slots freed. -/
def finishRelease (c : Collective) (s : State) : State :=
  let bytes := (List.range (tileCount c)).flatMap fun t => tileBytes c t
  let c := { c with state := .released, release := tallyNat s, digest := sha256 bytes, registers := [], tiles := []
                    lastWaiting := [] }
  let s := engineWork c.home 2 bytes.length (retire c s)
  let s := journalCollective c (count (cReed c.home 5) s)
  settleLending (settleReeds (finishAll (isCollectiveOp c.id) stOk 0 0 (collectivePayload c) s))

/-- Queues the LAST frames of one collective that nothing holds back, and releases it when all are
queued (R566). -/
def settleCollective (id : Nat) (s : State) : State :=
  match findCollective id s with
  | none => s
  | some c =>
    if c.lastWaiting.isEmpty then s
    else
      let ready := c.lastWaiting.filter fun r => !outstanding c r s
      let c := { c with lastWaiting := c.lastWaiting.filter fun r => !ready.contains r }
      let s := forEach ready (fun r u => sendTray (resultFrame c c.lastTile r (tileBytes c c.lastTile) true false) u)
        (storeCollective c s)
      if c.lastWaiting.isEmpty then finishRelease c (engineWork (tileSite c c.lastTile) 0 0 s) else s

/-- Settles every collective in flight. -/
def settleResults (s : State) : State :=
  forEach (s.reduction.collectives.map Collective.id) settleCollective s

/-- Every held result of a power-heavy collective is sent, the highest tile last (R563, R566). -/
def releaseHeld (id : Nat) (s : State) : State :=
  match findCollective id s with
  | none => s
  | some c =>
    let last := tileCount c - 1
    let c := { c with delay := tallyNat s - c.completed, lastTile := last
                      lastWaiting := List.range c.group.members.length }
    let s := { storeCollective c s with reduction.rampQueue := s.reduction.rampQueue.filter (· != id) }
    settleCollective id (forEach (List.range last) (fun t u => sendTile c t u) s)

/-- The place of a collective in the ramp queue: by completion tally, then by ID (R121). -/
def joinRamp (id : Nat) (s : State) : State :=
  let key (i : Nat) : Nat := match findCollective i s with
    | some c => c.completed * 2 ^ 64 + i
    | none => 0
  { s with reduction.rampQueue := sortBy (fun a b => key a ≤ key b) (s.reduction.rampQueue ++ [id]) }

/-- What follows the completion of the last tile (R562, R563, R117). -/
def allTilesDone (c : Collective) (t : Nat) (s : State) : State :=
  let c := { c with completed := tallyNat s, lastTile := t }
  if c.group.powerHeavy then
    let c := { c with state := .rampWait }
    let s := matchTrigger c.id 1 (storeCollective c s)
    if param pRampEnable s = 0 then releaseHeld c.id s else joinRamp c.id s
  else
    let c := { c with lastWaiting := List.range c.group.members.length }
    settleCollective c.id (matchTrigger c.id 1 (storeCollective c s))

/-- Completes a tile whose presence bits are all set: rounds its registers (R560, R561), and sends its
result, a retire notice, or nothing yet when it is the last one. -/
def completeTile (id t : Nat) (s : State) : State :=
  match findCollective id s with
  | none => s
  | some c =>
    let regs := c.registers.filter fun r => r.index / 1024 = t
    let at_ (i : Nat) : LongRegister := (regs.find? fun r => r.index = 1024 * t + i).getD { index := 1024 * t + i }
    let outs := (List.range (tileSize c t)).map fun i =>
      registerResult c.op c.canonical c.input c.output c.group.members.length (at_ i)
    let c := { c with
      tiles := put t (outs.map Prod.fst) c.tiles
      registers := c.registers.filter fun r => r.index / 1024 != t
      flags := c.flags ||| BitVec.ofNat 3 (outs.foldl (fun a x => a ||| x.2) 0) }
    let s := count (cReed (tileSite c t) 4) (storeCollective c s)
    let s := if c.group.powerHeavy then sendRetire c t s else s
    if c.tiles.length = tileCount c then allTilesDone c t s
    else if c.group.powerHeavy then s else sendTile c t s

/-- R556: every presence bit of every member is set for each element of the tile. -/
def tileFull (c : Collective) (t : Nat) : Bool :=
  (List.range (tileSize c t)).all fun i =>
    match c.registers.find? fun r => r.index = 1024 * t + i with
    | some r => r.present.length = c.group.members.length
    | none => false

/-! ### Intake (R550-R559) -/

/-- Takes one contribution element of a rank. -/
def takeElement (c : Collective) (rank idx x : Nat) : Collective :=
  let r := (c.registers.find? fun r => r.index = idx).getD { index := idx }
  let r := contribute c.op c.canonical c.input rank x r
  { c with registers := r :: c.registers.filter fun q => q.index != idx }

/-- Whether a rank has already contributed an element (R554). -/
def taken (c : Collective) (rank idx : Nat) : Bool :=
  tileDone c (idx / 1024) || c.registers.any fun r => r.index = idx && r.present.contains rank

/-- The elements that a payload holds, little-endian in the input format. -/
def elementsOf (f : Format) (payload : List Byte) : List Nat :=
  (List.range (payload.length / f.bytes)).map fun i => field payload (f.bytes * i) f.bytes

/-- Accumulates a member's frame, or ends the collective by R554, R555, R558 and R594. `at_` is the ingress
slate. -/
def intake (c : Collective) (at_ rank : Nat) (h : FrameHeader) (payload : List Byte) (s : State) : State :=
  let xs := elementsOf c.input payload
  let start := h.address.toNat
  let last := start + xs.length - 1
  if lowestOpen c + c.depth * c.yealms.length ≤ last / 1024 then
    abortCollective c.id 7 rWindow 0 (count (cReed at_ 7) s)
  else if c.elements ≤ last then abortCollective c.id 8 rLength 0 s
  else if (List.range xs.length).any fun i => taken c rank (start + i) then
    abortCollective c.id 6 rEntry rank (count (cReed at_ 8) s)
  else
    let touched := (List.range (last / 1024 + 1)).filter fun t => start / 1024 ≤ t
    let c := { c with
      state := .reducing
      classes := if (lookup c.classes rank).isSome then c.classes else put rank (h.cls.toNat % 8) c.classes
      poison := c.poison || h.flags.getLsbD 0
      poisonTiles := if h.flags.getLsbD 0 then (c.poisonTiles ++ touched).eraseDups else c.poisonTiles }
    let c := xs.zipIdx.foldl (fun d x => takeElement d rank (start + x.2) x.1) c
    forEach touched (fun t u =>
      match findCollective c.id u with
      | some d => if !tileDone d t && tileFull d t then completeTile c.id t u else u
      | none => u) (storeCollective c s)

/-- A CONTRIB frame meets its collective (R550, R551, R569): its credits return in every case. -/
def contribTo (c : Collective) (p at_ : Nat) (h : FrameHeader) (payload : List Byte) (s : State) : State :=
  let s := returnCredits p (h.cls.toNat % 8) (creditsOf payload.length) s
  match rankOf c p h.srcEndpoint.toNat with
  | none => count (cReed at_ 3) s
  | some rank =>
    if payload.length = 0 ∨ payload.length % c.input.bytes ≠ 0 then count (cReed at_ 2) s
    else intake c at_ rank h payload s

/-- Bytes of early frames that a slate holds (R552). -/
def earlyBytes (at_ : Nat) (s : State) : Nat :=
  ((s.reduction.early.filter fun e => e.site = at_).map fun e => e.payload.length).sum

/-- A CONTRIB frame on its ingress slate (R551, R552, R569); one that waits takes reed staging (DEDUCED, entry 122). -/
def contribIn (p : Nat) (h : FrameHeader) (payload : List Byte) (s : State) : State :=
  let at_ := (servingSite p s).getD 0
  let id := h.tag.toNat
  let s := count (cReed at_ 1) s
  match findCollective id s with
  | some c => contribTo c p at_ h payload s
  | none =>
    if (s.reduction.done.any fun d => d.id = id) || param pEarlyHold s = 0 ||
        1048576 < earlyBytes at_ s + payload.length then
      count (cReed at_ 2) (returnCredits p (h.cls.toNat % 8) (creditsOf payload.length) s)
    else
      { s with reduction.early := s.reduction.early ++ [{ port := p, site := at_, header := h, payload }] }

/-- A newly admitted collective takes the frames that waited for it, in arrival order (R548, R552). -/
def takeEarly (id : Nat) (s : State) : State :=
  let mine := s.reduction.early.filter fun e => e.header.tag.toNat = id
  mine.foldl (fun t e =>
    match findCollective id t with
    | some c => contribTo c e.port e.site e.header e.payload t
    | none => count (cReed e.site 2) (returnCredits e.port (e.header.cls.toNat % 8) (creditsOf e.payload.length) t))
    { s with reduction.early := s.reduction.early.filter fun e => e.header.tag.toNat != id }

/-- Ticks in a number of microseconds: 312.5 to one. -/
def tkOfUs (us : Nat) : Nat := us * 625 / 2

/-- One early frame goes to the gutter by a flush (R484); its collective, opened in the time that it had left to wait,
completes as ABORTED for it (R489). -/
def flushEarlyOne (cause : Nat) (e : EarlyFrame) (s : State) : State :=
  let cls := e.header.cls.toNat % 8
  let s := returnCredits e.port cls (creditsOf e.payload.length) (gutter e.site e.port 0xFFFF cls s)
  { s with reduction.flushed := s.reduction.flushed ++
      [{ collective := e.header.tag.toNat, cause, until_ := s.now + tkOfUs (param pEarlyHold s) }] }

/-- The early frames that a condition selects are flushed. -/
def flushEarly (which : EarlyFrame → Bool) (cause : Nat) (s : State) : State :=
  (s.reduction.early.filter which).foldl (fun t e => flushEarlyOne cause e t)
    { s with reduction.early := s.reduction.early.filter fun e => !which e }

/-- A newly admitted collective of which a CONTRIB frame was flushed completes as ABORTED, cause FLUSHED (R489,
Table 9.3). -/
def takeFlushed (id : Nat) (s : State) : State :=
  let hit := s.reduction.flushed.find? fun f => f.collective = id && decide (s.now ≤ f.until_)
  let s := { s with reduction.flushed := s.reduction.flushed.filter fun f => f.collective != id && decide (s.now ≤ f.until_) }
  match hit with
  | some f => abortCollective id 2 f.cause 0 s
  | none => s

/-- The release check of the ramp governor (R118-R121): the head leaves while the bucket holds enough. With
ramp.enable 0 every release is immediate and draws nothing (R117). -/
def rampLoop : Nat → State → State
  | 0, s => s
  | n + 1, s =>
    match s.reduction.rampQueue with
    | [] => s
    | id :: rest =>
      let w := ((findCollective id s).map fun c => c.group.stepW).getD 0
      let need := min (w * 1000000000) (param pRampBurst s * 1000000000000)
      if param pRampEnable s = 0 then rampLoop n (releaseHeld id { s with reduction.rampQueue := rest })
      else if s.reduction.tokens < need then s
      else rampLoop n (releaseHeld id { s with reduction := { s.reduction with
        tokens := s.reduction.tokens - need, rampQueue := rest } })

end Sys2Proof.Machine
end

