-- ==== Sys2Proof/Machine/Links.lean ====
section
/-! DEFINITION. What happens to a port (07, 08): the causes that hold it, its entry to each state, plan check,
drain, abort and link loss, and the completions of PORT_UP, PORT_DOWN and PORT_ADAPT. -/

namespace Sys2Proof.Machine

/-! ### What holds a port (R104, R113, R114, R221, R447, R448, Table 4.5) -/

/-- The cartridge that carries a port: 0-15 cable, 16-19 optical (R75). -/
def cartridgeOf (p : Nat) : Nat := if p < 128 then p / 8 else 16 + (p - 128) / 8

def rackIdValid (s : State) : Bool := s.referee.rackId.getLsbD 31

/-- The cause that holds a port DOWN, none when it may train. Where several hold it, BAD_SLOT is shown, which R104 gives
every port, and the order of the others is the model's choice (DESIGN CHOICE, entry 107). -/
def portHold (p : Nat) (s : State) : Option Nat :=
  if 8 < s.power.slotId.toNat then some rBadSlot
  else if s.power.refusedCartridges.contains (cartridgeOf p) then some rEpoch
  else if cartGone (cartridgeOf p) s || (port p s).faultedRim then some 0
  else if (p < 128 && !cableRail s) || (128 ≤ p && !opticalRail s) then some 0
  else if (servingSite p s).isNone then some rNoSlate
  else if 128 ≤ p then
    let q := port p s
    if !rowMember s then some rNoRow
    else if (p - 128) / 4 = s.referee.rowPos.toNat % 8 then some 0
    else if !q.moduleReady || !(q.moduleQualified || (param pOpticPolicy s = 1 && q.moduleOffers)) then some rNoModule
    else none
  else none

/-- The dynamic link fields of a port that is not trained. -/
def Port.untrained (q : Port) : Port :=
  { q with width := 0, lanes := 0, fecL := false, step := 0, idBlock := none, idCount := 0, badAligns := 0
           switchRound := 0, grantOut := {}, usedIn := {}, grantIn := {}, usedOut := {}, holdIn := 0
           holdOut := 0, openRx := none, parked := none, discarding := false, sending := none, suspended := none
           exchanges := [], freezeIdle := false, farSelectBad := false }

/-! ### Completions -/

def isPortUpOp (p : Nat) : OpKind → Bool
  | .portUp q => q = p
  | _ => false

def isPortDownOp (p : Nat) : OpKind → Bool
  | .portDown q _ => q = p
  | _ => false

def isAdaptOp (p : Nat) : OpKind → Bool
  | .portAdapt q => q = p
  | _ => false

/-- The completion of PORT_UP: the state, width, cause and FEC of the port. -/
def settlePortUp (p : Nat) (s : State) : State :=
  let q := port p s
  finishAll (isPortUpOp p) stOk 0 0
    (le 1 q.state.code ++ le 1 q.width ++ le 2 q.cause.toNat ++ le 1 (bit q.fecL) ++ zs 3) s

/-- A PORT_ADAPT that met no partner (R440, R442). -/
def adaptFailed (p : Nat) (s : State) : State :=
  finishAll (isAdaptOp p) stPrecond rNoPartner 0 [] (setPort p (fun q => { q with adapt := .none }) s)

/-- A PORT_ADAPT whose port can no longer adapt ends without a partner (R442). -/
def adaptAborted (p : Nat) (s : State) : State := if (port p s).adapt = .none then s else adaptFailed p s

/-- A PORT_ADAPT that has retrained (R441). -/
def adaptDone (p : Nat) (s : State) : State :=
  let q := port p s
  finishAll (isAdaptOp p) stOk 0 0 (le 1 q.width ++ le 1 (bit q.fecL) ++ zs 2 ++ le 4 (max q.ownBer.toNat q.farBer.toNat))
    (setPort p (fun q => { q with adapt := .none }) s)

/-- The payload of PORT_DOWN's completion. -/
def downPayload (n sv : Nat) : List Byte := le 8 n ++ le 4 sv ++ zs 4

/-! ### Sending state -/

/-- The frames that a port is sending or has suspended. -/
def cutFrames (p : Nat) (s : State) : List QFrame :=
  let q := port p s
  (match q.suspended with | some t => [t.frame] | none => []) ++
    (match q.sending with | some t => if stillSending t q.width s.now then [t.frame] else [] | none => [])

/-- Flushes everything queued towards a port, and cuts what it is sending (R485, R492); a frame whose last block has
left lands. -/
def flushPort (p mode cause : Nat) (s : State) : State :=
  let s := landPort p s
  let cut := cutFrames p s
  flush (towards p) cut mode cause p (setPort p (fun q => { q with sending := none, suspended := none }) s)

/-- The counts that a flush of a port reports. -/
def flushPortCounts (p : Nat) (s : State) : Nat × Nat :=
  flushCounts (cutFrames p s ++ queuedWhere (towards p) s) s

/-! ### Entering states -/

/-- A port goes DOWN and forgets its link. -/
def portOff (p cause : Nat) (s : State) : State := portTo p .down cause (setPort p Port.untrained s)

/-- The port's transmitter stops after a DRAIN or an ABORT (Table 8.4, step 4): every PORT_DOWN of the port
completes, the first with the counts (R519, R520). -/
def portDisabled (p n sv : Nat) (s : State) : State :=
  let s := portTo p .disabled rAdminDown (setPort p (fun q => { q.untrained with adapt := .none, lostLanes := 0 }) s)
  let s := finishAll (isAdaptOp p) stAborted 0 0 [] (settlePortUp p s)
  finishFirst (isPortDownOp p) stOk 0 0 (downPayload n sv) (downPayload 0 0) s

/-- A port stops: what it receives is discarded and what waits for it is flushed, once it is no longer UP, so that a
SEVER towards it counts as lost (R485, R488, R492). -/
def stopPort (p : Nat) (st : PortState) (mode flushCause cause : Nat) (s : State) : State :=
  settleResults (flushPort p mode flushCause (dropReception p (portTo p st cause s)))

/-- PORT_DOWN with ABORT, and step 3 onward of a DRAIN (R491, R492). -/
def portFlushed (p mode cause : Nat) (s : State) : State :=
  let (n, sv) := flushPortCounts p (portTo p .disabled rAdminDown s)
  portDisabled p n sv (stopPort p .disabled mode cause rAdminDown s)

/-- Whether a port was draining for a PORT_DOWN. -/
def drainsDown (p : Nat) (s : State) : Bool := (port p s).state = .draining && (port p s).adapt = .none

/-- Whether an ordinary port can train now (R226): its slate's firmware runs. -/
def mayTrain (s : State) : Bool := s.power.waferRunning && s.power.slatesRunning && !s.freezeUnit.frozen

/-- A port starts step 1 of Table 7.11; the cause of a lost link is still shown while it retrains. -/
def startTraining (p cause : Nat) (s : State) : State :=
  portTo p .training cause (setPort p (fun q => { q.untrained with step := 1, round := q.round }) s)

/-- A port that is DOWN trains at once unless something holds it (R399). -/
def retrain (p cause : Nat) (s : State) : State :=
  match portHold p s with
  | some c => portTo p .down c s
  | none => if mayTrain s then startTraining p cause s else s

/-- A lost link (R398, R399): flushed as ABORT and counted; the port goes DOWN and retrains at once. A drain in
progress ends at once (R519). -/
def linkLost (p cause : Nat) (s : State) : State :=
  let s := count (cPort p 0x12) s
  if drainsDown p s then portFlushed p 2 cause s
  else retrain p cause (adaptFailed p (portOff p cause (stopPort p .down 2 cause cause s)))

/-- Whether a port's link is trained: FEC lock was reached and not lost since. -/
def trained (p : Nat) (s : State) : Bool :=
  match (port p s).state with
  | .identity | .miswired | .waiting | .up | .draining => true
  | .training => 3 ≤ (port p s).step
  | _ => false

/-- Grants and holds of a port that enters UP (R415, R451): both sides start at 0 and the first CREDIT block
grants the allocation. -/
def grantAll (q : Port) : Port :=
  let al := BitVec.ofNat 16 q.allocLossless
  let ex := BitVec.ofNat 16 q.allocExpress
  { q with grantOut := { c0 := q.usedIn.c0 + al, c1 := q.usedIn.c1 + al, c2 := q.usedIn.c2 + al
                         c3 := q.usedIn.c3 + al, c7 := q.usedIn.c7 + ex } }

/-- Table 7.11, step 8. Frames that are still held from before grant nothing to the new link (R415). -/
def enterUp (p : Nat) (s : State) : State :=
  let al := param (pCreditLossless p) s
  let ex := param (pCreditExpress p) s
  let hold : BitVec 5 := if rehoming p s then 31 else 0
  let stale := heldAll p s
  let s := setPort p (fun q => grantAll { q with
    usedIn := {}, usedOut := {}, grantIn := {}, holdIn := 0, holdOut := hold, allocLossless := al
    allocExpress := ex, stale := stale, exchanges := [] }) s
  settlePortUp p (sendCredit p (portTo p .up 0 s))

/-- Table 7.11, steps 7 and 8: a match waits for the tally, and enters UP when it is not ACQUIRING. -/
def enterWaiting (p : Nat) (s : State) : State :=
  let s := portTo p .waiting rTallyWait s
  if s.tally.state = .acquiring then settlePortUp p s else enterUp p s

/-- MISWIRED carries no traffic (R109); a port that carried it is flushed as ABORT (R129, R457), which ends a DRAIN in
progress as R519 says. -/
def enterMiswired (p cause : Nat) (s : State) : State :=
  let carried := (port p s).state = .up || (port p s).state = .draining
  if drainsDown p s then errorClass 11 (portFlushed p 2 0 s)
  else
    let s := if carried then adaptAborted p (stopPort p .miswired 2 0 cause s) else portTo p .miswired cause s
    settlePortUp p (errorClass 11 s)

/-- An identity in the layout of Table 2.5. -/
def identityWord (b : IdentityBlock) : Nat :=
  b.rackId.toNat * 2 ^ 48 + (b.slot.toNat % 32) * 2 ^ 43 + b.port.toNat * 2 ^ 32 + b.serialHash.toNat

/-- Whether an identity matches its plan entry in every field; a serial hash of 0 matches any (R108). -/
def planMatches (e : U64) (b : IdentityBlock) : Bool :=
  let e := e.toNat
  e / 2 ^ 48 = b.rackId.toNat && (e / 2 ^ 43) % 32 = b.slot.toNat % 32 && (e / 2 ^ 32) % 256 = b.port.toNat &&
    (e % 2 ^ 32 = 0 || e % 2 ^ 32 = b.serialHash.toNat)

/-- The other port past its identity exchange that reports the same far identity (R130). -/
def sameIdentity (p : Nat) (b : IdentityBlock) (s : State) : Option Nat :=
  (List.range 160).find? fun q => q ≠ p && (match (port q s).state with
    | .miswired | .waiting | .up | .draining => (port q s).received = some b
    | _ => false)

/-- The plan check of a port whose far identity is known (R108-R111, R130). -/
def planCheck (p : Nat) (b : IdentityBlock) (s : State) : State :=
  match sameIdentity p b s with
  | some q => enterMiswired p rDuplicatePeer (enterMiswired q rDuplicatePeer s)
  | none =>
    if param pPlanPolicy s = 1 then
      enterWaiting p (journalWafer (.fabric 5 0 0 p 0xFF 0xFF (tallyNat s) 0 0 0 0 (identityWord b)) s)
    else if !s.planLoaded then enterMiswired p rNoPlan s
    else if planMatches (s.plan.getD p 0) b then enterWaiting p s
    else enterMiswired p 0 s

/-- Step 6 of Table 7.11; without a rack ID no IDENTITY block is sent (R113). A PORT_ADAPT that retrained
completes here, its width, FEC mode and BER being known (R441). -/
def enterIdentity (p : Nat) (s : State) : State :=
  let s := portTo p .identity (if rackIdValid s then 0 else rNoRackId)
    (setPort p (fun q => { q with idBlock := none, idCount := 0, received := none, step := 6 }) s)
  if (port p s).adapt = .retraining then adaptDone p s else s

/-- A port that DRAINs: hold bits set, grants stopped (Table 8.4, step 1). -/
def startDrain (p : Nat) (s : State) : State :=
  sendCredit p (portTo p .draining 0 (setPort p (fun q => { q with holdOut := 31 }) s))

/-- A port is held DOWN, with its queues flushed as ABORT (R101, Table 8.3). -/
def holdNoSlate (p : Nat) (s : State) : State :=
  adaptFailed p (portOff p rNoSlate (stopPort p .down 2 rNoSlate rNoSlate s))

end Sys2Proof.Machine
end

