-- ==== Sys2Proof/Machine/Memory.lean ====
section
/-! DEFINITION. The Loft's bytes: (address, byte) pairs in strictly rising address order with no entry of 0,
which is what an unlisted address reads as. A region is zero-filled when it is allocated (R611). -/

namespace Sys2Proof.Machine

/-- The byte at a Loft address. -/
def readByte (a : Nat) (m : List Host.Cell) : Byte := (lookup m a).getD 0

/-- Writes one byte; a 0 removes the entry. -/
def writeByte (a : Nat) (v : Byte) (m : List Host.Cell) : List Host.Cell := if v = 0 then erase a m else put a v m

/-- `n` bytes from an address, ascending. -/
def readBytes (a n : Nat) (m : List Host.Cell) : List Byte := (List.range n).map fun i => readByte (a + i) m

/-- Writes bytes at ascending addresses. -/
def writeBytes : Nat → List Byte → List Host.Cell → List Host.Cell
  | _, [], m => m
  | a, b :: bs, m => writeBytes (a + 1) bs (writeByte a b m)

/-- Zero-fills a range (R611, R627). -/
def zeroRange (base size : Nat) (m : List Host.Cell) : List Host.Cell :=
  m.filter fun c => !(decide (base ≤ c.1) && decide (c.1 < base + size))

/-- The canonical form: addresses strictly rising above a bound, and no entry of 0. -/
def cellsFrom : Nat → List Host.Cell → Bool
  | _, [] => true
  | lo, (a, v) :: rest => decide (lo ≤ a) && v != 0 && cellsFrom (a + 1) rest

/-- The canonical form of the Loft's cells. -/
def Memory.wf (m : List Host.Cell) : Bool := cellsFrom 0 m

end Sys2Proof.Machine
end

