-- ==== Sys2Proof/Machine/Slates.lean ====
section
/-! DEFINITION. Isolation and re-homing of slates (02, "Re-homing"), and what each does to frames, Loft
requests, collectives and ports. -/

namespace Sys2Proof.Machine

/-! ### Choosing where to go (R91-R93, R100) -/

/-- Sites already taken by a re-homing that has not reached step 6. -/
def reservedSites (s : State) : List Nat :=
  s.switch.rehomings.flatMap fun r => (match r.target with | some t => [t] | none => []) ++
    (r.ports.filterMap Prod.snd) ++ (r.lofts.filterMap Prod.snd)

/-- The free site of R92 and R93: nearest, a lending one only when no other is free. -/
def freeTarget (n : Nat) (s : State) : Option Nat :=
  let taken := reservedSites s
  let free := (List.range 36).filter fun m => m ≠ n && isFree m s && !taken.contains m
  match nearestFirst n (free.filter fun m => (site m s).state = .idle) s with
  | m :: _ => some m
  | [] => (nearestFirst n (free.filter fun m => (site m s).state = .lending) s).head?

/-- Ports a site will serve: those it serves and those promised to it. -/
def load (m : Nat) (s : State) (given : List (Nat × Option Nat)) : Nat :=
  (portsOf m s).length + (given.filter fun g => g.2 = some m).length

/-- The serving site (R81) with the fewest ports, ties to the lower site (R100). -/
def leastLoaded (n : Nat) (cap : Nat) (given : List (Nat × Option Nat)) (s : State) : Option Nat :=
  let ok := (List.range 36).filter fun m => m ≠ n && isServing m s && load m s given < cap
  ok.foldl (fun best m => match best with
    | none => some m
    | some b => if load m s given < load b s given then some m else some b) none

/-- R100: ports one at a time in ascending number, at most 10 on a site; none means held DOWN (R101). -/
def spread (n : Nat) (ps : List Nat) (s : State) : List (Nat × Option Nat) :=
  ps.foldl (fun given p => given ++ [(p, leastLoaded n 10 given s)]) []

/-- Where ports and Loft blocks go when no free site remains: the blocks to the site of the lowest-numbered re-homed
port, or to the least loaded (R100). -/
def spreadPlan (n : Nat) (ps ls : List Nat) (s : State) : List (Nat × Option Nat) × List (Nat × Option Nat) :=
  let given := spread n ps s
  let forLoft := match given.find? fun g => g.2.isSome with
    | some g => g.2
    | none => leastLoaded n 1000 [] s
  (given, ls.map fun b => (b, forLoft))

/-- Where a site's ports and Loft block go. -/
def plan (n : Nat) (ps ls : List Nat) (s : State) : Option Nat × List (Nat × Option Nat) × List (Nat × Option Nat) :=
  match freeTarget n s with
  | some t => (some t, ps.map fun p => (p, some t), ls.map fun b => (b, some t))
  | none => (none, spreadPlan n ps ls s)

/-- A lending site chosen for re-homing loses its collectives (R93). -/
def reclaim (t : Option Nat) (s : State) : State :=
  match t with
  | none => s
  | some m =>
    if (site m s).state = .lending then
      setSite m (fun x => { x with state := .idle })
        (abortWhere (fun c => c.yealms.any fun y => y.1 = m) 5 rRehome 0 s)
    else s

/-! ### Frames and requests of a slate -/

/-- One Loft request flushed by a re-homing; a flushed write that its block had accepted may or may not have been written
(R610). -/
def flushRequest (n : Nat) (r : LoftRequest) (s : State) : State :=
  let cls := r.header.cls.toNat % 8
  let s := returnCredits r.port cls (creditsOf r.header.length.toNat) (gutter n r.port 0xFFFF cls s)
  let s := if r.write && r.handle ≠ 0 && Config.flushedWrite s.freeCount then
    { s with loft.cells := writeBytes r.address r.data s.loft.cells } else s
  bumpFree s

/-- Flushed Loft requests: one SEVER for each input and class, with the number flushed and the oldest one's endpoint and
tag (R486). -/
def severRequests (cause : Nat) (rs : List LoftRequest) (s : State) : State :=
  let keyOf (r : LoftRequest) : Nat × Nat := (r.port, r.header.cls.toNat % 8)
  (rs.map keyOf).eraseDups.foldl (fun t x =>
    match rs.filter fun r => keyOf r = x with
    | [] => t
    | r :: rest =>
      sever x.1 0xFFFF x.2 cause r.header.srcEndpoint.toNat r.header.tag.toNat (rest.length + 1) t) s

/-- The Loft requests that wait on a slate are flushed with it. -/
def flushLoft (n cause : Nat) (s : State) : State :=
  let mine (r : LoftRequest) : Bool := loftSite r.block s = some n
  let rs := (s.loft.requests ++ s.loft.waiting).filter mine
  severRequests cause rs (rs.foldl (fun t r => flushRequest n r t)
    { s with loft := { s.loft with
      requests := s.loft.requests.filter fun r => !mine r, waiting := s.loft.waiting.filter fun r => !mine r } })

/-- Everything held on a slate goes to the gutter (Table 2.3, step 4; R489). -/
def flushSlate (n cause : Nat) (s : State) : State :=
  let s := flush (fun f => f.site = n) [] 2 cause 0xFFFF s
  settleResults (flushLoft n cause (flushEarly (fun e => e.site = n) cause s))

/-! ### Isolation (R91-R95, R1076, R1079) -/

/-- Ports of a re-homing: holds set, credit return stopped (Table 2.3, step 3). -/
def holdPorts (ps : List Nat) (s : State) : State :=
  forEach ps (fun p t =>
    let t := setPort p (fun q => { q with holdOut := 31 }) t
    if (port p t).state = .up then sendCredit p t else t) s

/-- The argument of a cause: the site, for AUDIT (Table 2.3a). -/
def slateRailOff (n : Nat) (s : State) : State :=
  setLatches (fun l => { l with
    slateRailEn := l.slateRailEn &&& ~~~(1#36 <<< n), slateRstN := l.slateRstN &&& ~~~(1#36 <<< n) }) s

/-- A site that a wafer activation loads leaves the roll (R979). -/
def leaveRoll (n : Nat) (s : State) : State :=
  if rollLoads n s then
    setSite n (fun t => { t with bistRunning := false }) { s with
      firmware.activation := s.firmware.activation.map fun a => { a with loading := a.loading.filter (· != n) } }
  else s

/-- Re-homings aimed at a site that is isolated restart with the next spare (R126). -/
def retarget (n : Nat) (s : State) : State :=
  let hit (r : Rehoming) : Bool := r.target = some n || r.ports.any (fun p => p.2 = some n) ||
    r.lofts.any fun l => l.2 = some n
  s.switch.rehomings.foldl (fun t r =>
    if hit r then
      let others := { t with switch.rehomings := t.switch.rehomings.filter (· != r) }
      let (tg, ps, ls) := plan r.site (r.ports.map Prod.fst) (r.lofts.map Prod.fst) others
      reclaim tg { t with switch.rehomings := t.switch.rehomings.map fun x =>
        if x = r then { r with target := tg, ports := ps, lofts := ls } else x }
    else t) s

/-- Re-homings whose isolations fall at one tally tick take their spares in row-major order of their sites (R125). -/
def replanTick (s : State) : State :=
  let now := tallyNat s
  let mine (r : Rehoming) : Bool := r.startTally = now && !r.drain
  let rs := sortBy (fun a b => a.site ≤ b.site) (s.switch.rehomings.filter mine)
  if rs.length < 2 then s
  else rs.foldl (fun t r =>
    let (tg, ps, ls) := plan r.site (r.ports.map Prod.fst) (r.lofts.map Prod.fst) t
    let t := reclaim tg t
    { t with switch.rehomings := t.switch.rehomings ++ [{ r with target := tg, ports := ps, lofts := ls }] })
    { s with switch.rehomings := s.switch.rehomings.filter fun r => !mine r }

/-- The FABRIC record of an isolation (R1076): event SLATE_ISOLATE with the cause of Table 2.3a. -/
def journalIsolation (n cause : Nat) (target : Option Nat) (s : State) : State :=
  journalWafer (.fabric 2 2 cause 0xFFFF n (target.getD 0xFF) (tallyNat s) 0 0 0 0 0) s

/-- A site among the BIST failures that the BOOT record lists (R1076, R1077). -/
def noteSiteFailure (n : Nat) (s : State) : State :=
  if s.power.boot.siteFailures.contains n then s
  else { s with power.boot.siteFailures := s.power.boot.siteFailures ++ [n] }

/-- Steps 1 to 4 of Table 2.3 for a fault or a command. `st` is the site's state after them. -/
def isolateSite (n cause : Nat) (st : SiteState) (s : State) : State :=
  let s := leaveRoll n { s with switch.rehomings := s.switch.rehomings.filter fun r => !(r.site = n && r.drain) }
  let ps := portsOf n s
  let ls := loftsOf n s
  let serves := !(ps.isEmpty && ls.isEmpty) && isServing n s
  let s := slateRailOff n (setSite n (fun t => { t with
    state := st, cause := BitVec.ofNat 16 cause, walkPending := false, prevCandidates := [] }) s)
  if s.freezeUnit.frozen then { s with freezeUnit.destructive := true }
  else if !s.power.slatesRunning then noteSiteFailure n s
  else
    let s := abortWhere (onSite n) 3 rRehome 0 s
    let (tg, pm, lm) := plan n ps ls s
    let s := if serves then
        holdPorts ps { reclaim tg s with switch.rehomings := (reclaim tg s).switch.rehomings ++
          [{ site := n, target := tg, ports := pm, lofts := lm, drain := false, booting := !s.power.banksMounted
             startTally := tallyNat s, cause := BitVec.ofNat 16 cause }] }
      else s
    let s := replanTick (retarget n (flushSlate n rRehome s))
    errorClass 1 (if s.power.banksMounted then journalIsolation n cause tg s else noteSiteFailure n s)

/-- A drain for activation moves the ports to a site without steps 2 and 4 (R95); it is journalled as every isolation
is (Table 2.3a). -/
def drainSite (n m : Nat) (s : State) : State :=
  let ps := portsOf n s
  journalIsolation n rActivation (some m) <| holdPorts ps (setSite n (fun t => { t with state := .draining, cause := BitVec.ofNat 16 rActivation })
    { s with switch.rehomings := s.switch.rehomings ++
      [{ site := n, target := some m, ports := ps.map fun p => (p, some m), lofts := (loftsOf n s).map fun b => (b, some m)
         drain := true, startTally := tallyNat s, cause := BitVec.ofNat 16 rActivation }] })

/-! ### The map switch (Table 2.3, steps 5 and 6) -/

/-- The grants of a port whose slate has changed: its allocation, less the buffers that the link's own
frames still hold (R418, R470). -/
def regrant (held : Credits) (q : Port) : Port :=
  let g (cls : Nat) : U16 := BitVec.ofNat 16 (q.usedIn.get cls + (q.allocation cls - (held.get cls - q.stale.get cls)))
  { q with grantOut := { c0 := g 0, c1 := g 1, c2 := g 2, c3 := g 3, c7 := g 7 } }

/-- A port of a re-homing at step 6: the hold clears and credits are re-advertised (R418, R460, R496). -/
def readvertise (p : Nat) (s : State) : State :=
  if (port p s).state = .up then sendCredit p (setPort p (fun q => { regrant (heldAll p s) q with holdOut := 0 }) s)
  else setPort p (fun q => { q with holdOut := if q.state = .draining then q.holdOut else 0 }) s

/-- The free sites that a re-homing brings into service (R525, R93). -/
def bringUp (m : Nat) (s : State) : State :=
  if isFree m s then freshStore m (setSite m (fun t => { t with state := .serving, cause := 0 }) s) else s

/-- Microseconds of a number of ticks: 3.2 ns each. -/
def usOfTicks (k : Nat) : Nat := k * 16 / 5000

def isIsolateOp (n : Nat) : OpKind → Bool
  | .slateIsolate m => m = n
  | _ => false

/-- Whether a drained slate has nothing left to forward: no frame queued in it or in flight through it, and no Loft
request (R95, R962). That the map switch also waits for the collectives that hold its yealms, which the drain may not
abort, is the model's choice (DESIGN CHOICE, entry 93). -/
def drained (n : Nat) (s : State) : Bool :=
  !((s.switch.queue ++ s.switch.dormerQueue).any fun f => f.site = n) && (site n s).inFlight = 0 &&
    !(s.reduction.collectives.any (onSite n)) && !((s.loft.requests ++ s.loft.waiting).any fun r => loftSite r.block s = some n)

/-- The map that a re-homing puts in force at step 6. Ports that no free site takes go to the sites that serve the
fewest at that moment (R100), and a drain moves the ports that its slate serves by then. -/
def mapNow (r : Rehoming) (s : State) : Rehoming :=
  if r.drain then
    { r with ports := (portsOf r.site s).map fun p => (p, r.target), lofts := (loftsOf r.site s).map fun b => (b, r.target) }
  else if r.target.isSome then r
  else
    let (ps, ls) := spreadPlan r.site (r.ports.map Prod.fst) (r.lofts.map Prod.fst) s
    { r with ports := ps, lofts := ls }

/-- Puts the map of a re-homing in force. -/
def applyMap (r : Rehoming) (s : State) : State :=
  let targets := ((r.ports.filterMap Prod.snd) ++ (r.lofts.filterMap Prod.snd)).eraseDups
  let s := forEach targets bringUp s
  let s := { s with switch := { s.switch with
    portSite := r.ports.foldl (fun m p => m.set p.1 p.2) s.switch.portSite
    loftSite := r.lofts.foldl (fun m l => m.set l.1 l.2) s.switch.loftSite
    rehomings := s.switch.rehomings.filter fun x => x.site != r.site } }
  let held := r.ports.filter fun p => p.2.isNone
  forEach (held.map Prod.fst) holdNoSlate (forEach ((r.ports.filter fun p => p.2.isSome).map Prod.fst) readvertise s)

/-- Step 6: the new map, the record, and the completion of a SLATE_ISOLATE (R98). A re-homing from before the banks
were mounted stands in the BOOT record alone (R1076). -/
def finishRehoming (r : Rehoming) (s : State) : State :=
  let r := mapNow r s
  let us := usOfTicks (tallyNat s - r.startTally)
  let dest := ((r.target.orElse fun _ => (r.ports.filterMap Prod.snd).head?).orElse fun _ =>
    (r.lofts.filterMap Prod.snd).head?).getD 0xFF
  let s := applyMap r s
  let s := if r.drain then setSite r.site (fun t => { t with state := .idle, cause := 0 }) s else s
  let s := if r.booting then s
    else journalWafer (.fabric 1 2 r.cause.toNat 0xFFFF r.site dest (tallyNat s) 0 0 us 0 0) s
  finishAll (isIsolateOp r.site) stOk 0 0 (le 1 dest ++ zs 3 ++ le 4 us) s

/-! ### Slate BIST -/

/-- The outcome of slate BIST on a site (R1009): engines and slices that failed. The spare VOQ RAM takes the
role of a failed one (R986). -/
def bistOutcome (n : Nat) (r : SlateBist) (s : State) : State :=
  setSite n (fun t => { t with
    bistPassed := r.pass, bistRunning := false, failedSlices := r.slices
    rams := (List.range 16).map fun i => if r.slices.contains (552 + i) then 16 else i
    spareRam := 16, spareLost := r.slices.any (552 ≤ ·)
    engines := t.engines.zipIdx.map fun e => { e.1 with faulted := r.engines.contains e.2 } }) s

/-- Slate BIST begins: it holds the site in reset, out of service (Table 18.5, R1008). An isolated or failed site stays
so. -/
def Site.underBist (t : Site) : Site :=
  { t with bistRunning := true, state := match t.state with
      | .isolated => .isolated
      | .failed => .failed
      | _ => .off }

/-- Turns a site's rail on, and releases its reset. -/
def slateRailOn (n : Nat) (s : State) : State :=
  setLatches (fun l => { l with slateRailEn := l.slateRailEn ||| (1#36 <<< n) }) s

def slateRelease (n : Nat) (s : State) : State :=
  setLatches (fun l => { l with slateRstN := l.slateRstN ||| (1#36 <<< n) }) s

end Sys2Proof.Machine
end

