-- ==== Sys2Proof/Machine/LoftPool.lean ====
section
/-! DEFINITION. The Loft (10_loft): addresses, requests and their responses, regions, seals, poison, and the
loss of its rail. -/

namespace Sys2Proof.Machine

/-! ### Addresses (R600, R601) -/

/-- Bytes of the Loft: 32 TiB or 64 TiB (Table 0.1). -/
def loftSize (s : State) : Nat := if s.ident.loft64 then 2 ^ 46 else 2 ^ 45

/-- The cartridge of an address, and the Loft block it is attached to (R76, R601). -/
def cartOf (a : Nat) : Nat := (a / 4096) % 32

/-- Whether a Loft cartridge reports FAULTED: failed or not fitted (R12), its rim block failed (R221), without its rail,
or not initialised again (R599, R642). -/
def loftCartFaulted (n : Nat) (s : State) : Bool :=
  cartGone (cartKey (.loft n)) s || s.power.faultedRim.contains (40 + n) || !loftRail s ||
    !s.power.loftReady

/-- The lines of 64 bytes that a range touches. -/
def linesOf (a n : Nat) : List Nat :=
  (List.range ((a + n + 63) / 64 - a / 64)).map fun i => (a / 64 + i) * 64

/-! ### Regions -/

def findRegion (h : Nat) (s : State) : Option Region := s.loft.regions.find? fun r => r.handle = h

/-- The region that holds a whole range. -/
def regionOf (a n : Nat) (s : State) : Option Region :=
  s.loft.regions.find? fun r => r.base ≤ a && a + n ≤ r.base + r.size

def storeRegion (r : Region) (s : State) : State :=
  { s with loft.regions := s.loft.regions.map fun x => if x.handle = r.handle then r else x }

def RegionKind.code : RegionKind → Nat
  | .working => 0 | .sealing => 1 | .isSealed => 2

/-- The reference count of a region (R614). -/
def refCount (h : Nat) (s : State) : Nat :=
  (s.loft.requests.filter fun r => r.handle = h && !r.forced).length +
    (s.reduction.decisions.map fun d => (d.regions.filter fun x => x.1 = h).length).sum +
    (s.loft.seals.filter (· = h)).length +
    (s.loft.regions.filter fun r => r.handle = h && r.resealing).length +
    (s.journal.replays.filter fun r => r.state = 0 && (r.input = h || r.regions.contains h)).length

/-- A REGION record (Table 12.3). -/
def journalRegion (r : Region) (event kind line : Nat) (s : State) : State :=
  journalWafer (.region r.handle event kind r.base r.size line (refCount r.handle s) r.digest) s

/-- Every open decision that names a region carries LOFT_POISON from now on (R633). -/
def poisonDecisions (h : Nat) (s : State) : State :=
  { s with reduction.decisions := s.reduction.decisions.map fun d =>
      if d.regions.any fun x => x.1 = h then { d with poisoned := true } else d }

/-- Whether a region is SEALED, or was and is being verified after RESTART (R640, R647). -/
def Region.bound (r : Region) : Bool := r.kind = .isSealed || r.resealing

/-- POISON-seen of a region; on a SEALED one it reaches its decisions (R633, R648). -/
def seePoison (h : Nat) (s : State) : State :=
  match findRegion h s with
  | none => s
  | some r =>
    let s := storeRegion { r with poisonSeen := true } s
    if r.bound then poisonDecisions h s else s

/-- An uncorrectable line (R629, R633): on the poison list and counted; in a SEALED region it is seen and journalled. -/
def poisonLine (line : Nat) (s : State) : State :=
  let lines := sortBy (· ≤ ·) (line :: s.loft.poisonLines.filter (· != line))
  let s := errorClass 7 (count (cLoft (cartOf line) 5) { s with loft.poisonLines := lines })
  match regionOf line 64 s with
  | none => s
  | some r =>
    if r.bound then journalRegion { r with poisonSeen := true } 3 2 line (seePoison r.handle s) else s

/-- Bytes of a range as a reader sees them: 0 in a poisoned line (R630). -/
def readLoft (a n : Nat) (s : State) : List Byte :=
  (List.range n).map fun i =>
    if s.loft.poisonLines.contains ((a + i) / 64 * 64) then 0 else readByte (a + i) s.loft.cells

/-! ### Requests (R602-R608) -/

/-- The response frame (R603): LOFT_RD_DATA or LOFT_WR_ACK, built on the slate that serves the block. -/
def respond (p block : Nat) (write : Bool) (h : FrameHeader) (data : List Byte) (poison : Bool) (s : State) : State :=
  let cls := h.cls.toNat % 8
  sendTray (originFrame ((loftSite block s).getD ((commandSlate s).getD 0)) p cls .loftResponse
    (trayHeader cls (if write then 0x05 else 0x03) (bit poison) data.length h.srcEndpoint.toNat h.tag.toNat
      h.address.toNat 0) data) s

/-- Whether R604 admits a request, and the region it lies in. -/
def loftAdmits (write : Bool) (a n : Nat) (s : State) : Option Region :=
  if loftSize s ≤ a ∨ n = 0 ∨ 4096 < n ∨ 4096 < a % 4096 + n ∨ loftCartFaulted (cartOf a) s then none
  else match regionOf a n s with
    | some r => if write && r.kind ≠ .working then none else some r
    | none => none

/-- Whether two requests come from one input and class and go to one Loft block: they are answered in order (R605). -/
def LoftRequest.inOrder (r q : LoftRequest) : Bool :=
  r.port = q.port && r.header.cls.toNat % 8 = q.header.cls.toNat % 8 && r.block = q.block

/-- A request is answered with L = 0 and POISON, nothing read or written (R604, R642). -/
def answerPoison (r : LoftRequest) (s : State) : State :=
  respond r.port r.block r.write r.header [] true
    (returnCredits r.port (r.header.cls.toNat % 8) (creditsOf r.header.length.toNat) s)

/-- A request reaches its Loft block: it is accepted, and names its region, or is refused, its answer not before those of
the requests in order before it (R604, R605). -/
def loftAccept (r : LoftRequest) (s : State) : State :=
  match loftAdmits r.write r.address r.length s with
  | none =>
    let s := count (cLoft r.block 7) s
    if s.loft.requests.any r.inOrder then { s with loft.requests := s.loft.requests ++ [{ r with refused := true }] }
    else answerPoison r s
  | some g => { s with loft.requests := s.loft.requests ++ [{ r with handle := g.handle }] }

/-- Entries of the crossing queue that a request takes: its header and, of a write, its payload. -/
def requestEntries (r : LoftRequest) : Nat := Crossing.fabToLoft.entries (64 + r.header.length.toNat)

/-- Entries that a Loft block's crossing queue holds. -/
def loftLoad (block : Nat) (s : State) : Nat :=
  ((s.loft.requests.filter fun r => r.block = block).map requestEntries).sum

/-- Whether a request finds room in the crossing queue to its Loft block (Table 3.2). -/
def loftRoom (r : LoftRequest) (s : State) : Bool :=
  decide (loftLoad r.block s + requestEntries r ≤ Crossing.fabToLoft.depth)

/-- A request arrives on its slate, where it waits behind those that the full crossing queue holds back (Table 3.2,
R138). -/
def loftIn (write : Bool) (p : Nat) (h : FrameHeader) (payload : List Byte) (s : State) : State :=
  let a := h.address.toNat
  let block := cartOf a
  let r : LoftRequest :=
    { block, write, port := p, header := h, address := a, length := if write then payload.length else h.aux.toNat
      data := payload, handle := 0, forced := false, lost := false }
  let s := count (cLoft block (if write then 2 else 1)) s
  if loftRoom r s && !(s.loft.waiting.any fun w => w.block = block) then loftAccept r s
  else { s with loft.waiting := s.loft.waiting ++ [r] }

/-- Requests that wait in the slate reach their Loft block, in order, as far as there is room; each is judged only now
(R646). -/
def pumpLoft (block : Nat) : Nat → State → State
  | 0, s => s
  | n + 1, s =>
    match s.loft.waiting.find? fun w => w.block = block with
    | none => s
    | some r =>
      if loftRoom r s then pumpLoft block n (loftAccept r { s with loft.waiting := s.loft.waiting.erase r }) else s

/-- Every Loft block takes what it has room for. -/
def pumpAll (s : State) : State := forEach (List.range 32) (fun n t => pumpLoft n t.loft.waiting.length t) s

/-- Whether a write covers a line wholly. -/
def covers (a n line : Nat) : Bool := a ≤ line && line + 64 ≤ a + n

/-- A read completes (R603, R625, R630, R648); one whose region was freed by force has its data since then. -/
def finishRead (r : LoftRequest) (s : State) : State :=
  let bad := (linesOf r.address r.length).any fun l => s.loft.poisonLines.contains l
  let data := if r.lost then zs r.length else if r.forced then r.data else readLoft r.address r.length s
  let s := if bad then count (cLoft r.block 6) s else s
  respond r.port r.block false r.header data (bad || r.forced || r.lost) (countBy (cLoft r.block 3) r.length s)

/-- A write completes (R606, R607, R625, R631). -/
def finishWrite (r : LoftRequest) (s : State) : State :=
  let lines := linesOf r.address r.length
  let whole := lines.filter fun l => covers r.address r.length l
  let s := if whole.length = lines.length then s else count (cLoft r.block 9) s
  if r.forced || r.lost then respond r.port r.block true r.header [] true s
  else
    let left := s.loft.poisonLines.filter fun l => !whole.contains l
    let bad := lines.any fun l => left.contains l
    respond r.port r.block true r.header [] bad
      { s with loft := { s.loft with cells := writeBytes r.address r.data s.loft.cells, poisonLines := left } }

/-- Refused requests with none in order before them left are answered; the others stay (R605). -/
def answerRefused : List LoftRequest → List LoftRequest → State → State
  | kept, [], s => { s with loft.requests := kept }
  | kept, r :: rest, s =>
    if r.refused && !kept.any r.inOrder then answerRefused kept rest (answerPoison r s)
    else answerRefused (kept ++ [r]) rest s

/-- The oldest request that a Loft block has accepted completes with what its ECC found (R605, R628, R629). -/
def accessDone (block : Nat) (ecc : EccResult) (s : State) : State :=
  match s.loft.requests.find? fun r => r.block = block && !r.refused with
  | none => s
  | some r =>
    let s := match ecc with
      | .clean => s
      | .corrected => count (cLoft block 4) s
      | .uncorrectable line => poisonLine line s
    let s := { s with loft.requests := s.loft.requests.erase r }
    let s := returnCredits r.port (r.header.cls.toNat % 8) (creditsOf r.header.length.toNat) s
    let s := if r.write then finishWrite r s else finishRead r s
    pumpLoft block s.loft.waiting.length (answerRefused [] s.loft.requests s)

/-! ### Allocation (R611-R613) -/

/-- Whether a range is free of regions. -/
def rangeFree (base size : Nat) (s : State) : Bool :=
  s.loft.regions.all fun r => base + size ≤ r.base || r.base + r.size ≤ base

/-- The lowest free base that is a multiple of 128 KiB. -/
def freeBase (size : Nat) (s : State) : Option Nat :=
  let bases := (0 :: s.loft.regions.map fun r => (r.base + r.size + 131071) / 131072 * 131072).filter fun b =>
    b + size ≤ loftSize s && rangeFree b size s
  bases.foldl (fun best b => match best with | none => some b | some x => some (min x b)) none

/-- Clears a range before it is allocated: zero bytes, no poison (R611, R627). -/
def clearRange (base size : Nat) (s : State) : State :=
  { s with loft := { s.loft with
      cells := zeroRange base size s.loft.cells
      poisonLines := s.loft.poisonLines.filter fun l => !(base ≤ l && l < base + size) } }

/-! ### Seals and frees -/

/-- The digest of a region's content (R617). -/
def regionDigest (r : Region) (s : State) : Digest := sha256 (readLoft r.base r.size s)

/-- The poisoned lines of a region. -/
def poisonedLines (r : Region) (s : State) : List Nat :=
  s.loft.poisonLines.filter fun l => r.base ≤ l && l < r.base + r.size

/-- Whether a region holds a poisoned line. -/
def regionPoisoned (r : Region) (s : State) : Bool := !(poisonedLines r s).isEmpty

/-- The slate whose digest engine works for a Loft block: its own or the nearest enabled (R618, Table 9.4). -/
def digestSite (block : Nat) (s : State) : Nat :=
  let at_ := (loftSite block s).getD 0
  ((nearestFirst at_ ((List.range 36).filter fun n => forwards n s && engineOn n 2 s) s).head?).getD at_

def isSealOp (h : Nat) : OpKind → Bool
  | .seal k => k = h
  | _ => false

/-- A forced free marks every open decision that names the region (R626). -/
def forceDecisions (h : Nat) (s : State) : State :=
  s.reduction.decisions.foldl (fun t d =>
    match d.regions.findIdx? fun x => x.1 = h with
    | none => t
    | some i =>
      let ds := d.regions.map Prod.snd
      journalWafer (.decision d.id 2 ds.length i (sha256 (ds.flatMap digestBytes)) 0 0)
        { t with reduction.decisions := t.reduction.decisions.map fun x =>
            if x.id = d.id then { x with forced := true, regions := x.regions.map fun y =>
              if y.1 = h then (0, y.2) else y } else x }) s

/-- The completion of a replay (Table 6.11). -/
def replayPayload (r : Replay) : List Byte :=
  le 4 r.id ++ le 2 r.outcomes.length ++ zs 2 ++ r.outcomes.flatMap fun o => le 8 o.1 ++ le 1 o.2 ++ zs 7

def isReplayOp (id : Nat) : OpKind → Bool
  | .replay k => k = id
  | _ => false

/-- A replay ends: collectives left unrun report NOT_RUN (R360, R734). `state` is 1 DONE or 2 CANCELLED. -/
def endReplay (id state : Nat) (s : State) : State :=
  match s.journal.replays.find? fun r => r.id = id && r.state = 0 with
  | none => s
  | some r =>
    let r := { r with
      state := state, plan := []
      outcomes := r.outcomes ++ r.plan.map fun c => (c.1.collective, 3) }
    finishAll (isReplayOp id) stOk 0 0 (replayPayload r)
      { s with journal.replays := s.journal.replays.map fun x => if x.id = id then r else x }

/-- A forced free, or the loss of the rail, stops a replay that reads a region (R734). -/
def stopReplays (h : Nat) (s : State) : State :=
  (s.journal.replays.filter fun r => r.state = 0 && (r.input = h || r.regions.contains h)).foldl
    (fun t r => endReplay r.id 1 t) s

/-- The accepted requests of a region at its forced free: each read takes the data that it completes with, after the
writes accepted before it (R625). What those writes put into memory is nobody's until the space is zero-filled (R627). -/
def forceRequests (h : Nat) : List LoftRequest → State → List LoftRequest
  | [], _ => []
  | q :: rest, s =>
    if q.handle ≠ h then q :: forceRequests h rest s
    else if q.write then
      { q with forced := true } :: forceRequests h rest { s with loft.cells := writeBytes q.address q.data s.loft.cells }
    else { q with forced := true, data := readLoft q.address q.length s } :: forceRequests h rest s

/-- A region leaves the map (R622, R623, R625, R626). -/
def freeRegion (r : Region) (force : Bool) (s : State) : State :=
  let s := journalRegion r (if force then 2 else 1) r.kind.code 0 s
  let s := { s with loft := { s.loft with
    regions := s.loft.regions.filter fun x => x.handle != r.handle
    requests := forceRequests r.handle s.loft.requests s } }
  if force then stopReplays r.handle (forceDecisions r.handle s) else s

/-- The Loft rail goes off (R642): requests complete with L = 0 and POISON, seals end FAULTED, every
region is removed as by a forced free, and the requests that waited are refused (R604). -/
def loftRailLost (s : State) : State :=
  let s := s.loft.requests.foldl (fun t r => answerPoison r t) s
  let s := { s with loft.requests := [] }
  let s := s.loft.regions.foldl (fun t r => freeRegion r true t) s
  let s := finishAll (fun k => match k with | .seal _ => true | _ => false) stFaulted rUnit 0xFFFF [] s
  pumpAll { s with loft := { s.loft with cells := [], poisonLines := [], seals := [] }, power.loftReady := false }

/-- A Loft cartridge fails (R648). -/
def loftCartLost (n : Nat) (s : State) : State :=
  let s := (s.loft.regions.filter fun r => n * 4096 < r.size).foldl (fun t r => seePoison r.handle t) s
  { s with loft.requests := s.loft.requests.map fun q => if q.block = n then { q with lost := true } else q }

/-! ### What the Batten commands of Table 6.10 do -/

/-- A region entry (R351). -/
def regionEntry (r : Region) (s : State) : List Byte :=
  le 4 r.handle ++ le 1 r.kind.code ++ le 1 (bit r.poisonSeen) ++ zs 2 ++ le 8 r.base ++ le 8 r.size ++
    le 4 (refCount r.handle s) ++ zs 4 ++ digestBytes (if r.kind = .isSealed then r.digest else 0)

def regionAllocRun (p : Packet) (s : State) : State × Ans :=
  let size := field p.body 0 8
  if !loftRail s || !s.power.loftReady then (s, refuse stFaulted rUnit 0xFFFF)
  else if 16384 ≤ s.loft.regions.length ∨ 2 ^ 32 ≤ s.loft.nextHandle then (s, refuse stBusy rNoSpace 0)
  else match freeBase size s with
    | none => (s, refuse stBusy rNoSpace 0)
    | some base =>
      let h := s.loft.nextHandle
      let r : Region := { handle := h, kind := .working, base, size, digest := 0, poisonSeen := false, resealing := false }
      let s := clearRange base size s
      ({ s with loft := { s.loft with regions := s.loft.regions ++ [r], nextHandle := h + 1 } },
        ok (le 4 h ++ zs 4 ++ le 8 base))

def regionInfoRun (p : Packet) (s : State) : State × Ans :=
  match findRegion (field p.body 0 4) s with
  | none => (s, refuse stRange rNotFound 0)
  | some r => (s, ok (regionEntry r s))

/-- The largest payload of a reply on a path (Table 5.4): the packet less header, status block and CRC. -/
def replyRoom (path : Path) : Nat :=
  (match path with
    | .management _ => 1048612
    | .inBand _ _ => 512
    | .ridge _ => 65572
    | .finial => 4132) - 44

/-- A list reply (R326): whole entries that fit after a head of `fixed` bytes, and whether more exist. -/
def listReply (path : Path) (fixed size most : Nat) (xs : List (List Byte)) : List (List Byte) × Bool :=
  let n := min most ((replyRoom path - fixed) / size)
  (xs.take n, n < xs.length)

def regionListRun (p : Packet) (s : State) : State × Ans :=
  let from_ := field p.body 0 4
  let rs := sortBy (fun a b => a.handle ≤ b.handle) (s.loft.regions.filter fun r => from_ ≤ r.handle)
  let (es, more) := listReply p.path 8 64 (field p.body 4 2) (rs.map fun r => regionEntry r s)
  (s, ok (le 2 es.length ++ le 1 (bit more) ++ zs 5 ++ es.flatten))

def regionFindRun (p : Packet) (s : State) : State × Ans :=
  let d := digestOf (sub p.body 0 32)
  let rs := s.loft.regions.filter fun r => r.kind = .isSealed && r.digest = d
  match rs.foldl (fun best r => match best with
    | none => some r.handle
    | some h => some (min h r.handle)) none with
  | none => (s, refuse stRange rNotFound 0)
  | some h => (s, ok (le 4 h ++ zs 4))

def regionSealRun (p : Packet) (s : State) : State × Ans :=
  match findRegion (field p.body 0 4) s with
  | none => (s, refuse stRange rNotFound 0)
  | some r =>
    if r.kind ≠ .working then (s, refuse stPrecond rNotWorking 0)
    else if refCount r.handle s ≠ 0 then (s, refuse stBusy rRefcount (sat 16 (refCount r.handle s)))
    else
      let s := storeRegion { r with kind := .sealing } s
      (startOp (.seal r.handle) p 0x58 { s with loft.seals := s.loft.seals ++ [r.handle] }, .accept [])

def regionFreeRun (p : Packet) (s : State) : State × Ans :=
  match findRegion (field p.body 0 4) s with
  | none => (s, refuse stRange rNotFound 0)
  | some r =>
    let force := decide (field p.body 4 1 % 2 = 1)
    let n := refCount r.handle s
    if r.kind = .sealing || (!force && n ≠ 0) then (s, refuse stBusy rRefcount (sat 16 n))
    else (freeRegion r force s, ok [])

/-! ### Events -/

/-- LOFT_ACCESS_DONE. -/
def execLoftAccessDone (block : Nat) (ecc : EccResult) (s : State) : Host.Outcome State Fault Refusal :=
  if waferLive s then .next (accessDone block ecc s) else .next s

/-- LOFT_SCRUB_PASS: the scrub pauses while the tray is frozen (R767). -/
def execLoftScrubPass (cartridge : Nat) (s : State) : Host.Outcome State Fault Refusal :=
  if waferLive s && !loftCartFaulted cartridge s then .next (count (cLoft cartridge 8) s) else .next s

/-- REGION_SEAL_DONE: the seal accepted first completes (R619, R620); lines poisoned by then are journalled as those of a
SEALED region (R647, R633; DEDUCED, entry 116). -/
def execRegionSealDone (s : State) : Host.Outcome State Fault Refusal :=
  match s.loft.seals with
  | [] => .next s
  | h :: rest =>
    match findRegion h s with
    | none => .next { s with loft.seals := rest }
    | some r =>
      if !waferLive s then .next s
      else
        let d := regionDigest r s
        let done : Region := { r with kind := .isSealed, digest := d, poisonSeen := r.poisonSeen || regionPoisoned r s }
        let s := storeRegion done { s with loft.seals := rest }
        let s := journalRegion done 0 1 0 (engineWork (digestSite (cartOf r.base) s) 2 r.size s)
        let s := (poisonedLines r s).foldl (fun t l => journalRegion done 3 2 l t) s
        .next (finishAll (isSealOp h) stOk 0 0 (digestBytes d) s)

/-- RESEAL_DONE: after RESTART a digest is computed again and compared (R640). -/
def execResealDone (handle : U32) (s : State) : Host.Outcome State Fault Refusal :=
  match findRegion handle.toNat s with
  | none => .next s
  | some r =>
    if !waferLive s || !r.resealing then .next s
    else
      let d := regionDigest r s
      let same := decide (d = r.digest)
      let done : Region := { r with kind := .isSealed, resealing := false, poisonSeen := r.poisonSeen || !same }
      let s := storeRegion done s
      let s := if same then s else poisonDecisions r.handle s
      .next (journalRegion { done with digest := d } (if same then 4 else 5) 1 0 s)

/-- LOFT_REINIT_DONE: the cartridges are initialised and zero-filled, and the Loft serves again (R642). -/
def execLoftReinitDone (s : State) : Host.Outcome State Fault Refusal :=
  if loftRail s && hasLoft s then .next { s with power.loftReady := true } else .next s

/-- SCRUB_UNCORRECTABLE: the scrub finds an uncorrectable line (R633, R647). -/
def execScrubUncorrectable (address : Nat) (s : State) : Host.Outcome State Fault Refusal :=
  if waferLive s && address < loftSize s && !loftCartFaulted (cartOf address) s then
    .next (poisonLine (address / 64 * 64) s)
  else .next s

end Sys2Proof.Machine
end

