-- ==== Sys2Proof/Machine/Reduction.lean ====
section
/-! DEFINITION. What the Batten commands of Table 6.9 do: groups, collectives, decisions, reeds and
engines. -/

namespace Sys2Proof.Machine

/-! ### Groups (R534-R537, R345) -/

/-- The members of a GROUP_DEFINE body. -/
def groupMembers (b : List Byte) : List (Nat × Nat) :=
  (List.range (field b 4 2)).map fun i => (field b (16 + 4 * i) 2, field b (18 + 4 * i) 2)

/-- The first rank whose member repeats a pair or names a port that the tray does not have (R534, R535). -/
def badMember (ms : List (Nat × Nat)) (s : State) : Option Nat :=
  (List.range ms.length).find? fun i =>
    match ms[i]? with
    | some m => (ms.take i).contains m || !portFitted m.1 s
    | none => false

/-- The GROUP record's body (Table 12.3, R683). -/
def groupBody (g : Group) (event : Nat) : RecordBody :=
  .group g.id g.members.length event (bit g.powerHeavy) g.stepW
    (sha256 (g.members.flatMap fun m => le 2 m.1 ++ le 2 m.2)) (g.members.take 16)

/-- Journals a head record and its continuations; CONTINUED is set on every record that another follows
(R682, R743). -/
def journalChain (builder : Nat) : List RecordBody → State → State
  | [], s => s
  | [b], s => journalWith b builder 0 s
  | b :: rest, s => journalChain builder rest (journalWith b builder 64 s)

/-- GROUP_MEMBERS continuations: 24 members each, from rank 16 on. -/
def memberParts (g : Group) : List RecordBody :=
  (List.range ((g.members.length - 16 + 23) / 24)).map fun i =>
    let ms := (g.members.drop (16 + 24 * i)).take 24
    .groupMembers ms.length (16 + 24 * i) g.id ms

def groupDefineRun (p : Packet) (s : State) : State × Ans :=
  let b := p.body
  let ms := groupMembers b
  let id := field b 0 4
  match badMember ms s with
  | some r => (s, refuse stRange rEntry r)
  | none =>
    if s.reduction.groups.any fun g => g.id = id then (s, refuse stPrecond rExists 0)
    else if 4096 ≤ s.reduction.groups.length then (s, refuse stBusy rGroups 0)
    else
      let g : Group := { id, members := ms, powerHeavy := decide (field b 6 1 % 2 = 1), stepW := field b 8 4, record := 0 }
      (journalChain (commandBuilder p.path s) (groupBody g 0 :: memberParts g)
        { s with reduction.groups := s.reduction.groups ++ [g] }, ok [])

def groupDeleteRun (p : Packet) (s : State) : State × Ans :=
  let id := field p.body 0 4
  match s.reduction.groups.find? fun g => g.id = id with
  | none => (s, refuse stRange rNotFound 0)
  | some g =>
    let n := (s.reduction.collectives.filter fun c => c.group.id = id).length
    if n ≠ 0 then (s, refuse stBusy rInFlight (sat 16 n))
    else (journalCommand p (groupBody g 1)
      { s with reduction.groups := s.reduction.groups.filter fun x => x.id != id }, ok [])

/-! ### Collectives -/

/-- Whether the tally state forbids new collectives (Table 3.4). -/
def tallyForbids (s : State) : Bool :=
  match s.tally.state with
  | .acquiring => true
  | .unlocked => isLedger s
  | _ => false

/-- Journal acceptance of check 9 (Table 1.4, R721, R723): the LEDGER_HALT detail. -/
def ledgerHalt (s : State) : Option Nat :=
  if !isLedger s then none
  else if !bankAccepts s then some rBanks
  else if s.journal.halted then some rFull else none

/-- The collective that a COLLECTIVE_OPEN body describes, before its yealms are assigned. -/
def describeCollective (b : List Byte) (g : Group) (s : State) : Collective :=
  { id := field b 0 8, decision := field b 8 8, group := g, elements := field b 20 4
    op := ReduceOp.ofCode (field b 24 1), input := Format.ofCode (field b 25 1)
    output := Format.ofCode (field b 26 1), canonical := decide (field b 27 1 % 2 = 1), admission := tallyNat s
    yealms := [], depth := param pDepth s, home := 0 }

/-- Checks 8 to 10 of an admission (R541, R543, R564, R714, R832): the refusal, or the yealm list. -/
def admission (c : Collective) (s : State) : Ans ⊕ List (Nat × Nat) :=
  let n := s.reduction.collectives.length
  if s.reduction.collectives.any fun d => d.id = c.id then .inl (refuse stPrecond rExists 0)
  else if tallyForbids s then .inl (refuse stPrecond rTally s.tally.state.code)
  else if s.power.powerFail || s.power.quiesced then .inl (refusePhase s)
  else match ledgerHalt s with
    | some d => .inl (refuse stLedgerHalt d 0)
    | none =>
      if c.group.powerHeavy && decide (param pHold s * 1048576 < c.elements * c.output.bytes) then
        .inl (refuse stBusy rNoSpace 0)
      else if 65536 ≤ n then .inl (refuse stBusy rInFlight (sat 16 n))
      else match assignYealms c.group c.elements c.op c.canonical c.input s with
        | [] => .inl (refuse stBusy rInFlight (sat 16 n))
        | ys => .inr ys

def collectiveOpenRun (p : Packet) (s : State) : State × Ans :=
  let b := p.body
  match s.reduction.groups.find? fun g => g.id = field b 16 4 with
  | none => (s, refuse stRange rNotFound 0)
  | some g =>
    if field b 8 8 ≠ 0 && !(s.reduction.decisions.any fun d => d.id = field b 8 8) then
      (s, refuse stRange rNotFound 0)
    else
      let c := describeCollective b g s
      match admission c s with
      | .inl a => (s, a)
      | .inr ys =>
        let c := { c with yealms := ys, home := (ys.head?.map Prod.fst).getD 0 }
        let s := startOp (.collective c.id) p 0x42
          { s with reduction.collectives := s.reduction.collectives ++ [c] }
        (matchTrigger c.id 0 s, .accept (le 2 ys.length ++ zs 6))

/-- After the ACCEPTED reply every ingress recognises the ID (R548); a contribution that was flushed before it ends the
collective (R489). -/
def collectiveOpenAfter (p : Packet) (s : State) : State :=
  let id := field p.body 0 8
  takeEarly id (takeFlushed id s)

/-- The state byte of COLLECTIVE_STATUS. -/
def CollectiveState.code : CollectiveState → Nat
  | .waiting => 0 | .reducing => 1 | .rampWait => 2 | .released => 3 | .aborted => 4

def collectiveStatusRun (p : Packet) (s : State) : State × Ans :=
  let id := field p.body 0 8
  match (s.reduction.collectives ++ s.reduction.done).find? fun c => c.id = id with
  | none => (s, refuse stRange rNotFound 0)
  | some c => (s, ok (le 1 c.state.code ++ le 1 c.flags.toNat ++ le 2 c.classes.length ++ zs 4 ++ le 8 c.admission))

/-- A release that is due at this tally tick stands, and the cancel meets it (R377; DEDUCED, entry 106). -/
def collectiveCancelRun (p : Packet) (s : State) : State × Ans :=
  let id := field p.body 0 8
  let s := settleResults (rampLoop s.reduction.rampQueue.length s)
  if (findCollective id s).isSome then (abortCollective id 1 0 0 s, ok [])
  else if s.reduction.done.any fun c => c.id = id && c.state = .released then (s, refuse stPrecond rReleased 0)
  else (s, refuse stRange rNotFound 0)

/-! ### Decisions -/

/-- The sealed region with a handle, its digest and whether it carries poison. -/
def sealedRegion (h : Nat) (s : State) : Option Region :=
  s.loft.regions.find? fun r => r.handle = h && r.kind = .isSealed

/-- The DECISION record's body (R683): event 0 OPEN, 1 CLOSE, 2 REGION_FORCED. -/
def decisionBody (d : Decision) (event forced : Nat) : RecordBody :=
  let ds := d.regions.map Prod.snd
  .decision d.id event ds.length forced (sha256 (ds.flatMap digestBytes))
    (if event = 0 then ds.getD 0 0 else 0) (if event = 0 then ds.getD 1 0 else 0)

/-- DECISION_REGIONS continuations: three digests each, from index 2 on. -/
def regionParts (d : Decision) : List RecordBody :=
  (List.range ((d.regions.length - 2 + 2) / 3)).map fun i =>
    let ds := ((d.regions.map Prod.snd).drop (2 + 3 * i)).take 3
    .decisionRegions ds.length (2 + 3 * i) d.id ds

def decisionOpenRun (p : Packet) (s : State) : State × Ans :=
  let b := p.body
  let id := field b 0 8
  let hs := (List.range (field b 8 2)).map fun i => field b (16 + 4 * i) 4
  if hs.any fun h => !(s.loft.regions.any fun r => r.handle = h) then (s, refuse stRange rNotFound 0)
  else if s.reduction.decisions.any fun d => d.id = id then (s, refuse stPrecond rExists 0)
  else if hs.any fun h => (sealedRegion h s).isNone then (s, refuse stPrecond rNotSealed 0)
  else
    let rs := hs.filterMap fun h => sealedRegion h s
    let d : Decision := { id, regions := rs.map fun r => (r.handle, r.digest), forced := false
                          poisoned := rs.any Region.poisonSeen, record := 0 }
    (journalChain (commandBuilder p.path s) (decisionBody d 0 0 :: regionParts d)
      { s with reduction.decisions := s.reduction.decisions ++ [d] }, ok [])

def decisionCloseRun (p : Packet) (s : State) : State × Ans :=
  let id := field p.body 0 8
  match s.reduction.decisions.find? fun d => d.id = id with
  | none => (s, refuse stRange rNotFound 0)
  | some d =>
    let n := (s.reduction.collectives.filter fun c => c.decision = id).length
    if n ≠ 0 then (s, refuse stPrecond rInFlight (sat 16 n))
    else (journalCommand p (decisionBody d 1 0)
      { s with reduction.decisions := s.reduction.decisions.filter fun x => x.id != id }, ok [])

/-! ### Reeds and engines -/

/-- ABORT ends the site's collectives; a GRACE that runs reports their number, and the ABORT then reports 0
(R572, R574). -/
def reedDisableRun (p : Packet) (s : State) : State × Ans :=
  let n := p.inst.toNat
  let s := setSite n (fun t => { t with reedsGrace := true }) s
  (startOp (.reedDisable n 0) p 0x48 s, .accept [])

/-- What follows the answer: the collectives of the site end under ABORT, and the command completes once
none remains. -/
def reedDisableAfter (p : Packet) (s : State) : State :=
  let n := p.inst.toNat
  let mine (c : Collective) : Bool := c.yealms.any fun y => y.1 = n
  if field p.body 0 1 = 1 then
    let k := (s.reduction.collectives.filter mine).length
    let first := (opsOf (isReedOp n) s).head?
    let mark (o : Op) : Op := if first = some o then { o with kind := .reedDisable n k } else o
    settleReeds (abortWhere mine 4 rUnit n { s with batten.ops := s.batten.ops.map mark })
  else settleReeds s

/-- REED_ENABLE while a REED_DISABLE runs ends that disable, which completes ABORTED. -/
def reedEnableRun (p : Packet) (s : State) : State × Ans :=
  let n := p.inst.toNat
  (setSite n (fun t => { t with reedsDisabled := false, reedsGrace := false })
    (finishAll (isReedOp n) stAborted 0 0 [] s), ok [])

/-- Changes one engine of a site. -/
def setEngine (inst : Nat) (f : Engine → Engine) (s : State) : State :=
  setSite (inst / 8) (fun t => { t with engines := t.engines.modify (inst % 8) f }) s

/-- The engine with an ID. -/
def engine (inst : Nat) (s : State) : Engine := (site (inst / 8) s).engines.getD (inst % 8) {}

def isEngineOp (e : Nat) : OpKind → Bool
  | .engineDisable k => k = e
  | _ => false

def engineDisableRun (p : Packet) (s : State) : State × Ans :=
  let e := p.inst.toNat
  (startOp (.engineDisable e) p 0x4A (setEngine e (fun x => { x with disabled := true }) s), .accept [])

/-- Operations already queued complete, and the command completes with their number (R580). -/
def engineDisableAfter (p : Packet) (s : State) : State :=
  let e := p.inst.toNat
  let k := (engine e s).queued
  finishAll (isEngineOp e) stOk 0 0 (le 4 k ++ zs 4) (setEngine e (fun x => { x with queued := 0 }) s)

def engineEnableRun (p : Packet) (s : State) : State × Ans :=
  let e := p.inst.toNat
  (setEngine e (fun x => { x with disabled := false }) s, ok [])

/-! ### Events -/

/-- CONTRIB_EARLY_HOLD_EXPIRY: the port's oldest unrecognised frame is discarded (R552). -/
def execContribEarlyHoldExpiry (port : Nat) (s : State) : Host.Outcome State Fault Refusal :=
  if !waferLive s then .next s
  else match s.reduction.early.find? fun e => e.port = port with
    | none => .next s
    | some e => .next (count (cReed e.site 2)
        (returnCredits e.port (e.header.cls.toNat % 8) (creditsOf e.payload.length)
          { s with reduction.early := s.reduction.early.erase e }))

/-- COLLECTIVE_TIMEOUT: reed.timeout_ms of tally time has passed; 0 disables it (R570, Table 9.3). -/
def execCollectiveTimeout (collective : U64) (s : State) : Host.Outcome State Fault Refusal :=
  match findCollective collective.toNat s with
  | none => .next s
  | some c =>
    if !waferLive s || param pTimeout s = 0 then .next s
    else
      let s := advanceTo (c.admission + param pTimeout s * tkPerMs) s
      .next (abortCollective c.id 9 0 0 (count (cReed c.home 9) s))

/-- RAMP_RELEASE: the release check of the governor (R119-R121); none while frozen (R128). -/
def execRampRelease (s : State) : Host.Outcome State Fault Refusal :=
  if waferLive s then .next (rampLoop s.reduction.rampQueue.length s) else .next s

/-- LEND_START: a free site gates its clocks on once reed.lend is 1 and the headroom is confirmed (R576). -/
def execLendStart (site_ : Nat) (s : State) : Host.Outcome State Fault Refusal :=
  if waferLive s && param pLend s = 1 && !isLedger s && (site site_ s).state = .idle && isFree site_ s && !rolling s && hasReeds s then
    .next (setSite site_ (fun t => { t with state := .lending }) s)
  else .next s

end Sys2Proof.Machine
end

