-- ==== Sys2Proof/Machine/Journal.lean ====
section
/-! DEFINITION. The Thatch journal (12): durability, segments and their images, banks, fill and halt, export
and acknowledgement, and replay. -/

namespace Sys2Proof.Machine

/-! ### Segment images (R692-R696) -/

/-- The records of segment `n` that are durable. -/
def segmentRecords (n : Nat) (s : State) : List Record :=
  s.journal.durable.filter fun r => 4096 * (n - 1) < r.number && r.number ≤ 4096 * n

/-- The tray serial number, 16 bytes. -/
def serial16 (s : State) : List Byte := padTo 16 s.ident.serial

/-- Image bytes 0-127 (Table 12.4). -/
def segmentHeader (g : Segment) (s : State) : List Byte :=
  let rs := segmentRecords g.number s
  let first := rs.head?
  let last := rs.getLast?
  ascii "NVTHATCH" ++ le 2 1 ++ le 2 128 ++ le 4 4096 ++ le 8 g.number ++ le 8 (4096 * (g.number - 1) + 1) ++
    serial16 s ++ digestBytes g.prev ++ le 8 ((first.map Record.tally).getD 0) ++
    le 8 ((last.map Record.tally).getD 0) ++ le 8 ((first.map Record.ptpNs).getD 0) ++
    le 8 ((last.map Record.ptpNs).getD 0) ++ zs 16

/-- Image bytes 0-786,559. -/
def segmentBody (g : Segment) (s : State) : List Byte :=
  segmentHeader g s ++ (segmentRecords g.number s).flatMap recordBytes

/-- A big-endian field of 48 bytes. -/
def be48 (v : BitVec 384) : List Byte := (le 48 v.toNat).reverse

/-- The seal (Table 12.5); the key ID is the model's free value. -/
def segmentSeal (g : Segment) (s : State) : List Byte :=
  digestBytes g.digest ++ le 8 g.number ++ serial16 s ++ le 8 g.sealTally ++ be48 g.sigR ++ be48 g.sigS ++
    (List.range 16).map Config.keyByte

/-- The uncompressed image of a sealed segment. -/
def segmentImage (g : Segment) (s : State) : List Byte := segmentBody g s ++ segmentSeal g s

/-- A compressed export (R696). -/
def compressedImage (image : List Byte) : List Byte :=
  let stream := Config.deflate image
  ascii "NVTZ" ++ le 4 image.length ++ le 4 (crc32c image).toNat ++ le 4 stream.length ++ stream

def findSegment (n : Nat) (s : State) : Option Segment := s.journal.segments.find? fun g => g.number = n

def storeSegment (g : Segment) (s : State) : State :=
  { s with journal.segments := s.journal.segments.map fun x => if x.number = g.number then g else x }

/-! ### Fill, halt and reclaim (R719-R723, R727) -/

/-- A CONTROL record of the journal itself: unit 4 (tray). -/
def journalEvent (event number : Nat) (s : State) : State := journalWafer (controlBody event 4 0 0 0 number s) s

/-- R720. -/
def settleWarning (s : State) : State :=
  let f := fill s
  if !s.journal.fillWarned && 90 ≤ f then journalEvent 8 0 { s with journal.fillWarned := true }
  else if s.journal.fillWarned && f < 88 then journalEvent 9 0 { s with journal.fillWarned := false }
  else s

/-- R721. A change to Open mode also ends the halt. -/
def settleHalt (s : State) : State :=
  let f := fill s
  if isLedger s && !s.journal.halted && 98 ≤ f then journalEvent 10 0 { s with journal.halted := true }
  else if s.journal.halted && (!isLedger s || f < 97) then journalEvent 11 0 { s with journal.halted := false }
  else s

/-- Once space returns, a MARK record gives the count and span of the records that went unwritten (R722). -/
def settleUnjournalled (s : State) : State :=
  if s.journal.unjournalled = 0 ∨ !buildsRecords s ∨ unjournalled s ∨ !bankAccepts s then s
  else
    let j := s.journal
    journalWafer (.mark 1 j.unjournalled 0 [] j.unjournalledFirst j.unjournalledLast)
      { s with journal := { s.journal with unjournalled := 0, unjournalledFirst := 0, unjournalledLast := 0 } }

/-- Whether an export is reading a segment (R738). -/
def isExportOf (n : Nat) : OpKind → Bool
  | .journalExport m _ => m = n
  | _ => false

/-- The oldest acknowledged segment leaves the media when the bank needs its space to keep 64 erased blocks ahead of the
write point (R707, R727, R738). -/
def reclaimOldest (s : State) : State :=
  let room := if s.journal.bankA.accepts then bankRecords s.journal.bankA else bankRecords s.journal.bankB
  let limit := room - 64 * blockRecords
  if s.journal.durable.length < limit then s
  else match s.journal.segments.find? fun g => g.acked && !g.reclaimed && !hasOp (isExportOf g.number) s with
    | none => s
    | some g => storeSegment { g with reclaimed := true }
        { s with journal.durable := s.journal.durable.filter fun r => 4096 * g.number < r.number || r.number ≤ 4096 * (g.number - 1) }

/-- What follows any change of the journal's fill or banks. -/
def settleJournal (s : State) : State :=
  settleUnjournalled (settleHalt (settleWarning (settleBuilding (reclaimOldest s))))

/-! ### Banks (R697-R703, R739, R740) -/

def isBankOp (n : Nat) : OpKind → Bool
  | .bankOnline m => m = n
  | _ => false

/-- Moves a bank to a state, with its CONTROL record (R700). -/
def bankTo (n : Nat) (st : BankState) (s : State) : State :=
  let old := (bank n s).state
  if old = st then s else journalBank n old st (setBank n (fun b => { b with state := st }) s)

/-- The segments that a bank lacks: unacknowledged ones, and the open one, with a record above its last
(R701). -/
def lacks (n : Nat) (s : State) : Nat :=
  let have_ := (bank n s).durable
  let top := (s.journal.durable.getLast?.map Record.number).getD 0
  (s.journal.segments.filter fun g => !g.acked && !g.reclaimed && have_ < 4096 * g.number).length +
    bit (decide (top % 4096 ≠ 0 ∧ have_ < top))

/-- Starts a resync of a bank behind the PRIMARY. -/
def startResync (n : Nat) (s : State) : State :=
  let k := lacks n s
  bankTo n .resyncing (setBank n (fun b => { b with resyncCopied := k }) s)

/-- A bank stops accepting; another accepting one becomes PRIMARY in its place. A resync that loses its
source or its target stops, and its command completes ABORTED (R700, R740). -/
def bankOffline (n : Nat) (s : State) : State :=
  let was := (bank n s).state
  let s := bankTo n .offline (finishAll (isBankOp n) stAborted 0 0 [] s)
  let o := 1 - n
  let s := if was = .primary && (bank o s).accepts then
      bankTo o .primary (finishAll (isBankOp o) stAborted 0 0 [] s) else s
  settleJournal s

/-- Sets a level counter (thatch.bad_blocks). -/
def setLevel (id v : Nat) (s : State) : State := { s with counters.live := put id v s.counters.live }

/-- A block is retired (R709); a bank whose bad blocks exceed 5 % fails. -/
def retireBlock (n : Nat) (s : State) : State :=
  let s := setBank n (fun b => { b with grownBad := b.grownBad + 1 }) s
  let b := bank n s
  let s := setLevel (cThatch n 0x20) (b.factoryBad + b.grownBad) s
  if bankBlocks * 5 < (b.factoryBad + b.grownBad) * 100 && b.accepts then
    bankOffline n (setBank n (fun b => { b with faulted := true }) s)
  else s

/-! ### The ring (R706, R707, R712, R715) -/

/-- The pages of a block (R706). -/
def blockPages : Nat := 1536

/-- The rated endurance of a block, in program and erase cycles (R712). -/
def ratedCycles : Nat := 50000

/-- The cycles of a block of the ring: one in every turn of it (R707, R712). -/
def Ring.cycles (r : Ring) (block : Nat) : Nat := r.turns + bit (decide (block ≤ r.block))

/-- The write point moves to the next block of a ring of `len` blocks that is not retired. -/
def Ring.nextBlock (len : Nat) : Nat → Ring → Ring
  | 0, r => r
  | fuel + 1, r =>
    let next := if r.block + 1 < len then { r with block := r.block + 1, page := 0, filled := 0 }
      else { r with block := 0, page := 0, filled := 0, turns := r.turns + 1 }
    if next.retired.contains next.block then next.nextBlock len fuel else next

def setRing (n : Nat) (f : Ring → Ring) (s : State) : State := setBank n (fun b => { b with ring := f b.ring }) s

/-- The block under the write point is full: it is retired when it has reached its endurance (R712), and writing goes on
in the next. -/
def leaveBlock (n : Nat) (s : State) : State :=
  let r := (bank n s).ring
  let worn := decide (ratedCycles ≤ r.cycles r.block)
  let s := if worn then retireBlock n (setRing n (fun r => { r with retired := r.block :: r.retired }) s) else s
  setRing n (fun x => x.nextBlock (ringBlocks (bank n s)) (x.retired.length + 1)) s

/-- The page at the write point is programmed and never written again: writing goes on in the next page. -/
def nextPage (n : Nat) (s : State) : State :=
  if (bank n s).ring.page + 1 < blockPages then setRing n (fun r => { r with page := r.page + 1, filled := 0 }) s
  else leaveBlock n s

/-- A page that is partly filled at power fail is programmed with its unused slots erased, and writing resumes on the
next (R715). -/
def closePage (n : Nat) (s : State) : State := if (bank n s).ring.filled = 0 then s else nextPage n s

/-- A record is programmed at the write point: 85 to a page. A segment's last record closes its page, and the seal page
follows it (R706; DEDUCED, entry 103). -/
def programRecord (n number : Nat) (s : State) : State :=
  let s := setRing n (fun r => { r with filled := r.filled + 1 }) s
  if number % 4096 = 0 then nextPage n (nextPage n s)
  else if (bank n s).ring.filled = 85 then nextPage n s else s

/-- Whether a bank has no place left for a record (R700, R707). -/
def bankFull (n : Nat) (s : State) : Bool := bankRecords (bank n s) ≤ s.journal.durable.length

/-! ### Durability (R690, R698) -/

/-- Applies to each bank that accepts records. -/
def onAccepting (f : Nat → State → State) (s : State) : State :=
  forEach [0, 1] (fun n t => if (bank n t).accepts then f n t else t) s

/-- In Ledger mode a bank that cannot place a record goes OFFLINE (R700); in Open mode the record would have gone
unwritten (R722). -/
def dropFull (s : State) : State :=
  if isLedger s then onAccepting (fun n t => if bankFull n t then bankOffline n t else t) s else s

/-- A record that has been programmed leaves the sequencer; a segment whose last record it is waits for its seal. -/
def takeDurable (r : Record) (s : State) : State :=
  let j := s.journal
  let seg : Segment := { number := r.number / 4096, signed := false, acked := false, lost := false, reclaimed := false
                         sealTally := 0, prev := 0, digest := 0, sigR := 0, sigS := 0 }
  let ends := r.number % 4096 = 0
  { s with journal := { j with
      durable := j.durable ++ [r], waiting := j.waiting.tail
      segments := if ends then j.segments ++ [seg] else j.segments
      openSince := if ends && j.waiting.tail.isEmpty then none else j.openSince } }

/-- The oldest waiting record is programmed on every accepting bank. -/
def makeDurable (s : State) : State :=
  match s.journal.waiting with
  | [] => s
  | r :: _ =>
    let s := dropFull s
    if !bankAccepts s then s
    else onAccepting (fun n t => programRecord n r.number (count (cThatch n 1) (setBank n (fun b =>
      if b.state = .resyncing then b else { b with durable := r.number }) t))) (takeDurable r s)

/-- Every waiting record becomes durable (R714). -/
def flushDurable (s : State) : State := (List.range s.journal.waiting.length).foldl (fun t _ => makeDurable t) s

/-- RECORD_DURABLE. The Thatch blocks go on programming while the tray is frozen (Table 13.4). -/
def execRecordDurable (s : State) : Host.Outcome State Fault Refusal :=
  if !s.power.banksMounted || s.journal.waiting.isEmpty then .next s
  else .next (settleJournal (makeDurable s))

/-- SEGMENT_SEAL_TIMEOUT: the open segment is filled with MARK PAD records (R693). -/
def execSegmentSealTimeout (s : State) : Host.Outcome State Fault Refusal :=
  let used := (s.journal.next - 1 + s.journal.frozenNotes.length) % 4096
  if !buildsRecords s || used = 0 || !bankAccepts s then .next s
  else
    let k := 4096 - used
    let s := onAccepting (fun n t => countBy (cThatch n 4) k t) s
    let t := tallyNat s
    .next { (List.range k).foldl (fun u _ => journalWafer (.mark 2 0 0 [] t t) u) s with journal.openSince := none }

/-- SEGMENT_SIGN_DONE: Finial signs the oldest sealed segment and retains the chain head (R691, R695). -/
def execSegmentSignDone (r s_ : BitVec 384) (s : State) : Host.Outcome State Fault Refusal :=
  if !s.referee.booted then .next s
  else match s.journal.segments.find? fun g => !g.signed with
    | none => .next s
    | some g =>
      let prev := if s.journal.head.segment + 1 = g.number then s.journal.head.segmentDigest else 0
      let g := { g with prev := prev }
      let g := { g with signed := true, sealTally := tallyNat s, sigR := r, sigS := s_, digest := sha256 (segmentBody g s) }
      let last := (segmentRecords g.number s).getLast?
      let head : ChainHead :=
        { segment := g.number, segmentDigest := g.digest, record := (last.map Record.number).getD 0
          recordHash := (last.map fun x => sha256 (recordBytes x)).getD 0 }
      let s := onAccepting (fun n t => count (cThatch n 2) t) s
      .next (storeSegment g { s with journal.head := head })

/-! ### Faults and resynchronisation of banks (R700-R703) -/

/-- BANK_FAULT. -/
def execBankFault (bank_ : Nat) (s : State) : Host.Outcome State Fault Refusal :=
  let b := bank bank_ s
  if b.state = .absent then .next s
  else
    let s := setBank bank_ (fun b => { b with faulted := true }) s
    if b.accepts then .next (bankOffline bank_ s) else .next s

/-- A resynchronised bank becomes SECONDARY, or PRIMARY where no other is (R701). -/
def resyncDone (n : Nat) (s : State) : State :=
  let k := (bank n s).resyncCopied
  let top := (s.journal.durable.getLast?.map Record.number).getD 0
  let st := if (bank (1 - n) s).state = .primary then BankState.secondary else .primary
  let s := bankTo n st (setBank n (fun b => { b with durable := top, resyncCopied := 0 }) s)
  finishAll (isBankOp n) stOk 0 0 (le 8 k) s

/-- BANK_RESYNC_DONE. -/
def execBankResyncDone (bank_ : Nat) (s : State) : Host.Outcome State Fault Refusal :=
  if waferLive s && (bank bank_ s).state = .resyncing then .next (settleJournal (resyncDone bank_ s)) else .next s

/-- THATCH_PATROL: one block read (R709-R711), also while the tray is frozen (Table 13.4). -/
def execThatchPatrol (bank_ : Nat) (read : NandRead) (s : State) : Host.Outcome State Fault Refusal :=
  if !s.power.banksMounted || !(bank bank_ s).accepts then .next s
  else match read with
    | .clean worst =>
      let s := countBy (cThatch bank_ 7) worst s
      .next (if param pRefreshBits s < worst then count (cThatch bank_ 0x0C) s else s)
    | .passComplete => .next (count (cThatch bank_ 0x0D) s)
    | .uncorrectable seg =>
      let s := errorClass 9 (count (cThatch bank_ 9) (countBy (cThatch bank_ 8) 7 s))
      let other := (bank (1 - bank_) s).accepts && (bank (1 - bank_) s).state ≠ .resyncing
      let s := retireBlock bank_ s
      match findSegment seg s with
      | none => .next s
      | some g =>
        if other || g.lost then .next s
        else .next (journalWafer (controlBody 7 (2 + bank_) 0 0 0 seg s) (storeSegment { g with lost := true } s))

/-! ### Mounting (R217, R703, R704, R716) -/

/-- Bank states after a mount (R703). -/
def mountStates (r : MountResult) (a b : Nat) (s : State) : BankState × BankState :=
  let okA := !r.aFaulted && thatchRail s
  let okB := s.ident.thatchB && !r.bFaulted && thatchRail s
  let offB := if s.ident.thatchB then BankState.offline else .absent
  match okA, okB with
  | true, true => if b ≤ a then (.primary, if b < a then .resyncing else .secondary) else (.resyncing, .primary)
  | true, false => (.primary, offB)
  | false, true => (.offline, .primary)
  | false, false => (.offline, offB)

/-- The chain after a mount: it continues from the last durable record that a bank holds, or from Finial's
retained head when both banks were replaced. -/
def mountChain (r : MountResult) (s : State) : State :=
  if r.replaced then
    { s with journal := { s.journal with
        durable := [], waiting := [], segments := [], next := s.journal.head.record + 1
        lastHash := s.journal.head.recordHash, openSince := none } }
  else
    let top := max r.aHighest r.bHighest
    let kept := s.journal.durable.filter fun x => x.number ≤ top || r.aHighest = 0 && r.bHighest = 0 && !r.tornDiscarded
    match kept.getLast? with
    | none => { s with journal := { s.journal with
        durable := kept, waiting := [], next := s.journal.head.record + 1, lastHash := s.journal.head.recordHash } }
    | some x => { s with journal := { s.journal with
        durable := kept, waiting := [], next := x.number + 1, lastHash := sha256 (recordBytes x) } }

/-- A mount's bank record number, at most what the chain holds. -/
def mounted (claimed : Nat) (s : State) : Nat := min claimed (s.journal.next - 1)

def mountBanks (r : MountResult) (s : State) : State :=
  let s := mountChain r s
  let a := mounted r.aHighest s
  let b := mounted r.bHighest s
  let (sa, sb) := mountStates r a b s
  let s := setBank 0 (fun x => { x with state := sa, faulted := r.aFaulted, durable := a, resyncCopied := 0 }) s
  let s := setBank 1 (fun x => { x with state := sb, faulted := r.bFaulted && s.ident.thatchB, durable := b
                                        resyncCopied := 0 }) s
  let s := setBank 0 (fun x => { x with resyncCopied := if sa = .resyncing then lacks 0 s else 0 }) s
  setBank 1 (fun x => { x with resyncCopied := if sb = .resyncing then lacks 1 s else 0 }) s

/-- The banks are unmounted as the sequencer's slates stop: what waits is programmed while a bank accepts
(R690), and what was held for want of a bank is lost (R717); at RESTART nothing more is programmed (R784). -/
def unmountBanks (program : Bool) (s : State) : State :=
  if !s.power.banksMounted then s
  else
    let s := if program then flushDurable s else s
    let held := !s.journal.waiting.isEmpty
    let last := s.journal.durable.getLast?
    let s := finishAll (fun k => match k with | .bankOnline _ => true | _ => false) stAborted 0 0 [] s
    { s with
      power.banksMounted := false
      power.boot.heldLost := s.power.boot.heldLost || held
      journal := { s.journal with
        waiting := []
        next := if held then (last.map fun x => x.number + 1).getD (s.journal.head.record + 1) else s.journal.next
        lastHash := if held then (last.map fun x => sha256 (recordBytes x)).getD s.journal.head.recordHash
          else s.journal.lastHash
        unjournalled := 0, unjournalledFirst := 0, unjournalledLast := 0 } }

/-! ### What the Batten commands of Table 6.11 do -/

/-- The last record written, and its digest. -/
def lastWritten (s : State) : Nat × Digest :=
  match s.journal.durable.getLast? with
  | some r => (r.number, sha256 (recordBytes r))
  | none => (s.journal.head.record, s.journal.head.recordHash)

/-- The oldest signed segment that is not acknowledged. -/
def oldestUnacked (s : State) : Option Nat :=
  (s.journal.segments.find? fun g => g.signed && !g.acked && !g.reclaimed).map Segment.number

def bankEntry (n : Nat) (s : State) : List Byte :=
  let b := bank n s
  let sealed_ := ((s.journal.segments.filter Segment.signed).getLast?.map Segment.number).getD s.journal.head.segment
  le 1 b.state.code ++ le 1 (sat 8 (bankFill b s)) ++ zs 2 ++ le 4 b.grownBad ++ le 8 sealed_ ++
    le 8 ((oldestUnacked s).getD 0)

def journalStatusRun (_p : Packet) (s : State) : State × Ans :=
  let (n, d) := lastWritten s
  (s, ok (bankEntry 0 s ++ bankEntry 1 s ++ le 8 n ++ digestBytes d))

def isExport : OpKind → Bool
  | .journalExport _ _ => true
  | _ => false

/-- The segment that a JOURNAL_EXPORT names, or its refusal (R724, R747). -/
def exportTarget (n : Nat) (s : State) : Nat ⊕ Ans :=
  let num := if n = 2 ^ 64 - 1 then oldestUnacked s else some n
  match num with
  | none => .inr (refuse stRange rNotFound 0)
  | some n =>
    match findSegment n s with
    | some g =>
      if g.reclaimed then .inr (refuse stRange rNotFound 0)
      else if !g.signed then .inr (refuse stPrecond rNotSealed 0) else .inl n
    | none =>
      if (s.journal.next - 1) % 4096 ≠ 0 && n = (s.journal.next - 1) / 4096 + 1 then .inr (refuse stPrecond rNotSealed 0)
      else .inr (refuse stRange rNotFound 0)

def journalExportRun (p : Packet) (s : State) : State × Ans :=
  match exportTarget (field p.body 0 8) s with
  | .inr a => (s, a)
  | .inl n =>
    let mine := (s.batten.ops.filter fun o => isExport o.kind && o.originator = p.originator).length
    if 16 ≤ mine then (s, refuse stBusy rOutstanding 0)
    else (startOp (.journalExport n (decide (field p.body 8 1 = 1))) p 0x61 s, .accept [])

/-- The compress engine that an export uses: the enabled one with the lowest site (Table 9.4). -/
def compressSite (s : State) : Option Nat :=
  if hasReeds s then (List.range 36).find? fun n => forwards n s && engineOn n 3 s else none

/-- JOURNAL_EXPORT_DONE: the oldest export completes; FAULTED for a lost segment or with no bank to read. -/
def execJournalExportDone (s : State) : Host.Outcome State Fault Refusal :=
  if !waferLive s then .next s
  else match s.batten.ops.find? fun o => isExport o.kind with
    | none => .next s
    | some o =>
      match o.kind with
      | .journalExport n z =>
        match findSegment n s with
        | none => .next (finishOp o stFaulted rUnit 0xFFFF [] s)
        | some g =>
          if g.lost || !(s.journal.bankA.state = .primary || s.journal.bankB.state = .primary) then
            .next (settleJournal (finishOp o stFaulted rUnit 0xFFFF [] s))
          else
            let image := segmentImage g s
            match (if z then compressSite s else none) with
            | some n' =>
              let data := compressedImage image
              .next (settleJournal (finishOp o stOk 0 0 (le 8 n ++ le 4 data.length ++ le 1 1 ++ zs 3 ++ data)
                (engineWork n' 3 image.length s)))
            | none => .next (settleJournal (finishOp o stOk 0 0 (le 8 n ++ le 4 image.length ++ le 1 0 ++ zs 3 ++ image) s))
      | _ => .next s

def journalAckRun (p : Packet) (s : State) : State × Ans :=
  let b := p.body
  match findSegment (field b 0 8) s with
  | none => (s, refuse stRange rNotFound 0)
  | some g =>
    if g.acked then (s, ok [])
    else if !g.signed then (s, refuse stRange rNotFound 0)
    else
      let d := sha256 (segmentImage g s)
      if digestOf (sub b 8 32) ≠ d then (s, refuse stPrecond rDigest 0)
      else
        let s := onAccepting (fun n t => count (cThatch n 3) t) (storeSegment { g with acked := true } s)
        let s := journalWafer (.control 6 4 0 0 0 (tallyNat s) g.number p.originator.toNat (fill s) d (sha256 (b.drop 48))) s
        (settleJournal s, ok [])

def journalMarkRun (p : Packet) (s : State) : State × Ans :=
  match ledgerHalt s with
  | some d => (s, refuse stLedgerHalt d 0)
  | none =>
    let t := tallyNat s
    if !isLedger s && (!bankAccepts s || unjournalled s) then (countUnjournalled s, ok (le 8 0))
    else
      let n := s.journal.next + s.journal.frozenNotes.length
      (journalCommand p (.mark 0 (field p.body 0 8) p.originator.toNat (sub p.body 8 32) t t) s, ok (le 8 n))

/-- BANK_SET: OFFLINE completes at once; ONLINE of an OFFLINE bank resynchronises it (R362, R701, R740). -/
def bankSetRun (p : Packet) (s : State) : State × Ans :=
  let n := p.inst.toNat
  if field p.body 0 1 = 0 && isLedger s && (bank n s).accepts && !(bank (1 - n) s).accepts then
    (s, refuse stPrecond rLastBank 0)
  else (startOp (.bankOnline n) p 0x69 s, .accept [])

/-- The last operation started on a bank completes with no segment copied. -/
def bankSettled (n : Nat) (s : State) : State :=
  match (opsOf (isBankOp n) s).getLast? with
  | some o => finishOp o stOk 0 0 (le 8 0) s
  | none => s

def bankSetAfter (p : Packet) (s : State) : State :=
  let n := p.inst.toNat
  let st := (bank n s).state
  if field p.body 0 1 = 0 then
    let s := bankSettled n s
    if (bank n s).accepts then bankOffline n s else s
  else if st = .offline then
    let s := setBank n (fun b => { b with faulted := false }) s
    if (bank (1 - n) s).state = .primary then startResync n s
    else settleJournal (bankSettled n (bankTo n .primary s))
  else if st = .resyncing then s
  else bankSettled n s

/-! ### Replay (R728-R734, Tables 12.7 and 12.8) -/

/-- The replay input region's directory: record number, collective, offset, length. -/
def replayDir (g : List Byte) : List (Nat × Nat × Nat × Nat) :=
  (List.range (field g 12 2)).map fun i =>
    let o := field g 40 8 + 32 * i
    (field g o 8, field g (o + 8) 8, field g (o + 16) 8, field g (o + 24) 8)

/-- The header and the offsets lie within the region (Table 12.8, check 3). -/
def replayHeaderGood (g : List Byte) (size decision : Nat) : Bool :=
  decide (64 ≤ size) && sub g 0 8 = ascii "NVREPLAY" && field g 8 2 = 1 && 1 ≤ field g 10 2 && field g 14 2 = 0 &&
    field g 16 8 = decision && field g 28 4 = 0 && sub g 48 16 = zs 16 && 64 + field g 24 4 ≤ size &&
    field g 32 8 + field g 10 2 * 786736 ≤ size && field g 40 8 + field g 12 2 * 32 ≤ size &&
    (replayDir g).all fun e => e.2.2.1 + e.2.2.2 ≤ size

/-- The segment images of a replay input, in order. -/
def replayImages (g : List Byte) : List (List Byte) :=
  (List.range (field g 10 2)).map fun i => sub g (field g 32 8 + 786736 * i) 786736

/-- The records of an image, 192 bytes each. -/
def imageRecords (g : List Byte) : List (List Byte) := (List.range 4096).map fun i => sub g (128 + 192 * i) 192

/-- The record numbers and the chain of an image's records (verify_segment). -/
def chainGood : Nat → Option Digest → List (List Byte) → Bool
  | _, _, [] => true
  | n, h, r :: rest =>
    field r 8 8 = n && (match h with | some d => digestOf (sub r 48 32) = d | none => true) &&
      chainGood (n + 1) (some (sha256 r)) rest

/-- verify_segment (12, "Segments"). -/
def verifySegment (g chain : List Byte) (h : Option Digest) : Bool :=
  let sl := sub g 786560 176
  sub g 0 8 = ascii "NVTHATCH" && field g 12 4 = 4096 && digestOf (sub sl 0 32) = sha256 (sub g 0 786560) &&
    field sl 32 8 = field g 16 8 && sub sl 40 16 = sub g 32 16 && Config.sealVerifies chain sl &&
    chainGood (field g 24 8) h (imageRecords g)

/-- Every image passes, its head taken from the preceding image when the numbers are consecutive. -/
def imagesGood (chain : List Byte) : Option (Nat × Digest) → List (List Byte) → Bool
  | _, [] => true
  | prev, g :: rest =>
    let n := field g 16 8
    let h := match prev with
      | some (m, d) => if m + 1 = n then some d else if n = 1 then some 0 else none
      | none => if n = 1 then some 0 else none
    let last := sub g (128 + 192 * 4095) 192
    verifySegment g chain h && imagesGood chain (some (n, sha256 last)) rest

/-- The COLLECTIVE body that record bytes spell (Table 12.3). -/
def parseCollective (r : List Byte) : CollectiveRecord :=
  { collective := field r 80 8, decision := field r 88 8, decisionRecord := field r 96 8, groupRecord := field r 104 8
    group := field r 112 4, elements := field r 116 4, members := field r 120 2, contributed := field r 122 2
    op := field r 124 1, input := field r 125 1, output := field r 126 1, cflags := field r 127 1, flags := field r 128 1
    abortCause := field r 129 1, admission := field r 136 8, release := field r 144 8, delay := field r 152 8
    digest := digestOf (sub r 160 32) }

/-- The original COLLECTIVE records of a decision; records of replays are not among them. -/
def decisionCollectives (rs : List (List Byte)) (d : Nat) : List (Nat × CollectiveRecord) :=
  (rs.filter fun r => field r 0 1 = 1 && field r 88 8 = d && field r 127 1 / 4 % 2 = 0).map fun r =>
    (field r 8 8, parseCollective r)

/-- The region digests of a DECISION OPEN record with its continuations; none where they are not all
there. -/
def decisionDigests (rs : List (List Byte)) (d : Nat) : Option (List Digest) :=
  match rs.find? fun r => field r 0 1 = 2 && field r 80 8 = d && field r 88 1 = 0 with
  | none => none
  | some r =>
    let n := field r 89 1
    let head := (List.range (min n 2)).map fun i => digestOf (sub r (128 + 32 * i) 32)
    let conts := rs.filter fun c => field c 0 1 = 4 && field c 80 1 = 1 && field c 88 8 = d && field r 8 8 < field c 8 8 &&
      field c 8 8 ≤ field r 8 8 + (n - 2 + 2) / 3
    let tail := conts.flatMap fun c => (List.range (min 3 (field c 81 1))).map fun i => digestOf (sub c (96 + 32 * i) 32)
    let all := head ++ tail
    if all.length = n && sha256 (all.flatMap digestBytes) = digestOf (sub r 96 32) then some all else none

/-- The data of a collective in the directory: its entry's offset and length, with the length of R729. -/
def replayData (g : List Byte) (x : Nat × CollectiveRecord) : Option (Nat × Nat) :=
  match (replayDir g).find? fun e => e.1 = x.1 with
  | none => none
  | some e =>
    let want := x.2.members * x.2.elements * (Format.ofCode x.2.input).bytes
    if e.2.2.2 = want then some (e.2.2.1, e.2.2.2) else none

/-- The yealms that an internal collective of a replay takes: as those of any other, from port 0 (R731). -/
def replayYealms (c : CollectiveRecord) (s : State) : List (Nat × Nat) :=
  let g : Group := { id := c.group, members := List.replicate c.members (0, 0), powerHeavy := false, stepW := 0, record := 0 }
  assignYealms g c.elements (ReduceOp.ofCode c.op) (decide (c.cflags % 2 = 1)) (Format.ofCode c.input) s

/-- The next collective of a running replay takes its yealms; one that R732 does not run takes none. -/
def startReplayed (id : Nat) (s : State) : State :=
  let next (r : Replay) : Replay := match r.plan with
    | (c, _, _) :: _ => { r with depth := param pDepth s, yealms := if c.abortCause = 0 then replayYealms c s else [] }
    | [] => { r with yealms := [] }
  { s with journal.replays := s.journal.replays.map fun r => if r.id = id then next { r with yealms := [] } else r }

/-- Whether the running wafer firmware lists an arithmetic generation (R72). -/
def listsGeneration (g : Nat) (s : State) : Bool :=
  let images := s.firmware.running.filter fun r => r.kind = 0
  !images.isEmpty && images.all fun r => r.generations.contains g

def replayStartRun (p : Packet) (s : State) : State × Ans :=
  let d := field p.body 0 8
  let h := field p.body 8 4
  match findRegion h s with
  | none => (s, refuse stRange rNotFound 0)
  | some r =>
    if r.kind ≠ .isSealed then (s, refuse stPrecond rNotSealed 0)
    else
      let g := readLoft r.base r.size s
      if !replayHeaderGood g r.size d then (s, refuse stRange rField 8)
      else
        let chain := sub g 64 (field g 24 4)
        let images := replayImages g
        if !(Config.chainVerifies chain && imagesGood chain none images) then (s, refuse stPrecond rDigest 0)
        else
          let rs := images.flatMap imageRecords
          let cs := decisionCollectives rs d
          match decisionDigests rs d with
          | none => (s, refuse stRange rNotFound 0)
          | some ds =>
            if cs.isEmpty then (s, refuse stRange rNotFound 0)
            else if 65535 < cs.length then (s, refuse stRange rField 0)
            else match (rs.filter fun x => field x 0 1 = 1 && field x 88 8 = d).find? fun x => !listsGeneration (field x 5 1) s with
              | some x => (s, refuse stPrecond rAg (field x 5 1))
              | none =>
                let found := ds.map fun d => s.loft.regions.find? fun r => r.kind = .isSealed && r.digest = d
                if found.any Option.isNone then (s, refuse stPrecond rDigest 0)
                else if cs.any fun c => c.2.abortCause = 0 && (replayData g c).isNone then (s, refuse stRange rField 8)
                else match ledgerHalt s with
                  | some x => (s, refuse stLedgerHalt x 0)
                  | none =>
                    let running := (s.journal.replays.filter fun x => x.state = 0).length
                    if running ≠ 0 then (s, refuse stBusy rInFlight running)
                    else if cs.any fun c => c.2.abortCause = 0 && (replayYealms c.2 s).isEmpty then
                      (s, refuse stBusy rInFlight (sat 16 s.reduction.collectives.length))
                    else
                      let id := s.journal.nextReplay
                      let rep : Replay :=
                        { id, decision := d, input := h, regions := found.filterMap fun x => x.map Region.handle
                          plan := cs.map fun c => (c.2, (replayData g c).getD (0, 0)), outcomes := [], state := 0 }
                      let s := startOp (.replay id) p 0x64
                        { s with journal := { s.journal with replays := s.journal.replays ++ [rep], nextReplay := id + 1 } }
                      (startReplayed id s, .accept (le 4 id ++ le 2 cs.length ++ zs 2))

/-- The result elements of a replayed collective, from its data in rank order (R729, R731). -/
def replayResult (c : CollectiveRecord) (data : List Byte) : List (Nat × Nat) :=
  let fi := Format.ofCode c.input
  let fo := Format.ofCode c.output
  let op := ReduceOp.ofCode c.op
  let canon := decide (c.cflags % 2 = 1)
  (List.range c.elements).map fun i =>
    let reg := (List.range c.members).foldl (fun (r : LongRegister) m =>
      contribute op canon fi m (field data ((m * c.elements + i) * fi.bytes) fi.bytes) r) { index := i }
    registerResult op canon fi fo c.members reg

/-- REPLAY_COLLECTIVE_DONE: the next collective of the running replay (R732, R733, R745). -/
def execReplayCollectiveDone (s : State) : Host.Outcome State Fault Refusal :=
  if !waferLive s then .next s
  else match s.journal.replays.find? fun r => r.state = 0 with
    | none => .next s
    | some r =>
      match r.plan with
      | [] => .next (endReplay r.id 1 s)
      | (c, off, len) :: rest =>
        let store (o : Nat) (s : State) : State :=
          { s with journal.replays := s.journal.replays.map fun x =>
              if x.id = r.id then { x with plan := rest, outcomes := x.outcomes ++ [(c.collective, o)] } else x }
        let s :=
          if c.abortCause ≠ 0 then store 2 s
          else
            let base := ((findRegion r.input s).map Region.base).getD 0
            let res := replayResult c (readLoft (base + off) len s)
            let d := sha256 (res.flatMap fun x => le (Format.ofCode c.output).bytes x.1)
            let t := tallyNat s
            let same := decide (d = c.digest)
            let s := journalWafer (.collective { c with
              cflags := c.cflags + 4, flags := res.foldl (fun f x => f ||| x.2) 0, contributed := c.members
              admission := t, release := t, delay := 0, digest := d }) (store (if same then 0 else 1) s)
            if same then s else errorClass 8 s
        if rest.isEmpty || (ledgerHalt s).isSome then .next (endReplay r.id 1 s) else .next (startReplayed r.id s)

def replayStatusRun (p : Packet) (s : State) : State × Ans :=
  match s.journal.replays.find? fun r => r.id = field p.body 0 4 with
  | none => (s, refuse stRange rNotFound 0)
  | some r => (s, ok (le 1 r.state ++ zs 1 ++ le 2 r.outcomes.length ++ le 2 (r.outcomes.length + r.plan.length) ++ zs 2))

def replayCancelRun (p : Packet) (s : State) : State × Ans :=
  let id := field p.body 0 4
  if s.journal.replays.any fun r => r.id = id then (endReplay id 2 s, ok []) else (s, refuse stRange rNotFound 0)

end Sys2Proof.Machine
end

