-- ==== Sys2Proof/Machine/Switching.lean ====
section
/-! DEFINITION. The switch core at work (08): arriving frames, tail drop, cut-through, the egress scheduler,
preemption, the leaked-buffer audit, and the faults that isolate a slate. -/

namespace Sys2Proof.Machine

/-! ### Eligibility and scheduling (R477-R480, R494, R507) -/

/-- Whether a path crosses a link. -/
def crosses (l : Nat) : List Nat → Bool
  | a :: b :: rest => linkOf a b = l || crosses l (b :: rest)
  | _ => false

/-- Grants whose path crosses a link that a patrol slice drains are held (Table 18.2, step 2). -/
def pathHeld (path : List Nat) (s : State) : Bool :=
  match s.patrol.current with
  | some (.link l, .drainWait) => crosses l path
  | _ => false

/-- A re-homing of an output holds the queues towards it; in a drain, what the drained slate holds itself still leaves
(R95, R494). -/
def mapOpen (f : QFrame) (s : State) : Bool :=
  match rehomingOf f.output s with
  | none => true
  | some r => r.drain && f.site = r.site

/-- A frame can reach its output: no re-homing holds it, the mesh offers a path, and no hold lies on it. -/
def reaches (f : QFrame) (s : State) : Bool :=
  mapOpen f s && match servingSite f.output s with
  | none => false
  | some n => match meshPath f.site n s with
    | none => false
    | some path => !pathHeld path s

/-- Eligibility of a queue head (R477): credited classes need the partner's grant and no hold. -/
def eligible (p : Nat) (f : QFrame) (s : State) : Bool :=
  let q := port p s
  (!credited f.cls || (!q.holdIn.getLsbD (holdIndex f.cls) &&
    decide (f.shingles ≤ (q.grantIn.get f.cls + 65536 - q.usedOut.get f.cls) % 65536))) && reaches f s

/-- The eligible heads of a class towards an output, by ascending input; origin queues follow port 159. -/
def heads (p cls : Nat) (s : State) : List QFrame :=
  (List.range 196).filterMap fun i =>
    match s.switch.queue.find? fun f => f.output = p && f.cls = cls && f.input = i with
    | some f => if eligible p f s then some f else none
    | none => none

/-- The next head of a class in round-robin order after the input last served (R480). -/
def nextHead (p cls : Nat) (s : State) : Option QFrame :=
  let hs := heads p cls s
  let last := (port p s).served.getD cls 0
  match hs.find? fun f => last < f.input with
  | some f => some f
  | none => hs.head?

/-- Bytes of a frame that a deficit counts: header and payload. -/
def frameBytes (f : QFrame) : Nat := 64 + f.payload.length

/-- Deficit round robin over classes 0-6 (R479): the class served, and the deficits and turn after it. -/
def drr (p : Nat) (s : State) : Nat → List Nat → Nat → Option (QFrame × List Nat × Nat)
  | 0, _, _ => none
  | fuel + 1, ds, c =>
    let next := (c + 1) % 7
    let pass (ds : List Nat) := drr p s fuel (ds.modify next fun d => d + param (pDwrr next) s * 256) next
    match nextHead p c s with
    | none => pass (ds.set c 0)
    | some f =>
      if frameBytes f ≤ ds.getD c 0 then some (f, ds.modify c fun d => d - frameBytes f, c) else pass ds

/-- The scheduler's choice for an output: class 7 first (R478), then classes 0-6, and copies only when no
head is eligible (R507). While a frame is suspended only express frames start (R420, R422). -/
def choose (p : Nat) (s : State) : Option (QFrame × List Nat × Nat) :=
  let q := port p s
  match nextHead p 7 s with
  | some f => some (f, q.deficits, q.turn)
  | none =>
    if q.suspended.isSome then none
    else if (List.range 7).any fun c => (nextHead p c s).isSome then drr p s 256 q.deficits q.turn
    else ((List.range 8).findSome? fun n =>
      s.switch.dormerQueue.find? fun f => f.output = p && f.kind = .dormer n && reaches f s).map
        fun f => (f, q.deficits, q.turn)

/-- An express grant suspends the frame being sent when R419 allows it. -/
def suspendFor (f : QFrame) (q : Port) (now : Nat) : Option TxFrame :=
  match q.suspended, q.sending with
  | some t, _ => some t
  | none, none => none
  | none, some t =>
    let sent := blocksSent t q.width now
    if f.cls = 7 && t.frame.cls < 7 && stillSending t q.width now && 4 ≤ sent && sent + 2 ≤ headPayloadBlocks t.frame then
      some { t with sent := sent, since := now }
    else none

/-- An express head may suspend the frame that an output sends (R419). -/
def expressSuspends (p : Nat) (s : State) : Bool :=
  (port p s).suspended.isNone && (nextHead p 7 s).any fun f => (suspendFor f (port p s) s.now).isSome

/-- A frame that leaves cut-through keeps its output until it ends, unless an express head may suspend it (R419,
R426). -/
def cutHolds (p : Nat) (s : State) : Bool :=
  match (port p s).sending with
  | none => false
  | some t => cutOpen p t s && !expressSuspends p s

/-- Bytes of a granted frame that have not left an output: what its crossing queue holds and what follows into it. -/
def unsentBytes (t : TxFrame) (width now : Nat) : Nat := 32 * (headPayloadBlocks t.frame - blocksSent t width now)

/-- The entries that a crossing queue holds: of a port, with those that follow, what its transmitter has not sent; of a
Loft block, the requests that it has accepted and not answered; of a bank, the records that are not programmed. What the
other queues carry passes whole within one command (DESIGN CHOICE, entry 114). -/
def crossingLoad (c : Crossing) (n : Nat) (s : State) : Nat :=
  match c with
  | .fabToPtx => match (port n s).sending with
    | some t => c.entries (unsentBytes t (port n s).width s.now)
    | none => 0
  | .fabToLoft => loftLoad n s
  | .gableToNand => c.entries (192 * s.journal.waiting.length)
  | _ => 0

/-- A full crossing queue holds its writer back (R138). -/
def crossingFull (c : Crossing) (n : Nat) (s : State) : Bool := decide (c.depth ≤ crossingLoad c n s)

/-- A port's full crossing queue holds the next grant, unless an express head suspends what fills it (Table 3.2). -/
def grantHeld (p : Nat) (s : State) : Bool := crossingFull .fabToPtx p s && !expressSuspends p s

/-- Whether an output may be granted at all (R477, Table 8.4 step 2, Table 3.2). -/
def outputServes (p : Nat) (s : State) : Bool :=
  waferLive s && ((port p s).state = .up || (port p s).state = .draining) && !(port p s).freezeIdle && !cutHolds p s &&
    !grantHeld p s

/-- An output can start a frame now: it sends nothing, or R419 lets it suspend what it sends. -/
def startsNow (p : Nat) (f : QFrame) (s : State) : Bool :=
  let q := port p s
  match q.sending with
  | none => true
  | some t => !(stillSending t q.width s.now || cutOpen p t s) || (q.suspended.isNone && (suspendFor f q s.now).isSome)

/-- One granted frame starts to leave its output (R481): out of its queue and in flight, credits used, the scheduler's
place moved. -/
def depart (p : Nat) (f : QFrame) (ds : List Nat) (turn : Nat) (s : State) : State :=
  let s := landPort p s
  let fresh := (port p s).suspended.isNone && (suspendFor f (port p s) s.now).isSome
  let s := flyShingles f.site f.shingles (takeOut f s)
  let s := match (port p s).sending with
    | some t => if fresh then s else landFrame t.frame s
    | none => s
  let now := s.now
  let s := setPort p (fun q => { q with
    suspended := suspendFor f q now
    sending := some { frame := f, fragment := 0, sent := 0, since := now }
    usedOut := if credited f.cls then q.usedOut.add f.cls f.shingles else q.usedOut
    deficits := ds, turn := turn
    served := match f.kind with | .dormer _ => q.served | _ => q.served.set f.cls f.input }) s
  count (cSlate f.site 2) (if fresh then count (cPort p 0x18) s else s)

/-- The EOF of a frame leaves: the frame is sent whole, counted, and copied on egress (R503). -/
def completeSend (p : Nat) (f : QFrame) (s : State) : State :=
  let isCopy := f.kind = .skylight || (match f.kind with | .dormer _ => true | _ => false)
  let s := countBy (cPort p 4) (frameBytes f) (count (cPort p 2) (emit (.frame p f) s))
  if isCopy then s else dormers p true f.header f.payload s

/-- One granted frame leaves its output. -/
def sendFrame (p : Nat) (f : QFrame) (ds : List Nat) (turn : Nat) (s : State) : State :=
  completeSend p f (depart p f ds turn s)

/-- One grant of an output. -/
def grant (p : Nat) (s : State) : State :=
  if !outputServes p s then s
  else match choose p s with
    | none => s
    | some (f, ds, turn) => settleResults (sendFrame p f ds turn s)

/-! ### DATA frames (R462-R476) -/

/-- Discards dormer copies of a slate, oldest first, until a frame fits above the floor (R472). -/
def makeRoom (at_ k : Nat) : List QFrame → State → State
  | [], s => s
  | f :: rest, s =>
    if param pFloor s + k ≤ poolFree at_ s then s
    else
      let s := freeShingles f.site f.shingles { s with switch.dormerQueue := s.switch.dormerQueue.erase f }
      makeRoom at_ k rest (match f.kind with
        | .dormer n => { s with switch.dormers := s.switch.dormers.modify n fun d => { d with dropped := d.dropped + 1 } }
        | _ => s)

/-- A tail drop (R473). -/
def tailDrop (at_ p output cls : Nat) (s : State) : State :=
  count (cTriple p output cls 0x88) (count (cSlate at_ 3) s)

/-- Queued shingles of a VOQ. -/
def voqShingles (p output cls : Nat) (s : State) : Nat := ((voq p output cls s).map QFrame.shingles).sum

/-- Whether a frame queued as the only one of its VOQ would be granted and start at once, and the widths allow
cut-through (R475). -/
def cutThrough (p : Nat) (f : QFrame) (s : State) : Bool :=
  param pCutThrough s = 1 && (voq p f.output f.cls s).isEmpty && outputServes f.output s &&
    (port p s).width ≤ (port f.output s).width && startsNow f.output f s &&
    (match choose f.output (enqueue f s) with
      | some (g, _, _) => g = f
      | none => false)

/-- The queued form of a DATA frame; its shingles are those of its declared length. -/
def dataQFrame (p at_ : Nat) (h : FrameHeader) (payload : List Byte) : QFrame :=
  { input := p, output := h.dstPort.toNat, cls := h.cls.toNat % 8, site := at_, shingles := creditsOf h.length.toNat
    kind := .data, header := h, payload }

/-- A DATA frame that goes cut-through starts to leave when its header has passed (R475). -/
def startCut (f : QFrame) (s : State) : State :=
  let s := enqueue f (count (cSlate f.site 0x0C) (count (cSlate f.site 1) s))
  match choose f.output s with
  | some (g, ds, turn) => depart f.output g ds turn s
  | none => s

/-- A lossy DATA frame that the limits of R471 drop, once R472 has made what room it can. -/
def dropsTail (p : Nat) (f : QFrame) (s : State) : Bool :=
  decide (param pLimit s * 4 < voqShingles p f.output f.cls s + f.shingles) ||
    decide (poolFree f.site s < param pFloor s + f.shingles)

/-- What makes room for a lossy frame: copies on its slate are discarded, oldest first (R472). -/
def lossyRoom (p : Nat) (f : QFrame) (s : State) : State :=
  if 4 ≤ f.cls && f.cls ≤ 6 && !decide (param pLimit s * 4 < voqShingles p f.output f.cls s + f.shingles) then
    makeRoom f.site f.shingles (s.switch.dormerQueue.filter fun d => d.site = f.site) s
  else s

/-- A DATA frame that has passed its checks and is stored (R462-R464, R471-R473). -/
def dataIn (p : Nat) (h : FrameHeader) (payload : List Byte) (s : State) : State :=
  let f := dataQFrame p ((servingSite p s).getD 0) h payload
  let out := port f.output s
  if out.state ≠ .up ∧ out.state ≠ .draining then
    discardArrival f.site p f.output f.cls out.cause.toNat h.srcEndpoint.toNat h.tag.toNat f.shingles s
  else
    let s := lossyRoom p f s
    if 4 ≤ f.cls && f.cls ≤ 6 && dropsTail p f s then tailDrop f.site p f.output f.cls s
    else enqueue f (count (cSlate f.site 0x0D) (count (cSlate f.site 1) s))

/-- Whether a DATA frame goes cut-through when its header has passed its checks. -/
def goesCut (p : Nat) (f : QFrame) (s : State) : Bool :=
  f.header.type = 0x01 && !rehoming p s && !(4 ≤ f.cls && f.cls ≤ 6 && dropsTail p f s) && cutThrough p f s

/-! ### Any arriving frame -/

/-- An SOF block ends whatever the port had open or parked (Table 7.8a): an express SOF parks a preemptable frame
that R419 lets it suspend. -/
def newSof (p cls : Nat) (s : State) : State :=
  let q := port p s
  let s := setPort p (fun q => { q with
    openRx := none, parked := if cls = 7 then q.parked else none, discarding := q.discarding && cls = 7
    freezeIdle := false }) s
  let s := match q.openRx with
    | none => s
    | some o =>
      if cls = 7 && o.cls < 7 then
        if 4 ≤ o.blocksSeen && 2 ≤ o.payloadLeft then
          count (cPort p 0x19) (setPort p (fun q => { q with parked := some o }) s)
        else dropOpen p o (count (cPort p 7) (setPort p (fun q => { q with discarding := true }) s))
      else dropOpen p o (count (cPort p 0x14) s)
  match q.parked with
  | some o => if cls = 7 then s else errorClass 4 (count (cPort p 6) (dropOpen p o s))
  | none => s

/-- Dispatch of a whole frame that passed every check and is not leaving cut-through (Table 8.1, R96). A BATTEN
frame's packet is a command of its own, and what only the tray sends ends here. -/
def dispatch (p : Nat) (f : RxFrame) (s : State) : State :=
  let h := f.header
  let cls := h.cls.toNat % 8
  let at_ := (servingSite p s).getD 0
  let k := creditsOf f.payload.length
  if rehoming p s then
    discardArrival at_ p h.dstPort.toNat cls rRehome h.srcEndpoint.toNat h.tag.toNat k s
  else match h.type.toNat with
    | 0x01 => dataIn p h f.payload s
    | 0x02 => loftIn false p h f.payload s
    | 0x04 => loftIn true p h f.payload s
    | 0x06 => contribIn p h f.payload s
    | _ => returnCredits p cls k s

/-- The EOF of the frame `o` has come: the frame goes on to its destination, or is discarded with its counter and
stomped where it was leaving (R405, R406, R424, R425, R476). -/
def frameEnd (p : Nat) (f : RxFrame) (o : OpenFrame) (s : State) : State :=
  let s := admitFrame p f s
  let gone (code : Nat) (s : State) : State := dropOpen p { o with frame := none } (count (cPort p code) s)
  match endCheck f, o.cutTo with
  | .good, none => dispatch p f s
  | .good, some out => completeSend out (dataQFrame p ((servingSite p s).getD 0) f.header f.payload) s
  | .stomp, _ => gone 9 s
  | .crc, _ => gone (if o.cls = 7 then 8 else 5) s
  | _, _ => gone 0x14 s

/-- The frame that an SOF and its second header block open on a port. -/
def openOf (p : Nat) (f : RxFrame) (s : State) : OpenFrame :=
  let d := dataQFrame p ((servingSite p s).getD 0) f.header f.payload
  { cls := f.header.cls.toNat % 8, blocksSeen := 2 + f.blocks, payloadLeft := (f.header.length.toNat + 31) / 32 - f.blocks
    fragment := 0, credits := creditsOf f.header.length.toNat, frame := some f
    cutTo := if goesCut p d (lossyRoom p d s) then some d.output else none }

/-- A frame opens on a port: the checks of its header (R404, R406, R407, R417), and its start towards its output when
it goes cut-through. A frame whose header fails is absorbed to its end (R424). -/
def frameStart (p : Nat) (f : RxFrame) (s : State) : State :=
  let c := f.header.cls.toNat % 8
  let k := creditsOf f.header.length.toNat
  let absorb (s : State) : State := setPort p (fun q => { q with discarding := q.discarding || f.eof = .pending }) s
  match headerCheck p f s with
  | .notUp => count (cPort p 0x17) s
  | .header => absorb (count (cPort p 0x13) s)
  | .framing => absorb (discardFrame p 0x14 c k (admitFrame p f s))
  | .type => absorb (discardFrame p 0x0E c k (admitFrame p f s))
  | .credit => errorClass 3 (absorb (discardFrame p 0x0D c k (admitFrame p f s)))
  | _ =>
    let s := useCredits p c k s
    let o := openOf p f s
    let d := dataQFrame p ((servingSite p s).getD 0) f.header f.payload
    let s := if o.cutTo.isSome then startCut d (lossyRoom p d s) else s
    if f.eof = .pending then setPort p (fun q => { q with openRx := some o }) s else frameEnd p f o s

/-- The rest of the frame that a port has open; blocks of a discarded frame are absorbed, and blocks with no frame
open are stray (R424). -/
def frameRest (p : Nat) (f : RxFrame) (s : State) : State :=
  let q := port p s
  match q.openRx with
  | some o => frameEnd p f o (setPort p (fun q => { q with openRx := none }) s)
  | none =>
    if q.discarding then setPort p (fun q => { q with discarding := false }) s
    else count (cPort p 0x17) s

/-- Any frame on a port (R404-R407, R462, Table 7.8a). -/
def frameIn (p : Nat) (f : RxFrame) (s : State) : State :=
  if !waferLive s then s
  else if f.rest then frameRest p f s
  else
    let cls := f.header.cls.toNat % 8
    let s := if (port p s).state = .up || (port p s).state = .draining then newSof p cls s else s
    frameStart p f s

/-- DATA_FRAME. -/
def execDataFrame (port : Nat) (frame : RxFrame) (s : State) : Host.Outcome State Fault Refusal :=
  .next (frameIn port frame s)

/-- CONTRIB_FRAME. -/
def execContribFrame (port : Nat) (frame : RxFrame) (s : State) : Host.Outcome State Fault Refusal :=
  .next (settleResults (frameIn port frame s))

/-- LOFT_RD_FRAME. -/
def execLoftRdFrame (port : Nat) (frame : RxFrame) (s : State) : Host.Outcome State Fault Refusal :=
  .next (frameIn port frame s)

/-- LOFT_WR_FRAME. -/
def execLoftWrFrame (port : Nat) (frame : RxFrame) (s : State) : Host.Outcome State Fault Refusal :=
  .next (frameIn port frame s)

/-- FRAME_TYPE_ERROR: the same checks find the type, sender, class or dst_port that Table 7.5 does not
permit (R407). -/
def execFrameTypeError (port : Nat) (frame : RxFrame) (s : State) : Host.Outcome State Fault Refusal :=
  .next (frameIn port frame s)

/-- EGRESS_GRANT. -/
def execEgressGrant (port : Nat) (s : State) : Host.Outcome State Fault Refusal := .next (grant port s)

/-- FRAME_RESUME: the suspended frame resumes once no express frame is ready (R421). -/
def execFrameResume (port : Nat) (s : State) : Host.Outcome State Fault Refusal :=
  match (Sys2Proof.Machine.port port s).suspended with
  | none => .next s
  | some t =>
    if !outputServes port s || (nextHead port 7 s).isSome then .next s
    else
      let now := s.now
      let frag := (t.fragment + 1) % 4
      .next (settleResults (emit (.cont port t.frame.cls frag)
        (setPort port (fun q => { q with suspended := none, sending := some { t with fragment := frag, since := now } }) s)))

/-- PORT_DRAIN_END: what is left is flushed; a PORT_ADAPT retrains, a PORT_DOWN ends DISABLED (R441, R491). -/
def execPortDrainEnd (port : Nat) (s : State) : Host.Outcome State Fault Refusal :=
  let q := Sys2Proof.Machine.port port s
  if !waferLive s || q.state ≠ .draining then .next s
  else if q.adapt = .none then .next (portFlushed port 0 rAdminDown s)
  else
    let s := stopPort port .draining 0 rAdminDown 0 s
    .next (startTraining port 0 (setPort port (fun q => { q with
      adapt := .retraining, fecSOnly := false, lostLanes := 0 }) s))

end Sys2Proof.Machine
end

