-- ==== Sys2Proof/Machine/Ports.lean ====
section
/-! DEFINITION. The ports' own events (07): bring-up, ordered sets, adaptation, link loss, receiver cases,
optical modules; and the Batten commands of Table 6.7. -/

namespace Sys2Proof.Machine

/-! ### Ordered sets that the tray sends -/

/-- The serial hash of R106: the first 4 bytes of the SHA-256 of the serial number string (R107). -/
def serialHash (s : State) : Nat :=
  leVal ((digestBytes (sha256 (s.ident.serial.takeWhile (· != 0)))).take 4)

/-- The tray's own IDENTITY block on a port (Table 7.9). -/
def ownIdentity (p : Nat) (s : State) : IdentityBlock :=
  { kind := 0, rackId := BitVec.ofNat 16 s.referee.rackId.toNat, slot := s.power.slotId.zeroExtend 8
    port := BitVec.ofNat 8 p, serialHash := BitVec.ofNat 32 (serialHash s), version := 0x10 }

/-- Whether a port offers FEC-L (R436, R437, R449). -/
def offersFecL (p : Nat) (s : State) : Bool :=
  p < 128 && param pFecPolicy s = 1 && !(port p s).fecSOnly

/-- The LSTATE block of a port (Table 7.8). -/
def lstateOf (p request round : Nat) (s : State) : LstateBlock :=
  let q := port p s
  { state := BitVec.ofNat 8 q.state.code, lanes := q.ownLanes.zeroExtend 8
    fecOffer := BitVec.ofNat 8 (1 + 2 * bit (offersFecL p s))
    fecSelect := BitVec.ofNat 8 (bit (q.fecL || request = 3)), request := BitVec.ofNat 8 request
    ber := q.ownBer, switchRound := BitVec.ofNat 32 round }

def sendLstate (p request round : Nat) (s : State) : State := emit (.lstate p (lstateOf p request round s)) s

/-! ### Bring-up (Table 7.11) -/

/-- R388: the widest width whose lanes both ends can use, and its lanes. -/
def widthOf (lanes : BitVec 4) : Nat × BitVec 4 :=
  if lanes = 15 then (4, 15)
  else if lanes &&& 3 = 3 then (2, 3)
  else if lanes &&& 12 = 12 then (2, 12)
  else if lanes.getLsbD 0 then (1, 1)
  else if lanes.getLsbD 1 then (1, 2)
  else if lanes.getLsbD 2 then (1, 4)
  else if lanes.getLsbD 3 then (1, 8)
  else (0, 0)

/-- The cause of a port: while it is DOWN the one that holds it; one that nothing holds keeps NO_PARTNER or NONE. -/
def heldCause (p : Nat) (q : Port) (s : State) : U16 :=
  if q.state ≠ .down then q.cause
  else match portHold p s with
    | some c => BitVec.ofNat 16 c
    | none => if q.cause.toNat = rNoPartner then q.cause else 0

/-- A port DOWN shows the cause that holds it. -/
def refreshHold (p : Nat) (s : State) : State := setPort p (fun q => { q with cause := heldCause p q s }) s

/-- Every port DOWN shows the cause that holds it (R104, R113, R448). -/
def refreshHolds (s : State) : State :=
  { s with ports := s.ports.zipIdx.map fun x => { x.1 with cause := heldCause x.2 x.1 s } }

/-- Signal on a port that is DOWN: training starts unless something holds the port (step 1). -/
def tryTrain (p : Nat) (s : State) : State :=
  if (port p s).state = .down ∧ mayTrain s ∧ portFitted p s then
    if (portHold p s).isNone then startTraining p 0 s else refreshHold p s
  else s

/-- PORT_SIGNAL_DETECT. -/
def execPortSignalDetect (port : Nat) (s : State) : Host.Outcome State Fault Refusal := .next (tryTrain port s)

/-- Training that did not complete (R435, R439, R442). -/
def trainingFailed (p : Nat) (s : State) : State :=
  settlePortUp p (adaptFailed p (portOff p rNoPartner s))

/-- The lanes that a port offers: a lane that it lost stays out until PORT_DOWN and PORT_UP, or PORT_ADAPT (R438). -/
def offeredLanes (p : Nat) (own : BitVec 4) (s : State) : BitVec 4 := own &&& ~~~(port p s).lostLanes

/-- LINK_TRAINING_DONE: steps 2 and 3, the width fixed by R388, FEC-S in use; optical ports offer no FEC-L. -/
def execLinkTrainingDone (port : Nat) (ownLanes farLanes : BitVec 4) (farFecL : Bool) (s : State) :
    Host.Outcome State Fault Refusal :=
  let q := Sys2Proof.Machine.port port s
  if !mayTrain s || q.state ≠ .training || 3 ≤ q.step then .next s
  else
    let own := offeredLanes port ownLanes s
    let (w, ls) := widthOf (own &&& farLanes)
    if w = 0 then .next (trainingFailed port s)
    else .next (sendLstate port 0 0 (setPort port (fun q => { q with
      width := w, lanes := ls, ownLanes := own, farFecL := farFecL, fecL := false, step := 3 }) s))

/-- TRAINING_TIMEOUT. -/
def execTrainingTimeout (port : Nat) (s : State) : Host.Outcome State Fault Refusal :=
  if mayTrain s && (Sys2Proof.Machine.port port s).state = .training then .next (trainingFailed port s) else .next s

/-- PORT_RETRAIN_TIMER: the retry looks for signal; without it the port stays DOWN with NO_PARTNER. -/
def execPortRetrainTimer (port : Nat) (signal : Bool) (s : State) : Host.Outcome State Fault Refusal :=
  if !mayTrain s || (Sys2Proof.Machine.port port s).state ≠ .down || !portFitted port s then .next s
  else if signal then .next (tryTrain port s)
  else if (portHold port s).isSome then .next (settlePortUp port (refreshHold port s))
  else .next (settlePortUp port (portTo port .down rNoPartner s))

/-- R436. -/
def selectsFecL (p : Nat) (own far : U32) (s : State) : Bool :=
  offersFecL p s && (port p s).farFecL && decide (max own.toNat far.toNat ≤ 1000000)

/-- BER_MEASURE_END: FEC-L is announced for the next ALIGN round, or the identity exchange begins. A reserved
fec_select of the far end keeps the link in training (Table 7.8). -/
def execBerMeasureEnd (port : Nat) (ownBer farBer : U32) (s : State) : Host.Outcome State Fault Refusal :=
  let q := Sys2Proof.Machine.port port s
  if !mayTrain s || q.state ≠ .training || q.step ≠ 3 || q.farSelectBad then .next s
  else
    let s := setPort port (fun q => { q with ownBer := ownBer, farBer := farBer }) s
    if selectsFecL port ownBer farBer s then
      .next (sendLstate port 3 (q.round + 1).toNat (setPort port (fun q => { q with step := 5, switchRound := q.round + 1 }) s))
    else .next (enterIdentity port s)

/-- FEC_SWITCH: both ends run FEC-L from the announced round on. -/
def execFecSwitch (port : Nat) (s : State) : Host.Outcome State Fault Refusal :=
  let q := Sys2Proof.Machine.port port s
  if !mayTrain s || q.state ≠ .training || q.step ≠ 5 || q.farSelectBad then .next s
  else .next (enterIdentity port (setPort port (fun q => { q with fecL := true }) s))

/-! ### Identity (R113, R429, R430, R457) -/

/-- The far identity is known: what follows in each state. -/
def identityKnown (p : Nat) (b : IdentityBlock) (s : State) : State :=
  let q := port p s
  let changed := decide (q.received ≠ some b)
  let s := setPort p (fun q => { q with received := some b }) s
  match q.state with
  | .identity => if rackIdValid s then planCheck p b s else s
  | .waiting => if changed then planCheck p b s else s
  | .up =>
    if changed then
      let s := count (cPort p 0x1A) s
      match sameIdentity p b s with
      | some r => enterMiswired p rDuplicatePeer (enterMiswired r rDuplicatePeer s)
      | none => enterMiswired p 0 s
    else s
  | .miswired | .draining =>
    if changed then
      match sameIdentity p b s with
      | some r => enterMiswired p rDuplicatePeer (enterMiswired r rDuplicatePeer s)
      | none => s
    else s
  | _ => s

/-- IDENTITY_BLOCK: three consecutive identical blocks complete the exchange (R429). -/
def execIdentityBlock (port : Nat) (block : IdentityBlock) (s : State) : Host.Outcome State Fault Refusal :=
  let q := Sys2Proof.Machine.port port s
  if !waferLive s || !trained port s || q.state = .training || 2 ≤ block.kind.toNat then .next s
  else
    let n := if q.idBlock = some block then q.idCount + 1 else 1
    let s := setPort port (fun q => { q with idBlock := some block, idCount := min n 3, freezeIdle := false }) s
    if 3 ≤ n then .next (identityKnown port block s) else .next s

/-- IDENTITY_SEND. -/
def execIdentitySend (port : Nat) (s : State) : Host.Outcome State Fault Refusal :=
  let st := (Sys2Proof.Machine.port port s).state
  if waferLive s && (st = .identity && rackIdValid s || st = .waiting || st = .up) then
    .next (emit (.identity port (ownIdentity port s)) s)
  else .next s

/-! ### LSTATE and adaptation (R427, R440-R442) -/

/-- A port that adapts drains as PORT_DOWN DRAIN does, and then retrains (R441). -/
def adaptDrain (p : Nat) (s : State) : State :=
  startDrain p (setPort p (fun q => { q with adapt := .draining }) s)

/-- LSTATE_BLOCK: the far end's report, and its requests. A request is acted on while the port is UP. -/
def execLstateBlock (port : Nat) (block : LstateBlock) (s : State) : Host.Outcome State Fault Refusal :=
  if !waferLive s || !trained port s then .next s
  else
    let s := setPort port (fun q => { q with
      farFecL := block.fecOffer.getLsbD 1, farBer := block.ber
      farSelectBad := decide (2 ≤ block.fecSelect.toNat), freezeIdle := false }) s
    let q := Sys2Proof.Machine.port port s
    if q.state ≠ .up then .next s
    else if block.request = 1 then .next (adaptDrain port (sendLstate port 2 0 s))
    else if block.request = 2 && q.adapt = .asked then .next (adaptDrain port s)
    else .next s

/-- The request that a port's LSTATE carries now, and its switch_round: an unanswered ADAPT_REQ, or the FEC_SWITCH that
step 5 waits for. -/
def lstateRequest (q : Port) : Nat × Nat :=
  if q.adapt = .asked then (1, 0)
  else if q.state = .training && q.step = 5 then (3, q.switchRound.toNat) else (0, 0)

/-- LSTATE_REFRESH: from FEC lock onward. -/
def execLstateRefresh (port : Nat) (s : State) : Host.Outcome State Fault Refusal :=
  if waferLive s && trained port s then
    let r := lstateRequest (Sys2Proof.Machine.port port s)
    .next (sendLstate port r.1 r.2 s)
  else .next s

/-- ADAPT_ACK_TIMEOUT: PRECOND NO_PARTNER, the port unchanged. -/
def execAdaptAckTimeout (port : Nat) (s : State) : Host.Outcome State Fault Refusal :=
  if waferLive s && (Sys2Proof.Machine.port port s).adapt = .asked then .next (adaptFailed port s) else .next s

/-! ### Credits (R412-R418, R455, R456) -/

/-- A grant of a class as the sender takes it: at most 32,767 credits outstanding (R456). -/
def takeGrant (p cls grant : Nat) (s : State) : State :=
  let used := (port p s).usedOut.get cls
  if (grant + 65536 - used) % 65536 ≤ 32767 then setPort p (fun q => { q with grantIn := q.grantIn.put cls grant }) s
  else count (cPort p 0x0F) (setPort p (fun q => { q with grantIn := q.grantIn.put cls (used + 32767) }) s)

/-- CREDIT_BLOCK. -/
def execCreditBlock (port : Nat) (block : CreditBlock) (s : State) : Host.Outcome State Fault Refusal :=
  let q := Sys2Proof.Machine.port port s
  if !waferLive s || (q.state ≠ .up && q.state ≠ .draining) then .next s
  else
    let s := setPort port (fun q => { q with holdIn := block.hold.truncate 5, freezeIdle := false }) s
    .next (takeGrant port 7 block.c7.toNat (takeGrant port 3 block.c3.toNat (takeGrant port 2 block.c2.toNat
      (takeGrant port 1 block.c1.toNat (takeGrant port 0 block.c0.toNat s)))))

/-- CREDIT_REFRESH. -/
def execCreditRefresh (port : Nat) (s : State) : Host.Outcome State Fault Refusal :=
  if waferLive s && (Sys2Proof.Machine.port port s).state = .up then .next (sendCredit port s) else .next s

/-! ### ALIGN rounds, lost links (R397-R399, R437, R438) -/

/-- An ALIGN block on each active lane of a port (R397, Table 7.3). -/
def sendAlign (p : Nat) (s : State) : State :=
  let q := port p s
  forEach ((List.range 4).filter fun i => q.lanes.getLsbD i) (fun i t => emit (.align p i q.width q.round) t)
    (setPort p (fun q => { q with round := q.round + 1 }) s)

/-- ALIGN_ROUND: two consecutive bad rounds lose the link, except while FREEZE_IDLE is received. -/
def execAlignRound (port : Nat) (good : Bool) (s : State) : Host.Outcome State Fault Refusal :=
  let q := Sys2Proof.Machine.port port s
  if !waferLive s || !trained port s then .next s
  else
    let s := sendAlign port s
    if good then .next (setPort port (fun q => { q with badAligns := 0, freezeIdle := false }) s)
    else if q.freezeIdle then .next s
    else if 1 ≤ q.badAligns then .next (linkLost port 0 s)
    else .next (setPort port (fun q => { q with badAligns := 1 }) s)

/-- A lane is lost: the port keeps it out of use (R438). -/
def markLost (p lane : Nat) (s : State) : State :=
  setPort p (fun q => { q with lostLanes := q.lostLanes ||| (1#4 <<< lane) }) s

/-- LANE_SIGNAL_LOSS: an active lane. -/
def execLaneSignalLoss (port lane : Nat) (s : State) : Host.Outcome State Fault Refusal :=
  if waferLive s && trained port s && (Sys2Proof.Machine.port port s).lanes.getLsbD lane then
    .next (linkLost port 0 (markLost port lane s))
  else .next s

/-- FEC_L_BER_WINDOW: above 1e-6 the link is lost, and only FEC-S is offered until the next PORT_ADAPT. -/
def execFecLBerWindow (port : Nat) (ber : U32) (s : State) : Host.Outcome State Fault Refusal :=
  let q := Sys2Proof.Machine.port port s
  if waferLive s && trained port s && q.fecL && decide (1000000 < ber.toNat) then
    .next (linkLost port 0 (setPort port (fun q => { q with fecSOnly := true }) s))
  else .next s

/-- CROSSING_QUEUE_OVERRUN (R139). -/
def execCrossingQueueOverrun (port : Nat) (s : State) : Host.Outcome State Fault Refusal :=
  if waferLive s && trained port s then .next (linkLost port rClockFault (count (cPort port 0x11) s)) else .next s

/-! ### Receiver cases (Table 7.8a) -/

/-- Whether frames can be in reception on a port. -/
def receives (p : Nat) (s : State) : Bool :=
  waferLive s && ((port p s).state = .up || (port p s).state = .draining)

/-- FREEZE_IDLE_RX: each open or parked frame is cut (R453). -/
def execFreezeIdleRx (port : Nat) (s : State) : Host.Outcome State Fault Refusal :=
  if !waferLive s || !trained port s then .next s
  else
    let q := Sys2Proof.Machine.port port s
    let n := bit q.openRx.isSome + bit q.parked.isSome
    let s := discardParked port (discardOpen port s)
    .next (countBy (cPort port 0x16) n (setPort port (fun q => { q with freezeIdle := true, discarding := false }) s))

/-- The control block types of Table 7.3. -/
def knownBlock (code : Nat) : Bool :=
  [0x1E, 0x33, 0x4B, 0x55, 0x66, 0x78, 0x87, 0x99, 0xA5, 0xB4, 0xCC, 0xD2].contains code

/-- RESERVED_BLOCK (Table 7.3, last row). -/
def execReservedBlock (port : Nat) (code : Byte) (s : State) : Host.Outcome State Fault Refusal :=
  if !waferLive s || !trained port s || knownBlock code.toNat then .next s
  else
    let s := setPort port (fun q => { q with freezeIdle := false }) (count (cPort port 0x0F) s)
    if (Sys2Proof.Machine.port port s).openRx.isSome then .next (discardOpen port (count (cPort port 0x14) s))
    else .next s

/-- The open frame that an express SOF meets: what the port holds of it, as far as it has come by now, or a frame that
no other command has brought, whose credits are used (R413). -/
def preempted (p : Nat) (f : OpenFrame) (s : State) : OpenFrame × State :=
  match (port p s).openRx with
  | some o => ({ o with blocksSeen := f.blocksSeen, payloadLeft := f.payloadLeft }, s)
  | none => ({ f with frame := none, cutTo := none }, useCredits p f.cls f.credits s)

/-- EXPRESS_PREEMPT_SOF: the open frame is parked when R419 is satisfied, else discarded; the express frame
itself arrives as its own command. With a frame parked already the express frame is simply next. -/
def execExpressPreemptSof (port : Nat) (frame : OpenFrame) (s : State) : Host.Outcome State Fault Refusal :=
  let q := Sys2Proof.Machine.port port s
  if !receives port s || q.parked.isSome || q.openRx.any (fun o => o.cls = 7) then .next s
  else
    let (o, s) := preempted port frame s
    if 4 ≤ o.blocksSeen && 2 ≤ o.payloadLeft then
      .next (count (cPort port 0x19) (setPort port (fun q => { q with openRx := none, parked := some o }) s))
    else
      .next (errorClass 4 (count (cPort port 7)
        (discardOpen port (setPort port (fun q => { q with openRx := some o }) s))))

/-- CONT_BLOCK: resumes the parked frame on the expected count and class. -/
def execContBlock (port : Nat) (count_ : BitVec 2) (cls : Byte) (s : State) : Host.Outcome State Fault Refusal :=
  let q := Sys2Proof.Machine.port port s
  if !receives port s || q.openRx.isSome then .next s
  else match q.parked with
    | some o =>
      if count_.toNat = (o.fragment + 1) % 4 && cls.toNat = o.cls then
        .next (setPort port (fun q => { q with
          parked := none, openRx := some { o with fragment := count_.toNat } }) s)
      else .next (errorClass 4 (count (cPort port 6) (discardParked port s)))
    | none =>
      if q.discarding then .next s else .next (count (cPort port 0x17) s)

/-- FRAME_RX_TIMEOUT: the open frame, or else the parked one. -/
def execFrameRxTimeout (port : Nat) (s : State) : Host.Outcome State Fault Refusal :=
  if !receives port s then .next s
  else
    let s := count (cPort port 0x10) s
    if (Sys2Proof.Machine.port port s).openRx.isSome then .next (discardOpen port s) else .next (discardParked port s)

/-- FEC_UNCORRECTABLE: every frame touched is discarded; four in a row on a lane lose the link (R398). -/
def execFecUncorrectable (port : Nat) (lane : LaneFault) (s : State) : Host.Outcome State Fault Refusal :=
  let q := Sys2Proof.Machine.port port s
  if !waferLive s || !trained port s || !q.lanes.getLsbD lane.lane then .next s
  else
    let s := errorClass 5 (count (cPort port 0x0C) (discardParked port (discardOpen port s)))
    if 4 ≤ lane.consecutive then .next (linkLost port 0 s) else .next s

/-- STRAY_BLOCK: with no frame open the block is discarded; a parked frame is lost to data, EOF or IDLE, and to a CONT
that is none of its own; a receiver in discard absorbs up to the EOF. IDLE belongs between frames. -/
def execStrayBlock (port : Nat) (kind : StrayKind) (s : State) : Host.Outcome State Fault Refusal :=
  let q := Sys2Proof.Machine.port port s
  if !waferLive s || !trained port s || q.openRx.isSome then .next s
  else if q.parked.isSome then
    .next (setPort port (fun q => { q with discarding := decide (kind = .data ∨ kind = .cont) })
      (errorClass 4 (count (cPort port 6) (discardParked port s))))
  else if kind = .idle then .next (setPort port (fun q => { q with discarding := false }) s)
  else if q.discarding then .next (setPort port (fun q => { q with discarding := decide (kind ≠ .eof) }) s)
  else .next (count (cPort port 0x17) s)

/-! ### Optical modules (R444-R448) -/

/-- The application that the tray selects on a module that offers it: 4 host lanes at 212.5 Gb/s, through Staged Control
Set 0 (R445). -/
def selectApplication (p : Nat) (offers : Bool) (s : State) : State :=
  if offers then emit (.moduleSelect p 0 4 212500) s else s

/-- MODULE_READY: the port may start bring-up (R446, R447). -/
def execModuleReady (port : Nat) (qualified offersApplication : Bool) (s : State) : Host.Outcome State Fault Refusal :=
  if port < 128 || !portFitted port s || !opticalRail s then .next s
  else .next (tryTrain port (refreshHold port (setPort port (fun q => { q with
    moduleReady := true, moduleQualified := qualified, moduleOffers := offersApplication })
    (selectApplication port offersApplication s))))

/-- MODULE_REMOVAL: handled as link loss; the empty cage leaves NO_MODULE. -/
def execModuleRemoval (port : Nat) (s : State) : Host.Outcome State Fault Refusal :=
  if port < 128 || !portFitted port s then .next s
  else
    let s := setPort port (fun q => { q with moduleReady := false, moduleQualified := false, moduleOffers := false }) s
    let s := if waferLive s && trained port s then linkLost port 0 s
      else if (Sys2Proof.Machine.port port s).state = .training then trainingFailed port s else s
    .next (refreshHold port s)

/-! ### What the Batten commands of Table 6.7 do -/

/-- One entry of PORT_STATUS. -/
def portEntry (p : Nat) (s : State) : List Byte :=
  let q := port p s
  le 2 p ++ le 1 q.state.code ++ le 1 q.width ++ le 2 q.cause.toNat ++ le 1 (bit q.fecL) ++
    le 1 ((servingSite p s).getD 0xFF) ++ le 8 q.lastChange

/-- The ports that a target names: one, or every port the order code includes. -/
def portTargets (p : Packet) (s : State) : List Nat :=
  if p.inst = 0xFFFF then (List.range 160).filter fun n => portFitted n s else [p.inst.toNat]

def portStatusRun (p : Packet) (s : State) : State × Ans :=
  let (es, more) := listReply p.path 8 16 160 ((portTargets p s).map fun n => portEntry n s)
  (s, ok (le 2 es.length ++ le 1 (bit more) ++ zs 5 ++ es.flatten))

def portUpRun (p : Packet) (s : State) : State × Ans := (startOp (.portUp p.inst.toNat) p 0x21 s, .accept [])

/-- PORT_UP starts the port at step 1; a port past its plan check, or held DOWN, completes at once. -/
def portUpAfter (p : Packet) (s : State) : State :=
  let n := p.inst.toNat
  match (port n s).state with
  | .disabled | .down =>
    match portHold n s with
    | some c => settlePortUp n (portTo n .down c (setPort n Port.untrained s))
    | none => portTo n .down 0 (setPort n Port.untrained s)
  | .up | .waiting | .miswired => settlePortUp n s
  | _ => s

def portDownRun (p : Packet) (s : State) : State × Ans :=
  (startOp (.portDown p.inst.toNat (field p.body 0 1 = 1)) p 0x22 s, .accept [])

/-- PORT_DOWN: a port that carries nothing is DISABLED at once; ABORT flushes now; DRAIN waits for
PORT_DRAIN_END (R491, R492, R519, R520). A drain for an adaptation becomes the command's own. -/
def portDownAfter (p : Packet) (s : State) : State :=
  let n := p.inst.toNat
  let s := finishAll (isAdaptOp n) stAborted 0 0 [] (setPort n (fun q => { q with adapt := .none }) s)
  match (port n s).state with
  | .up => if field p.body 0 1 = 1 then portFlushed n 1 rAdminDown s else startDrain n s
  | .draining => if field p.body 0 1 = 1 then portFlushed n 1 rAdminDown s else s
  | _ => portDisabled n 0 0 s

def portAdaptRun (p : Packet) (s : State) : State × Ans :=
  if (port p.inst.toNat s).state = .up then (startOp (.portAdapt p.inst.toNat) p 0x23 s, .accept [])
  else (s, refuse stPrecond rNoPartner 0)

/-- PORT_ADAPT sends ADAPT_REQ (R440). -/
def portAdaptAfter (p : Packet) (s : State) : State :=
  let n := p.inst.toNat
  if (port n s).adapt = .none then sendLstate n 1 0 (setPort n (fun q => { q with adapt := .asked }) s) else s

/-- The entries of a CABLE_PLAN_LOAD. -/
def planEntries (b : List Byte) : List U64 :=
  (List.range 160).map fun i => BitVec.ofNat 64 (field b (8 + 8 * i) 8)

/-- The first entry with a reserved bit, or for a port that the order code excludes (Table 2.5, R338). -/
def planFault (es : List U64) (s : State) : Option (Nat × Nat) :=
  (List.range 160).findSome? fun i =>
    let e := es.getD i 0
    if (e >>> 40) &&& 7 ≠ 0 then some (rReserved, 8 + 8 * i + 5)
    else if e ≠ 0 && !portFitted i s then some (rEntry, i) else none

/-- The recheck of one port after the plan changed (R110, R129). -/
def recheckPort (p : Nat) (s : State) : State :=
  let q := port p s
  match q.received with
  | none => s
  | some b =>
    let duplicate := q.cause.toNat = rDuplicatePeer
    match q.state with
    | .miswired => if duplicate then s else if planMatches (s.plan.getD p 0) b then planCheck p b s else
        portTo p .miswired 0 s
    | .waiting | .up | .draining => if planMatches (s.plan.getD p 0) b then s else enterMiswired p 0 s
    | _ => s

def cablePlanLoadRun (p : Packet) (s : State) : State × Ans :=
  let es := planEntries p.body
  match planFault es s with
  | some (r, a) => (s, refuse stRange r a)
  | none =>
    if param pPlanPolicy s = 1 && isLedger s then (s, refuse stPrecond rMode 0)
    else
      let s := { s with plan := es, planLoaded := true }
      let s := journalWafer (paramBody 2 160 p.originator.toNat (tallyNat s) (planDigest s) s) s
      let s := if param pPlanPolicy s = 1 then s else forEach (List.range 160) recheckPort s
      (s, ok (digestBytes (planDigest s)))

/-- One entry of CABLE_PLAN_READ. -/
def planEntry (p : Nat) (s : State) : List Byte :=
  let q := port p s
  le 2 p ++ le 1 q.state.code ++ zs 1 ++ le 2 q.cause.toNat ++ zs 2 ++ le 8 (s.plan.getD p 0).toNat ++
    le 8 ((q.received.map identityWord).getD 0)

def cablePlanReadRun (p : Packet) (s : State) : State × Ans :=
  let (es, more) := listReply p.path 48 24 160 ((portTargets p s).map fun n => planEntry n s)
  (s, ok (le 1 (bit s.planLoaded) ++ le 1 (param pPlanPolicy s) ++ zs 6 ++ digestBytes (planDigest s) ++
    le 2 es.length ++ le 1 (bit more) ++ zs 5 ++ es.flatten))

def opticReadRun (p : Packet) (s : State) : State × Ans :=
  let b := p.body
  let cage := 128 + 8 * (p.inst.toNat - 16) + field b 0 1
  let off := field b 3 1
  let len := field b 4 1
  if !(port cage s).moduleReady then (s, refuse stPrecond rNoModule 0)
  else
    let addr := (cage * 256 + field b 2 1) * 256 + off
    let bytes := (List.range len).map fun i => Config.moduleByte s.freeCount (addr + i)
    (bumpFree s, ok bytes)

end Sys2Proof.Machine
end

