-- ==== Sys2Proof/Machine/Zones.lean ====
section
/-! DEFINITION. What ends when rails go off or the wafer is reset (13, 14, 15): the quiesce, the records of a
freeze, the wafer's reset, and the switch-off of zones W, L and C and of single rails. -/

namespace Sys2Proof.Machine

/-! ### Quiesce (R832) -/

/-- New collectives are refused, running ones end as by REED_DISABLE ABORT, and every port that carries
traffic drains as by PORT_DOWN DRAIN. -/
def quiesce (s : State) : State :=
  let s := { s with power.quiesced := true }
  let s := s.reduction.collectives.foldl (fun t c => abortCollective c.id 4 rUnit c.home t) s
  forEach (List.range 160) (fun p t => if (port p t).state = .up then startDrain p t else t) s

/-! ### Records of a freeze (R785, R786, R791) -/

/-- Whole milliseconds of a number of ticks. -/
def msOfTicks (k : Nat) : Nat := k / tkPerMs

/-- The body of an ARMED (0) or ARM_CANCELLED (1) record for an armed value. -/
def armBody (event value : Nat) (s : State) : RecordBody := .freeze event 1 0 0 value (tallyNat s) 0 0 0 0

/-- The records that come first after a freeze: FROZEN, one SNAPSHOT for each snapshot, the record of how it
ended, and the cancellation of an armed value. FROZEN carries the flag of the tally state at F (R186). -/
def freezeNotes (ended : Option Nat) (s : State) : List (RecordBody × Nat × Nat) :=
  let f := s.freezeUnit
  let ms := msOfTicks (s.now - f.since)
  [(freezeBody 2 0 0 f.freezeTally 0 0 s, 0xFF, tallyFlag s.tally.state)] ++
    f.snapshots.map (fun x => (freezeBody 5 (bit x.full) (bit x.full) f.freezeTally x.bytes x.durationMs s, 0xFF, 0)) ++
    (match ended with
      | some e => [(freezeBody e 0 (bit f.destructive) f.freezeTally 0 ms s, 0xFF, 0)]
      | none => []) ++
    (match f.cancelled with
      | some v => [(armBody 1 v s, 0xFF, 0)]
      | none => [])

/-- The tray is no longer frozen; the records of the freeze wait in front of the others. -/
def endFreeze (ended : Option Nat) (s : State) : State :=
  if !s.freezeUnit.frozen then s
  else
    let notes := freezeNotes ended s
    { s with
      journal.frozenNotes := notes ++ s.journal.frozenNotes
      freezeUnit := { s.freezeUnit with
        frozen := false, snapshots := [], reading := none, snapRequested := false, destructive := false
        cancelled := none, requests := [], notice := 0, powerFail := false } }

/-- An armed FREEZE_AT is cancelled and the cancellation journalled (R187, R752). -/
def cancelArm (s : State) : State :=
  match s.freezeUnit.armed with
  | some v => journalWafer (armBody 1 v s) { s with freezeUnit.armed := none }
  | none => s

/-! ### Operations that a reset of the wafer ends (R383, R1078) -/

/-- The asynchronous operations that the wafer executes, collectives, seals and replays apart. -/
def isWaferOp : OpKind → Bool
  | .portUp _ | .portDown _ _ | .portAdapt _ | .slateIsolate _ | .slateRestore _ | .reedDisable _ _ | .engineDisable _
  | .journalExport _ _ | .bankOnline _ | .reacquire _ => true
  | _ => false

def isAnySeal : OpKind → Bool
  | .seal _ => true
  | _ => false

def isAnyReplay : OpKind → Bool
  | .replay _ => true
  | _ => false

def isFreezeOp : OpKind → Bool
  | .freeze => true
  | _ => false

def isSnapshotOp : OpKind → Bool
  | .snapshot _ => true
  | _ => false

/-! ### The wafer's reset (R189, R521, R782) -/

/-- A port whose logic is reset: DISABLED stays, any other state becomes DOWN. The module in a cage is
not touched. -/
def Port.reset (q : Port) : Port :=
  { state := if q.state = .disabled then .disabled else .down
    cause := if q.state = .disabled then q.cause else 0
    moduleReady := q.moduleReady, moduleQualified := q.moduleQualified, moduleOffers := q.moduleOffers
    faultedRim := q.faultedRim }

/-- A site whose slate is held in reset: an isolated or failed site stays so, one that a roll was loading boots with the
others (R980). -/
def Site.reset (t : Site) : Site :=
  { t with
    state := match t.state with
      | .isolated => if t.cause.toNat = rActivation then .off else .isolated
      | .failed => .failed
      | _ => .off
    free := 0, queued := 0, engineHeld := 0, inFlight := 0, walkPending := false, prevCandidates := [], ring := []
    bistPassed := false, bistRunning := false, restoreWaiting := false, newImage := false, reedsGrace := false
    engines := t.engines.map fun e => { e with queued := 0 } }

/-- The wafer's own state is lost; groups, decisions, regions and the map in force are kept (R1077). -/
def clearWafer (s : State) : State :=
  refreshHolds { s with
    ports := s.ports.map Port.reset
    sites := s.sites.map Site.reset
    switch := { s.switch with queue := [], dormerQueue := [], dormers := List.replicate 8 {}, severed := [], rehomings := [] }
    reduction := { s.reduction with early := [], rampQueue := [], underNotice := [] }
    loft := { s.loft with requests := [], waiting := [] }
    tally := { s.tally with
      counting := false, acquire := .idle, pllLocked := false, announced := none, expected := none, awaitAnnounced := false
      lastMarker := none, lastMark := none
      slewLeft := 0 }
    counters := { s.counters with armed := none, markPending := false }
    patrol := { s.patrol with
      started := false, sites := [], links := [], count := 0, next := 0, done := 0, period := 0, interval := 0, current := none }
    power := { s.power with waferRunning := false, slatesRunning := false } }

/-- The wafer goes into reset. `restart` marks a reset with the rails on, which aborts collectives with cause
RESTART, ends seals' and replays' commands, and re-seals the regions (R383, R591, R640, R783). -/
def waferDown (restart : Bool) (s : State) : State :=
  let s := finishAll isWaferOp stAborted 0 0 [] (unmountBanks (!restart) s)
  let s := finishAll isFreezeOp stPrecond rPhase s.power.phase.code [] { s with freezeUnit.requests := [] }
  let s := cancelArm (tallyTo .acquiring 0 s)
  let s := if restart then
      let s := abortWhere (fun _ => true) 10 0 0 s
      let s := finishAll (fun k => isAnySeal k || isAnyReplay k) stAborted 0 0 [] s
      let s := (s.journal.replays.filter fun r => r.state = 0).foldl (fun t r => endReplay r.id 1 t) s
      { s with loft.regions := s.loft.regions.map fun r =>
          if r.kind = .isSealed then { r with kind := .sealing, resealing := true } else r }
    else s
  clearWafer s

/-- The digest of a parameter set (R304): its entries in ascending ID order, 16 bytes each. -/
def setDigest (entries : List (Nat × Nat)) : Digest :=
  sha256 (entries.flatMap fun e => le 4 e.1 ++ zs 4 ++ le 8 e.2)

/-- Every scheduled parameter set is discarded, and each discard is journalled (R309). -/
def discardScheduled (s : State) : State :=
  s.batten.scheduled.foldl
    (fun t x => journalEave (paramBody 6 x.entries.length x.originator.toNat x.tick (setDigest x.entries) t) t)
    { s with batten.scheduled := [] }

/-- RESTART: WAFER_RST_N and every SLATE_RST_N are asserted, the rails stay on, and Table 4.1 runs from step 9
(R782). -/
def restartWafer (s : State) : State :=
  let s := finishAll isSnapshotOp stAborted 0 0 [] s
  let s := { s with power.restarting := true }
  let s := discardScheduled (waferDown true (endFreeze (some 4) s))
  let s := setLatches (fun l => { l with waferRstN := 0, slateRstN := 0 }) s
  setPhase .waferRamp 0 { s with power.step := 9 }

/-! ### Switching rails off (R642, R833, R834, R1078) -/

/-- Ports of a rail that goes off: a trained link is lost, any other port goes DOWN. -/
def railPortsOff (ps : List Nat) (s : State) : State :=
  forEach ps (fun p t =>
    if (port p t).state = .disabled then t
    else if trained p t then linkLost p 0 t else portOff p 0 t) s

def cablePorts : List Nat := List.range 128
def opticalPorts : List Nat := (List.range 32).map (· + 128)

/-- A cartridge rail bit goes off. -/
def cartRailOff (b : Nat) (s : State) : State :=
  setLatches (fun l => { l with cartRailEn := l.cartRailEn &&& ~~~(1#4 <<< b) }) s

/-- Zone C: the cable cartridge rail. -/
def cableOff (s : State) : State :=
  if !cableRail s then s else railPortsOff cablePorts (cartRailOff 0 s)

/-- Zone L: the Loft cartridge rail; the Loft is emptied (R642). -/
def loftOff (s : State) : State :=
  if !loftRail s then s else cartRailOff 2 (if hasLoft s then loftRailLost s else s)

/-- The optical cartridge rail; the modules lose their power. -/
def opticalOff (s : State) : State :=
  if !opticalRail s then s
  else
    let s := railPortsOff opticalPorts (cartRailOff 3 s)
    forEach opticalPorts (fun p t => setPort p (fun q => { q with moduleReady := false }) t) s

/-- Zone W goes off: what the wafer was doing ends, the Loft is emptied, and every rail of the zone is
switched off. -/
def waferRailsOff (s : State) : State :=
  let s := abortWhere (fun _ => true) 3 rRehome 0 s
  let s := finishAll isSnapshotOp stAborted 0 0 [] s
  let s := if loftRail s && hasLoft s then loftRailLost s else s
  let s := endFreeze none (waferDown false s)
  let s := setLatches (fun l => { l with
    slateRailEn := 0, slateRstN := 0, rimRailEn := 0, waferRstN := 0, cartRailEn := l.cartRailEn &&& 3 }) s
  forEach opticalPorts (fun p t => setPort p (fun q => { q with moduleReady := false }) t) s

/-- Zone W is switched off, and the phase is COOLANT_GATE, from which power-up continues at step 7 (R834). -/
def zoneWOff (s : State) : State :=
  if !zoneWOn s then s
  else
    let s := waferRailsOff s
    setPhase .coolantGate 0 { s with power.step := 6 }

/-- The rim-and-mesh rail goes off alone, by an ADMIN: the wafer stops as at RESTART, its collectives with their slates,
and power-up continues at step 7 (DESIGN CHOICE, entry 111). -/
def rimOff (s : State) : State :=
  if !rimRail s then s
  else
    let s := finishAll isSnapshotOp stAborted 0 0 [] (abortWhere (fun _ => true) 3 rRehome 0 s)
    let s := setLatches (fun l => { l with rimRailEn := 0 }) (endFreeze none (waferDown true s))
    if s.power.step < 7 then s else setPhase .coolantGate 0 { s with power.step := 6 }

/-- A leak or float before READY (R229): every slate rail and the rim-and-mesh rail go off, and the phase is
COOLANT_GATE, unless the sequence has not come so far. The Loft rail stays, so the regions are sealed again as after a RESTART (R640). -/
def gateLost (s : State) : State :=
  let s := finishAll isSnapshotOp stAborted 0 0 [] s
  let s := endFreeze none (waferDown true s)
  let s := setLatches (fun l => { l with slateRailEn := 0, slateRstN := 0, rimRailEn := 0, waferRstN := 0 }) s
  if s.power.step < 6 then s else setPhase .coolantGate 0 { s with power.step := 6 }

/-- The zones of a leak or float channel (Table 15.1). -/
inductive Zone where
  | w
  | l
  | c
  deriving DecidableEq, Repr

def zoneOf (ch : Nat) : Zone := if ch = 11 then .l else if ch = 12 then .c else .w

def zoneOff : Zone → State → State
  | .w => zoneWOff
  | .l => fun s => loftOff { s with power.loftHeld := s.power.loftHeld || loftRail s }
  | .c => cableOff

/-- A CONTROL AUTONOMOUS_ACTION record, whose number is the channel (R835, R879), and its counter. -/
def journalAction (builder channel : Nat) (s : State) : State :=
  journalWith (if builder = 0xFF then finialBody 12 4 0 0 0 channel s else controlBody 12 4 0 0 0 channel s) builder 0 (count (cFinial 7) s)

end Sys2Proof.Machine
end

