-- ==== Sys2Proof/Machine/SlateCmds.lean ====
section
/-! DEFINITION. The commands of Table 6.8: topology, dormer sessions, skylight samples, isolation and
restoration of slates (02, 06, 08). -/

namespace Sys2Proof.Machine

/-! ### Reads -/

/-- The active list of the descriptor (R88). -/
def activeList (s : State) : List Nat := (List.range 36).filter fun n => siteRole n s = 0

/-- A number as a byte, 0xFF for none. -/
def byteOr (o : Option Nat) : List Byte := le 1 (o.getD 0xFF)

/-- One site's entry of TOPOLOGY_READ. -/
def siteEntry (n : Nat) (s : State) : List Byte :=
  le 1 (siteRole n s) ++ le 1 (site n s).state.code ++ byteOr ((activeList s).findIdx? (· = n)) ++
    byteOr (loftsOf n s).head? ++ le 1 (portsOf n s).length ++ zs 3

def topologyReadRun (_p : Packet) (s : State) : State × Ans :=
  let ds := detoursInUse s
  (s, ok ((List.range 36).flatMap (fun n => siteEntry n s) ++
    (List.range 160).flatMap (fun p => byteOr (if portFitted p s then servingSite p s else none)) ++
    le 2 ds.length ++ zs 2 ++ ds.flatMap fun d => le 1 d.1 ++ le 1 d.2.1 ++ le 1 d.2.2 ++ zs 1))

def dormerStatusRun (_p : Packet) (s : State) : State × Ans :=
  (s, ok ((List.range 8).flatMap fun n =>
    let d := s.switch.dormers.getD n {}
    le 1 n ++ le 1 (param (pDormer n 0) s) ++ le 2 (param (pDormer n 5) s) ++ le 8 d.copies ++ le 8 d.dropped))

/-- One sample of SKYLIGHT_READ. -/
def sampleEntry (x : Sample) : List Byte := le 8 x.tally ++ le 2 x.port ++ le 2 x.length ++ zs 4 ++ x.head

def skylightReadRun (p : Packet) (s : State) : State × Ans :=
  let (es, more) := listReply p.path 8 144 (field p.body 0 2) ((site p.inst.toNat s).ring.map sampleEntry)
  (s, ok (le 2 es.length ++ le 1 (bit more) ++ zs 5 ++ es.flatten))

/-! ### Isolation by command (R91, R342) -/

def slateIsolateRun (p : Packet) (s : State) : State × Ans :=
  let n := p.inst.toNat
  if isServing n s then (startOp (.slateIsolate n) p 0x3C s, .accept []) else (s, refuse stPrecond rNotServing 0)

/-! ### Restoration (R99, R343, R839) -/

def isRestoreOp (n : Nat) : OpKind → Bool
  | .slateRestore m => m = n
  | _ => false

/-- Ends the first SLATE_RESTORE of a site. -/
def finishRestore (n status reason arg : Nat) (payload : List Byte) (s : State) : State :=
  match opsOf (isRestoreOp n) s with
  | [] => s
  | o :: _ => finishOp o status reason arg payload s

/-- Ticks in 24 h. -/
def tkPerDay : Nat := 86400 * 1000 * tkPerMs

/-- A site that has tripped twice within 24 h (R839). -/
def trippedTwice (n : Nat) (s : State) : Bool :=
  2 ≤ ((site n s).fuseTrips.filter fun t => s.now < t + tkPerDay).length

/-- What a restore waits for (R99): the site's own re-homing, another restore, or an MBIST_RUN. -/
def restoreWaits (n : Nat) (s : State) : Bool :=
  ((site n s).bistRunning && !rollLoads n s) || s.switch.rehomings.any fun r => r.site = n

/-- Takes up the first SLATE_RESTORE of a site: it is refused, waits, has nothing to restore, or starts slate
BIST with the rail on and the reset held. A site that a roll loads leaves it and loads the slot that the pointer names
(R979). -/
def tryRestore (n : Nat) (s : State) : State :=
  if !hasOp (isRestoreOp n) s then s
  else if defective n s || trippedTwice n s then finishRestore n stFaulted rUnit n [] s
  else if restoreWaits n s then setSite n (fun t => { t with restoreWaiting := true }) s
  else if forwards n s then finishRestore n stOk 0 0 (le 1 0 ++ zs 7) s
  else slateRailOn n (setSite n (fun t => { t with restoreWaiting := false, bistRunning := true }) (leaveRoll n s))

/-- Restores that waited and whose site is free to start. -/
def retryRestores (s : State) : State :=
  forEach (List.range 36) (fun n t => if (site n t).restoreWaiting && !restoreWaits n t then
    tryRestore n (setSite n (fun x => { x with restoreWaiting := false }) t) else t) s

def slateRestoreRun (p : Packet) (s : State) : State × Ans :=
  if s.power.phase = .links ∨ s.power.phase = .ready then
    (startOp (.slateRestore p.inst.toNat) p 0x3D s, .accept [])
  else (s, refusePhase s)

def slateRestoreAfter (p : Packet) (s : State) : State := tryRestore p.inst.toNat s

/-- Whether a site that boots now, during a roll, runs the new image (R979). -/
def pointerImage (s : State) : Bool := s.firmware.activation.any fun a => a.kind = 0 && !a.reverting

/-- A restore's slate BIST ends (R99, R343): the site becomes free, or stays in reset with its rail on. A site whose rail
went off meanwhile does not pass, and stays isolated. -/
def restoreDone (n : Nat) (r : SlateBist) (s : State) : State :=
  let r := { r with pass := r.pass && slateRail n s }
  let s := bistOutcome n r s
  let s := if r.pass then
      let new := pointerImage s
      let s := slateRelease n (setSite n (fun t => { t with state := .idle, cause := 0, newImage := new }) s)
      finishRestore n stOk 0 0 (le 1 0 ++ zs 7)
        (journalWafer (.fabric 3 0 0 0xFFFF n n (tallyNat s) 0 0 0 0 0) s)
    else
      finishRestore n stFaulted rUnit n (le 1 1 ++ zs 7) (if slateRail n s then setSite n (fun t => { t with state := .failed, cause := 0 }) s else s)
  retryRestores (tryRestore n s)

end Sys2Proof.Machine
end

