-- ==== Sys2Proof/Machine/Eaves.lean ====
section
/-! DEFINITION. The controllers' shared operations (05, 14): connections that end with an Eave, reset and
release of an Eave, and the naming of the authoritative one. -/

namespace Sys2Proof.Machine

/-! ### Connections (R275, R276) -/

/-- A connection ends. A session whose last connection ends lingers, and ends at once with
batten.session_linger_s = 0 (R276). -/
def dropConnection (c : Connection) (s : State) : State :=
  let left := s.batten.connections.filter fun k => k.id != c.id
  let s := { s with batten.connections := left }
  match c.session with
  | none => s
  | some o =>
    if left.any fun k => k.session = some o then s
    else if param pLinger s = 0 then endSession o s
    else { s with batten.sessions := s.batten.sessions.map fun x =>
      if x.originator = o then { x with lingering := true } else x }

/-- The tray closes a connection (R247, R249). -/
def closeConnection (c : Connection) (s : State) : State := emit (.closed c.id) (dropConnection c s)

/-- Every connection that an Eave terminates ends with it. -/
def dropEave (e : Eave) (s : State) : State :=
  (s.batten.connections.filter fun c => c.eave = e).foldl (fun t c => closeConnection c t) s

/-- Every session is lost (R809). -/
def dropSessions (s : State) : State :=
  (s.batten.sessions.map Session.originator).foldl (fun t o => endSession o t) s

/-! ### Reset lines and authority (R798, R807, R826) -/

/-- EAVE_RST_N of an Eave, bit 0 A and bit 1 B. -/
def eaveRstN (e : Eave) (s : State) : Bool := s.power.latches.eaveRstN.getLsbD (Eave.code e)

/-- The state of an Eave as Finial holds it, with the tally of the change. -/
def eaveTo (e : Eave) (st : ControllerState) (s : State) : State :=
  let t := tallyNat s
  setEave e (fun u => { u with state := st, since := if u.state = st then u.since else t }) s

/-- The windows that an Eave kept while quarantined end (R264). -/
def dropWindows (e : Eave) (s : State) : State :=
  { s with batten.windows := s.batten.windows.filter fun w => w.1 / 2 ^ 32 != 1 + Eave.code e }

/-- An Eave that is quarantined keeps the windows of the sessions as it holds them then, and counts on from there. -/
def splitWindows (e : Eave) (s : State) : State :=
  let s := dropWindows e s
  { s with batten.windows := s.batten.windows ++
      (s.batten.windows.filter fun w => 0x10000 ≤ w.1 && w.1 < 2 ^ 32).map fun w =>
        (quarantineKey w.1 e, { w.2 with kept := [], running := [] }) }

/-- An Eave is held in reset: it stops, and its connections end. Its reset line is a Coping latch. -/
def holdEave (e : Eave) (s : State) : State :=
  let s := dropWindows e s
  let s := setLatches (fun l => { l with eaveRstN := l.eaveRstN &&& ~~~(1#2 <<< Eave.code e) }) s
  dropEave e (setEave e (fun u => { u with
    booted := false, missedRun := 0, lastCount := none, heard := false, cleanRun := 0, mismatches := 0
    digestSeq := 0, digest := 0, powerUp := false }) (eaveTo e .failed s))

/-- An Eave's reset line is released; it boots. -/
def releaseEave (e : Eave) (s : State) : State :=
  setEave e (fun u => { u with releasing := false })
    (setLatches (fun l => { l with eaveRstN := l.eaveRstN ||| (1#2 <<< Eave.code e) }) s)

/-- Finial names an Eave authoritative; the other, if it was, becomes the standby (R798). -/
def nameAuthority (e : Eave) (s : State) : State :=
  let s := if (eave (peer e) s).state = .authoritative then eaveTo (peer e) .standby s else s
  eaveTo e .authoritative s

/-- Whether an Eave boots: released, and not yet booted. -/
def eaveBooting (e : Eave) (s : State) : Bool := (eaveRstN e s && !(eave e s).booted) || (eave e s).releasing

/-- Step 4 of Table 14.5: at the next rack marker the swap is journalled. -/
def swapRecord (s : State) : State :=
  if !s.referee.swapAnchor then s
  else
    let e := (authority s).map Eave.code
    let s := { s with referee.swapAnchor := false }
    journalFinial (finialBody 0 (e.getD 4) ControllerState.standby.code ControllerState.authoritative.code 0
      s.referee.swapTick s) s

end Sys2Proof.Machine
end

