-- ==== Sys2Proof/Machine/Firmware.lean ====
section
/-! DEFINITION. Firmware images and update (17): slots, boot pointers, download, verification, activation by
kind, the rolling wafer activation, confirmation, manifests, and the commands of Table 6.13. -/

namespace Sys2Proof.Machine

/-! ### Slots (R935, R937, R939) -/

/-- A slot of a target. A slot that holds no image yet is the factory's: A is ACTIVE, B is EMPTY. -/
def slotOf (kind slot target : Nat) (s : State) : ImageSlot :=
  (s.firmware.slots.find? fun x => x.kind = kind && x.slot = slot && x.target = target).getD
    { kind, slot, target, state := if slot = 0 then .active else .empty }

def storeSlot (x : ImageSlot) (s : State) : State :=
  { s with firmware.slots := (s.firmware.slots.filter fun y =>
      !(y.kind = x.kind && y.slot = x.slot && y.target = x.target)) ++ [x] }

/-- Whether a slot holds the image that the factory put there. -/
def ImageSlot.factory (x : ImageSlot) : Bool := x.image.isEmpty

/-- The fields of a header (Table 17.2). -/
def ImageSlot.version (x : ImageSlot) : Nat :=
  if x.factory then (Config.factoryVersion x.kind x.target).toNat else field x.image 8 4

def ImageSlot.epochs (x : ImageSlot) : Nat :=
  if x.factory then (Config.factoryEpochs x.kind x.target).toNat else field x.image 16 8

def ImageSlot.sha (x : ImageSlot) : Digest :=
  if x.factory then Config.factorySha x.kind x.target else sha256 x.image

/-- The arithmetic generations and the steppings that an image lists. -/
def imageGenerations (g : List Byte) : List Nat := (List.range (field g 24 1)).map fun i => field g (25 + i) 1
def imageSteppings (g : List Byte) : List Nat := (List.range (field g 32 1)).map fun i => field g (40 + 2 * i) 2

/-- The fields of a header that Table 17.2 limits: what follows the listed generations and steppings is zero, only wafer
and recovery images list any, and the reserved bytes are 0. -/
def headerGood (g : List Byte) : Bool :=
  let listing := field g 5 1 = 0 || field g 5 1 = 6
  let n := field g 24 1
  let k := field g 32 1
  let ags := imageGenerations g
  let blank (off len : Nat) : Bool := (sub g off len).all (· = 0)
  n ≤ 7 && k ≤ 8 && (listing || (n = 0 && k = 0)) && (ags.zip (ags.drop 1)).all (fun p => decide (p.1 < p.2)) &&
    blank (25 + n) (7 - n) && blank (40 + 2 * k) (16 - 2 * k) && blank 21 3 && blank 33 7 && blank 56 8 && blank 208 48

/-- The checks of R953 other than the signature. -/
def imageGood (x : ImageSlot) : Bool :=
  let g := x.image
  256 ≤ g.length && sub g 0 4 = ascii "NVIM" && field g 4 1 = 1 && field g 5 1 = x.kind && field g 6 2 = 256 &&
    headerGood g && field g 12 4 = g.length - 256 && sha256 (g.drop 256) = digestOf (sub g 64 32)

/-! ### Boot pointers (R966-R969) -/

/-- The pointer of a target; the factory's names slot A, confirmed. -/
def pointerOf (kind target : Nat) (s : State) : Pointer :=
  (s.firmware.pointers.find? fun x => x.kind = kind && x.target = target).getD
    { kind, target, first := { valid := true, generation := 1, slot := 0, trial := false, left := 0 } }

/-- Whether the second copy is the pointer in force (R967). -/
def Pointer.secondRules (p : Pointer) : Bool :=
  p.second.valid && (!p.first.valid || p.first.generation < p.second.generation)

/-- The pointer in force, none when neither copy is valid. -/
def Pointer.inForce (p : Pointer) : Option PointerCopy :=
  if p.secondRules then some p.second else if p.first.valid then some p.first else none

/-- A write puts generation + 1 into the copy that is not in force (R967). -/
def writePointer (kind target slot : Nat) (trial : Bool) (left : Nat) (s : State) : State :=
  let p := pointerOf kind target s
  let g := ((p.inForce.map PointerCopy.generation).getD 0) + 1
  let c : PointerCopy := { valid := true, generation := g, slot, trial, left }
  let p := if p.secondRules then { p with first := c } else { p with second := c }
  { s with firmware.pointers := (s.firmware.pointers.filter fun x => !(x.kind = kind && x.target = target)) ++ [p] }

/-- The slot booted when neither copy is valid (R968). -/
def fallbackSlot (kind target : Nat) (s : State) : Option Nat :=
  match [0, 1].find? fun i => (slotOf kind i target s).state = .active with
  | some i => some i
  | none => [0, 1].find? fun i => (slotOf kind i target s).state = .verified

/-- Puts an image into the running set, in place of the target's others. -/
def runImage (r : Running) (s : State) : State :=
  { s with firmware.running := (s.firmware.running.filter fun x => !(x.kind = r.kind && x.target = r.target)) ++ [r] }

/-- What a slot's image is once it runs. -/
def runningFrom (x : ImageSlot) : Running :=
  { kind := x.kind, slot := x.slot, target := x.target, version := BitVec.ofNat 32 x.version, sha := x.sha
    epochs := BitVec.ofNat 64 x.epochs, generations := if x.factory then [1] else imageGenerations x.image }

def setSlotState (kind slot target : Nat) (st : SlotState) (s : State) : State :=
  storeSlot { slotOf kind slot target s with state := st, busy := false } s

/-- A target boots (R968, R969): the slot that its pointer names, a TRIAL pointer counting one trial boot, and
a TRIAL pointer with none left reverting to the other slot. The flag says that it reverted; none means that
no slot is bootable. -/
def bootTarget (kind target : Nat) (s : State) : State × Option Nat × Bool :=
  match (pointerOf kind target s).inForce with
  | none =>
    match fallbackSlot kind target s with
    | some i => (runImage (runningFrom (slotOf kind i target s)) s, some i, false)
    | none => (s, none, false)
  | some c =>
    if !c.trial then (runImage (runningFrom (slotOf kind c.slot target s)) s, some c.slot, false)
    else if c.left = 0 then
      let o := 1 - c.slot
      let s := writePointer kind target o false 0 (count (cUpdate 2) s)
      let s := setSlotState kind o target .active (setSlotState kind c.slot target .verified s)
      let s := runImage (runningFrom (slotOf kind o target s)) s
      (journalFwset 3 0xFE s, some o, true)
    else
      let s := writePointer kind target c.slot true (c.left - 1) s
      (runImage (runningFrom (slotOf kind c.slot target s)) s, some c.slot, false)

/-! ### Compatibility (R940, R941, R956) -/

/-- The epoch of interface i: 0 W-E, 1 E-E, 2 E-F, 3 E-C, 4 cartridge. -/
def epochOf (e : Nat) (i : Nat) : Nat := (e / 256 ^ i) % 256

/-- Same epoch, or one side does not use the interface (R940). -/
def epochsMeet (a b : Nat) (i : Nat) : Bool := epochOf a i = 0 || epochOf b i = 0 || epochOf a i = epochOf b i

/-- The interface between two kinds of image. -/
def interfaceOf (a b : Nat) : Option Nat :=
  match min a b, max a b with
  | 0, 1 => some 0
  | 1, 1 => some 1
  | 1, 2 => some 2
  | 1, 3 => some 3
  | 1, 4 | 1, 5 => some 4
  | _, _ => none

/-- Whether two images work together; images that both come from the factory do. -/
def imagesMeet (x : Running) (xf : Bool) (r : Running) (s : State) : Bool :=
  match interfaceOf x.kind r.kind with
  | none => true
  | some i => (xf && (slotOf r.kind r.slot r.target s).factory) || epochsMeet x.epochs.toNat r.epochs.toNat i ||
      (i = 1 && rollingPair x.sha r.sha s)

/-- The first interface on which an image would not work with a running image of another unit. -/
def clash (x : Running) (xf : Bool) (s : State) : Option Nat :=
  (List.range 5).find? fun i => s.firmware.running.any fun r =>
    !(r.kind = x.kind && r.target = x.target) && interfaceOf x.kind r.kind = some i && !imagesMeet x xf r s

/-- A cartridge whose firmware does not work with the authoritative Eave is refused (Table 4.5). -/
def checkCartridges (s : State) : State :=
  let bad := (s.firmware.running.filter fun r => (r.kind = 4 || r.kind = 5) &&
    s.firmware.running.any fun e => e.kind = 1 && (authority s).any (fun x => Eave.code x = e.target) &&
      !imagesMeet r (slotOf r.kind r.slot r.target s).factory e s).map Running.target
  { s with power.refusedCartridges := bad }

/-! ### Activations (R959-R965) -/

def isActivateOp : OpKind → Bool
  | .imgActivate _ _ _ => true
  | _ => false

/-- An activation that stopped, or that reached its ready point: its command completes, unless a RESTART completed it. -/
def finishActivation (status reason arg : Nat) (payload : List Byte) (s : State) : State :=
  let ended := s.firmware.activation.any Activation.ended
  let s := { s with firmware.activation := none }
  match opsOf isActivateOp s with
  | [] => s
  | o :: _ => if ended then s else finishOp o status reason arg payload s

/-- The reason code of a FWSET record for a switch of a kind (R973). -/
def switchReason : Nat → Option Nat
  | 0 | 2 | 3 => some 1
  | 1 => some 4
  | 4 | 5 => some 5
  | _ => none

/-- The target reached its ready point (R960): the old slot stays as the fallback, and the running set is
judged again. -/
def activated (a : Activation) (s : State) : State :=
  let s := setSlotState a.kind (1 - a.slot) a.target .verified
    (storeSlot { slotOf a.kind a.slot a.target s with busy := false } s)
  let s := refreshTested s
  let s := match switchReason a.kind with
    | some r => journalFwset r 0xFE s
    | none => s
  finishActivation stOk 0 0 (le 8 (tallyNat s)) s

/-- The running set with one target's image replaced. -/
def withImage (r : Running) (s : State) : List Running :=
  (s.firmware.running.filter fun x => !(x.kind = r.kind && x.target = r.target)) ++ [r]

/-! ### The rolling wafer activation (Table 17.5) -/

/-- Whether a site runs the image that the roll wants on every site. -/
def onWanted (a : Activation) (n : Nat) (s : State) : Bool := (site n s).newImage != a.reverting

/-- A site that loads the wanted image and runs slate BIST is out of service until it runs the image: TOPOLOGY_READ
shows it ISOLATED, with the cause ACTIVATION (DESIGN CHOICE, entry 108). -/
def loadSites (a : Activation) (ns : List Nat) (s : State) : State :=
  let s := forEach ns (fun n t => setSite n (fun x => { x with
    state := .isolated, cause := BitVec.ofNat 16 rActivation, bistRunning := true }) t) s
  { s with firmware.activation := some { a with loading := a.loading ++ ns } }

/-- Free sites that run the wanted image and that no re-homing has taken. -/
def rollTargets (a : Activation) (s : State) : List Nat :=
  (List.range 36).filter fun m => (site m s).state = .idle && isFree m s && onWanted a m s && !(reservedSites s).contains m

/-- Sites still to be switched. -/
def unswitched (st : SiteState) (a : Activation) (s : State) : List Nat :=
  (List.range 36).filter fun n => (site n s).state = st && !onWanted a n s

/-- The new wafer image alone runs, or after a stop the old one (R962, R964). -/
def rollDone (a : Activation) (s : State) : State :=
  let s := forEach (List.range 36) (fun n t => setSite n (fun x => { x with newImage := false }) t) s
  if a.reverting then
    let s := refreshTested (runImage (runningFrom (slotOf 0 (1 - a.slot) 0 s)) s)
    finishActivation stFaulted rUnit a.failedSite [] (journalFwset 3 0xFE s)
  else activated a (runImage (runningFrom (slotOf 0 a.slot 0 s)) s)

/-- Whether a drain for the roll is under way. -/
def rollDrains (s : State) : Bool := s.switch.rehomings.any Rehoming.drain

/-- The next steps of a roll: free sites load, the first serving site still to be switched drains to the
nearest free site that runs the wanted image, and the roll ends when none is left. -/
def rollNext (s : State) : State :=
  match s.firmware.activation with
  | none => s
  | some a =>
    if a.kind ≠ 0 || a.restart || !s.power.slatesRunning || !waferLive s then s
    else
      let lent := (List.range 36).filter fun n => (site n s).state = .lending && graceDone n s && !onWanted a n s
      let free := (unswitched .idle a s).filter fun n => !(reservedSites s).contains n
      let s := loadSites a (free ++ lent) s
      let a := { a with loading := a.loading ++ (free ++ lent) }
      if rollDrains s then s
      else match unswitched .serving a s with
        | [] => if a.loading.isEmpty && (unswitched .lending a s).isEmpty then rollDone a s else s
        | n :: _ => match nearestFirst n (rollTargets a s) s with
          | m :: _ => drainSite n m s
          | [] => s

/-- R964: the roll stops, the pointer names the old slot again, and every switched site goes back. -/
def rollStop (a : Activation) (n : Nat) (s : State) : State :=
  let s := writePointer 0 0 (1 - a.slot) false 0 (count (cUpdate 4) s)
  let s := setSlotState 0 a.slot 0 .verified (setSlotState 0 (1 - a.slot) 0 .active s)
  rollNext { s with firmware.activation := some { a with reverting := true, failedSite := n } }

/-- A site of a roll fails slate BIST: it stays in reset, and the roll stops (R964). -/
def rollBistFailed (n : Nat) (r : SlateBist) (a : Activation) (s : State) : State :=
  let a := { a with loading := a.loading.filter (· != n) }
  let s := setSite n (fun t => { t with state := .failed, cause := 0 }) (bistOutcome n r s)
  if a.reverting then rollNext { s with firmware.activation := some a } else rollStop a n s

/-! ### Switching the other kinds (Table 17.4) -/

/-- The target Eave is held in reset for its switch; EAVE_RESTART_RELEASE ends the hold. -/
def holdForSwitch (a : Activation) (e : Eave) (s : State) : State :=
  let s := setEave e (fun u => { u with releasing := true }) (holdEave e s)
  { s with firmware.activation := some { a with loading := [a.target] } }

def eaveOf (target : Nat) : Eave := if target = 0 then .a else .b

/-- Whether an authoritative target first hands its authority to its peer, at the next rack marker. -/
def handsOver (target : Nat) (s : State) : Bool :=
  (eave (eaveOf target) s).state = .authoritative && (eave (peer (eaveOf target)) s).state = .standby

/-- The boot of a target whose switch ends with it. -/
def switchDone (a : Activation) (s : State) : State :=
  let (s, _, reverted) := bootTarget a.kind a.target s
  if reverted then finishActivation stFaulted rUnit a.target [] (refreshTested s) else activated a s

/-- The wafer activation without a free site restarts the wafer once no collective is in flight (R965). -/
def restartDue (s : State) : Bool :=
  (s.firmware.activation.any fun a => a.restart) && s.reduction.collectives.isEmpty && !s.freezeUnit.frozen && waferLive s

/-- Starts the first activation that waits (R959, R960). -/
def startActivation (s : State) : State :=
  match s.firmware.activation, opsOf isActivateOp s with
  | none, o :: _ =>
    match o.kind with
    | .imgActivate kind slot target =>
      let left := param pTrialBoots s
      let s := writePointer kind target slot true left (count (cUpdate 1) s)
      let s := storeSlot { slotOf kind slot target s with state := .trial, busy := true } s
      let a : Activation := { kind, slot, target }
      let s := { s with firmware.activation := some a }
      match kind with
      | 0 =>
        let both := s.firmware.running.filter (fun r => r.kind = 0) ++ [runningFrom (slotOf 0 slot 0 s)]
        let s' := { s with firmware.running := (s.firmware.running.filter fun r => r.kind ≠ 0) ++ both }
        let usable := (List.range 36).any fun n => isFree n s
        if usable && s.power.slatesRunning then rollNext (journalFwset 1 0xFE (refreshTested s'))
        else { s with firmware.activation := some { a with restart := true }, power.quiesced := true }
      | 1 => if handsOver target s then s else holdForSwitch a (eaveOf target) s
      | 3 => if s.tally.counting && !s.freezeUnit.frozen then s else switchDone a s
      | 6 => activated a s
      | _ => s
    | _ => s
  | _, _ => s

/-- The end of one activation starts the next that waits, as many as end at once. -/
def settleActivations (s : State) : State :=
  (opsOf isActivateOp s).foldl (fun t _ => startActivation t) s

/-- An isolation in the course of a roll: the roll skips the site (R979). -/
def isolate (n cause : Nat) (st : SiteState) (s : State) : State :=
  match s.firmware.activation with
  | some _ => settleActivations (rollNext (isolateSite n cause st s))
  | none => isolateSite n cause st s

/-- A rack marker: the peer of an authoritative target is named, and the target is held (Table 17.4). -/
def activationMarker (s : State) : State :=
  match s.firmware.activation with
  | none => s
  | some a =>
    if a.kind = 1 && a.loading.isEmpty then
      let e := eaveOf a.target
      holdForSwitch a e (if handsOver a.target s then nameAuthority (peer e) s else s)
    else s

/-- A tally mark: a Coping configuration is applied with the outputs held, and a wafer activation without a free site
restarts the wafer that has no collective left (R965). -/
def activationMark (s : State) : State :=
  match s.firmware.activation with
  | some a =>
    if a.kind = 3 then settleActivations (switchDone a s)
    else if restartDue s then byFinial restartWafer s else s
  | none => s

/-- An Eave has reached STANDBY, or AUTHORITATIVE as the only controller (Table 17.4). -/
def eaveReady (e : Eave) (s : State) : State :=
  match s.firmware.activation with
  | some a => if a.kind = 1 && a.target = Eave.code e && !a.loading.isEmpty then settleActivations (activated a s) else s
  | none => s

/-- An Eave's trial boots have run out and it booted the other slot: its activation fails (R961). -/
def eaveReverted (e : Eave) (s : State) : State :=
  match s.firmware.activation with
  | some a =>
    if a.kind = 1 && a.target = Eave.code e then settleActivations (finishActivation stFaulted rUnit a.target [] s) else s
  | none => s

/-- CARTRIDGE_MCU_READY: the MCU answers after its restart (R959). -/
def execCartridgeMcuReady (target : Nat) (s : State) : Host.Outcome State Fault Refusal :=
  match s.firmware.activation with
  | some a =>
    if (a.kind = 4 || a.kind = 5) && a.target = target then .next (checkCartridges (settleActivations (switchDone a s)))
    else .next s
  | none => .next s

/-- The target of a missed ready point is restarted, which counts as a boot; one that reverts ends its
activation (R961). -/
def restartTarget (a : Activation) (s : State) : State :=
  let (s, _, reverted) := bootTarget a.kind a.target s
  if reverted then settleActivations (finishActivation stFaulted rUnit a.target [] (refreshTested s)) else s

/-- ROLL_SITE_READY: a site runs the wanted image and has passed slate BIST, and is free (Table 17.5). -/
def execRollSiteReady (site_ : Nat) (s : State) : Host.Outcome State Fault Refusal :=
  match s.firmware.activation with
  | none => .next s
  | some a =>
    if !waferLive s || a.kind ≠ 0 || !a.loading.contains site_ then .next s
    else
      let s := setSite site_ (fun t => { t with
        state := .idle, cause := 0, bistPassed := true, bistRunning := false, newImage := !a.reverting }) s
      .next (settleActivations
        (rollNext { s with firmware.activation := some { a with loading := a.loading.filter (· != site_) } }))

/-- ACTIVATION_TIMEOUT. An Eave's restart is a reset, and its boot then counts. -/
def execActivationTimeout (site_ : Nat) (s : State) : Host.Outcome State Fault Refusal :=
  match s.firmware.activation with
  | none => .next s
  | some a =>
    if a.kind = 0 then
      if !waferLive s || !a.loading.contains site_ then .next s
      else if a.reverting then
        let s := setSite site_ (fun t => { t with state := .failed, cause := 0, bistRunning := false }) s
        .next (settleActivations
          (rollNext { s with firmware.activation := some { a with loading := a.loading.filter (· != site_) } }))
      else .next (settleActivations (rollStop a site_ s))
    else if a.kind = 1 then .next (holdForSwitch a (eaveOf a.target) s)
    else .next (restartTarget a s)

/-- An MBIST_RUN whose site is free starts slate BIST, which holds the site in reset (Table 18.5, R1027). -/
def startMbist (s : State) : State :=
  match s.patrol.mbistSite with
  | some n =>
    if s.patrol.mbistWait && (!(site n s).bistRunning || rollLoads n s) then
      setSite n Site.underBist { s with patrol.mbistWait := false }
    else s
  | none => s

/-- An MBIST_RUN ends: its register shows done and pass. -/
def mbistEnds (n : Nat) (pass : Bool) (s : State) : State :=
  retryRestores (setSite n (fun t => { t with bistRunning := false })
    { s with patrol := { s.patrol with
        mbistDone := true
        wafer := if s.patrol.wafer.ir = 0x23 then { s.patrol.wafer with dr := 1 + 2 * bit pass } else s.patrol.wafer } })

/-- SLATE_BIST_DONE: for MBIST_RUN, for SLATE_RESTORE, or for a roll (R1008). -/
def execSlateBistDone (site_ : Nat) (result : SlateBist) (s : State) : Host.Outcome State Fault Refusal :=
  if !(site site_ s).bistRunning then .next s
  else if s.patrol.mbistSite = some site_ && !s.patrol.mbistDone && !s.patrol.mbistWait then
    .next (mbistEnds site_ result.pass s)
  else match s.firmware.activation with
    | some a =>
      if a.loading.contains site_ && a.kind = 0 then
        if !waferLive s then .next s
        else if result.pass then .next (setSite site_ (fun t => { t with bistRunning := true }) (bistOutcome site_ result s))
        else .next (settleActivations (rollBistFailed site_ result a s))
      else .next (if waferLive s then settleActivations (rollNext (startMbist (restoreDone site_ result s))) else s)
    | none => .next (if waferLive s then startMbist (restoreDone site_ result s) else s)

/-- REHOME_MAP_SWITCH: the oldest re-homing reaches step 6 (R98); a drain waits until its slate is empty
(R95). A site drained for a roll then loads its image. -/
def execRehomeMapSwitch (s : State) : Host.Outcome State Fault Refusal :=
  let oldest := s.switch.rehomings.foldl (fun best r => match best with
    | none => some r
    | some b => if r.startTally < b.startTally || (r.startTally = b.startTally && r.site < b.site) then some r else some b)
    none
  let s := if waferLive s then landAll s else s
  match oldest with
  | none => .next s
  | some r =>
    if !waferLive s || (r.drain && !drained r.site s) then .next s
    else .next (settleActivations (rollNext (retryRestores (finishRehoming r s))))

/-! ### The commands of Table 6.13 -/

/-- The image that a command names. -/
def imageName (b : List Byte) : Nat × Nat × Nat := (field b 0 1, field b 1 1, field b 2 2)

/-- The slots from which a target runs: for the wafer during a roll, both. -/
def isRunningSlot (kind slot target : Nat) (s : State) : Bool :=
  (s.firmware.running.any fun r => r.kind = kind && r.slot = slot && r.target = target) ||
    (kind = 6 && (pointerOf 6 0 s).inForce.any fun c => c.slot = slot)

/-- The refusal of a download by R951. -/
def slotBusy (kind slot target : Nat) (s : State) : Bool :=
  isRunningSlot kind slot target s || (slotOf kind slot target s).busy ||
    (slotOf kind (1 - slot) target s).state = .trial

def imgDownloadRun (p : Packet) (s : State) : State × Ans :=
  let b := p.body
  let (kind, slot, target) := imageName b
  let total := field b 8 8
  let off := field b 16 8
  let chunk := b.drop 32
  let x := slotOf kind slot target s
  if total < 256 || slotSize kind < total then (s, refuse stRange rField 8)
  else if off ≠ 0 && (x.state ≠ .incomplete || x.owner ≠ p.originator || off ≠ x.image.length) then
    (s, refuse stRange rField 16)
  else if off ≠ 0 && total ≠ x.total then (s, refuse stRange rField 8)
  else if total < off + chunk.length then (s, refuse stRange rField 24)
  else if let some (o, _) := fieldFault b 28 4 .zero then (s, refuse stRange rReserved o)
  else if slotBusy kind slot target s then (s, refuse stPrecond rActiveSlot 0)
  else
    let image := if off = 0 then chunk else x.image ++ chunk
    let st : SlotState := if image.length = total then .unverified else .incomplete
    (storeSlot { x with state := st, owner := p.originator, total, image } s, ok (le 8 image.length))

def imgVerifyRun (p : Packet) (s : State) : State × Ans :=
  let (kind, slot, target) := imageName p.body
  let x := slotOf kind slot target s
  if x.state ≠ .unverified && x.state ≠ .verified then (s, refuse stPrecond rIncomplete 0)
  else (startOp (.imgVerify kind slot target) p 0x81 (storeSlot { x with busy := true } s), .accept [])

/-- The payload of a verification that passed. -/
def verifyPayload (x : ImageSlot) : List Byte := le 4 x.version ++ le 8 x.epochs ++ zs 4 ++ digestBytes x.sha

/-- A verification that a target reruns after it lost its power ends without a command (Table 17.6). -/
def verifyAgain (x : ImageSlot) (result : VerifyResult) (s : State) : State :=
  if x.factory || (imageGood x && result.signatureGood) then storeSlot { x with state := .verified, busy := false } s
  else storeSlot { x with state := .unverified, busy := false } (count (cUpdate 3) s)

/-- IMG_VERIFY_DONE: a rerun first, else the first verification in progress completes (R953, R954). -/
def execImgVerifyDone (result : VerifyResult) (s : State) : Host.Outcome State Fault Refusal :=
  match s.firmware.reverify with
  | (kind, slot, target) :: rest =>
    .next (verifyAgain (slotOf kind slot target s) result { s with firmware.reverify := rest })
  | [] => match s.batten.ops.find? fun o => match o.kind with | .imgVerify _ _ _ => true | _ => false with
  | none => .next s
  | some o =>
    match o.kind with
    | .imgVerify kind slot target =>
      let x := slotOf kind slot target s
      let more := 1 < (s.batten.ops.filter fun q => q.kind = o.kind).length
      if x.factory || (imageGood x && result.signatureGood) then
        .next (finishOp o stOk 0 0 (verifyPayload x) (storeSlot { x with state := .verified, busy := more } s))
      else
        .next (finishOp o stFaulted rSignature 0 []
          (storeSlot { x with state := .unverified, busy := more } (count (cUpdate 3) s)))
    | _ => .next s

/-- The refusals of R956, in order. -/
def activateRefusal (kind slot target : Nat) (s : State) : Option Ans :=
  let x := slotOf kind slot target s
  let r := runningFrom x
  if x.state ≠ .verified then some (refuse stPrecond rUnverified 0)
  else match clash r x.factory s with
    | some i => some (refuse stPrecond rEpoch i)
    | none =>
      if kind = 0 && !x.factory && !(imageSteppings x.image).contains s.ident.stepping.toNat then
        some (refuse stPrecond rEpoch 0)
      else if isLedger s && kind ≠ 6 && !activationTested (withImage r s) s then some (refuse stPrecond rUntested 0)
      else none

/-- Whether a slot is already the confirmed running slot (R978). -/
def confirmedRunning (kind slot target : Nat) (s : State) : Bool :=
  isRunningSlot kind slot target s && (slotOf kind slot target s).state = .active &&
    !s.firmware.activation.any fun a => a.kind = kind && a.target = target

def imgActivateRun (p : Packet) (s : State) : State × Ans :=
  let (kind, slot, target) := imageName p.body
  if confirmedRunning kind slot target s then (startOp (.imgActivate kind slot target) p 0x82 s, .accept [])
  else match activateRefusal kind slot target s with
    | some a => (s, a)
    | none => (startOp (.imgActivate kind slot target) p 0x82 s, .accept [])

def imgActivateAfter (p : Packet) (s : State) : State :=
  let (kind, slot, target) := imageName p.body
  if confirmedRunning kind slot target s then
    finishAll (fun k => k = .imgActivate kind slot target) stOk 0 0 (le 8 (tallyNat s)) s
  else settleActivations s

def imgConfirmRun (p : Packet) (s : State) : State × Ans :=
  let (kind, slot, target) := imageName p.body
  let x := slotOf kind slot target s
  if x.state ≠ .trial || x.busy then (s, refuse stPrecond rNotTrial 0)
  else
    let s := writePointer kind target slot false 0 s
    let s := setSlotState kind slot target .active (setSlotState kind (1 - slot) target .verified s)
    (journalFwset 2 0xFE s, ok [])

/-- One slot of IMG_STATUS; what an image says of itself is shown once it is verified. -/
def slotEntry (kind slot target : Nat) (s : State) : List Byte :=
  let x := slotOf kind slot target s
  let left := match (pointerOf kind target s).inForce with
    | some c => if c.slot = slot && c.trial then c.left else 0
    | none => 0
  let shown := match x.state with
    | .verified | .active | .trial => true
    | _ => false
  le 1 x.state.code ++ le 1 left ++ zs 2 ++
    (if shown then le 4 x.version ++ le 8 x.epochs ++ digestBytes x.sha else zs 44)

def imgStatusRun (p : Packet) (s : State) : State × Ans :=
  let kind := field p.body 0 1
  let target := field p.body 2 2
  let c := ((pointerOf kind target s).inForce).getD {}
  (s, ok (slotEntry kind 0 target s ++ slotEntry kind 1 target s ++ le 4 c.generation ++ le 1 c.slot ++ zs 3))

/-- The format of Table 17.3 and R942. -/
def manifestGood (m : List Byte) : Bool :=
  m.length ≤ 524288 && 144 ≤ m.length && sub m 0 8 = ascii "NVRELMAN" && field m 8 2 = 1 &&
    (setOffsets m (field m 10 2) 32).2 + 64 * field m 12 2 + 112 = m.length

def manifestLoadRun (p : Packet) (s : State) : State × Ans :=
  let m := p.body.drop 8
  if !manifestGood m || !Config.manifestVerifies m then (s, refuse stPrecond rSignature 0)
  else
    let s := { s with firmware.manifest := m, firmware.manifestGood := true }
    let s := journalFinial (paramBody 5 (field m 10 2) p.originator.toNat (markTallyNat s) (sha256 m) s) s
    (refreshTested s, ok (digestBytes (sha256 m)))

def manifestReadRun (_p : Packet) (s : State) : State × Ans :=
  (s, ok (le 4 s.firmware.manifest.length ++ zs 4 ++ s.firmware.manifest))

/-- FW_IDENTITY: the running images. -/
def fwIdentityRun (_p : Packet) (s : State) : State × Ans :=
  let rs := runningOrder s.firmware.running
  (s, ok (le 2 rs.length ++ zs 2 ++ rs.flatMap runningBytes))

end Sys2Proof.Machine
end

