-- ==== Sys2Proof/Machine/Tally.lean ====
section
/-! DEFINITION. The tally (03): acquisition, rack markers, slewing, holdover, anchors, broadcasts, row
synchronisation, and entry to READY; with TALLY_STATUS and TALLY_REACQUIRE. -/

namespace Sys2Proof.Machine

/-! ### READY and HELD (R227, R228, R783) -/

def isRestartOp : OpKind → Bool
  | .restart => true
  | _ => false

/-- A RESTART completes with the phase reached (R783). -/
def finishRestart (s : State) : State :=
  if !s.power.restarting then s
  else
    finishAll isRestartOp stOk 0 0 (le 1 s.power.phase.code ++ zs 1 ++ le 2 s.power.cause.toNat ++ zs 4)
      { s with power.restarting := false }

/-- The phase becomes HELD with a cause. -/
def reachHeld (cause : Nat) (s : State) : State := finishRestart (setPhase .held cause s)

/-- The conditions of READY (R227). -/
def readyNow (s : State) : Bool :=
  s.power.phase = .links && s.power.slatesRunning && s.tally.state != .acquiring && (!isLedger s || bankAccepts s) &&
    !s.freezeUnit.frozen

/-- The phase becomes READY; role swaps and the patrol start from this tally value (R228). -/
def checkReady (s : State) : State :=
  if !readyNow s then s
  else
    let t := tallyNat s
    let s := setPhase .ready 0 s
    finishRestart { s with
      power.step := 14, referee.readyTally := t, referee.swapIndex := 1, patrol.started := true, patrol.cycleStart := t }

/-! ### Acquisition (Table 3.5) -/

/-- Acquisition begins: the PLL starts when TALLY_SYNC is present. -/
def startAcquiring (s : State) : State :=
  { s with tally := { s.tally with
      acquire := if s.tally.pllLocked && s.tally.syncPresent then .waitAnnounce else .waitPll
      announced := none, expected := none, awaitAnnounced := false, slewLeft := 0, lastMarker := none } }

/-- TALLY_PLL_LOCK (step 2). -/
def execTallyPllLock (s : State) : Host.Outcome State Fault Refusal :=
  if waferLive s && s.tally.syncPresent && s.tally.acquire = .waitPll then
    .next { s with tally := { s.tally with pllLocked := true, acquire := .waitAnnounce, announced := none } }
  else .next s

def isReacquireOp : OpKind → Bool
  | .reacquire _ => true
  | _ => false

/-- Ports past their plan check carry traffic once the tally has left ACQUIRING (R226). -/
def releaseWaiting (s : State) : State :=
  forEach (List.range 160) (fun p t => if (port p t).state = .waiting then enterUp p t else t) s

/-- The second good marker: LOCKED, and a TALLY_REACQUIRE completes with the value before the reload and the
value loaded, two marker intervals ago. -/
def tallyLocked (s : State) : State :=
  let loaded := tallyNat s - 131072
  let s := tallyTo .locked 0 { s with tally.acquire := .idle }
  let s := finishAll isReacquireOp stOk 0 0 (le 8 s.tally.before ++ le 8 loaded) s
  checkReady (releaseWaiting s)

/-- The tally is loaded with the announced value (step 4). A load after the first since power-up is a reacquisition, and
is journalled (R168): by command, after RESTART (R189), or after a marker that failed step 5. Multiples of the snapshot
period that the load passes over are not taken (R154). -/
def loadTally (m : Nat) (s : State) : State :=
  let old := tallyNat s
  let again := s.tally.loaded
  let s := { s with
    counters.lastPeriodic := none
    tally := { s.tally with
      value := BitVec.ofNat 64 m, counting := true, acquire := .checkMarkers 2, before := old, announced := none
      expected := some m, loaded := true, skipped := none } }
  if again then journalWafer (tallyBody 2 .acquiring old m s) s else s

/-! ### Rack markers (R161-R167) -/

/-- The error of a marker and its count (R161). -/
def noteError (e : Int) (s : State) : State :=
  let s := { s with tally.lastError := e }
  if e = 0 then s else count (cTally 1) s

/-- Table 3.4a. -/
def handleError (e : Int) (expected : Nat) (s : State) : State :=
  let s := noteError e s
  if e.natAbs ≤ 1 then tallyTo .locked 0 { s with tally.slewLeft := e }
  else if e.natAbs ≤ 65536 then tallyTo .slewing 0 { s with tally.slewLeft := e }
  else if e < 0 then
    let old := tallyNat s
    let s := { s with tally.value := BitVec.ofNat 64 expected, tally.slewLeft := 0, tally.skipped := none }
    let s := tallyTo .slewing 0 s
    journalWafer (tallyBody 1 .slewing old expected s) s
  else cancelArm (tallyTo .unlocked rTallyAhead { s with tally.slewLeft := 0 })

/-- The expected value of this marker, of 64 bits: the announced one, or the last expected one plus 2^16. -/
def markerValue (s : State) : Option Nat :=
  match s.tally.announced with
  | some m => some m
  | none => s.tally.expected.map fun v => (v + 65536) % 2 ^ 64

/-- The marker error as a signed 64-bit number (R161). -/
def markerError (v : Nat) (s : State) : Int := (s.tally.value - BitVec.ofNat 64 v).toInt

/-- What a marker does to the tally, by its state. -/
def markTally (s : State) : State :=
  let announced := s.tally.announced
  let value := markerValue s
  let s := { s with tally.announced := none, tally.expected := value }
  match s.tally.acquire with
  | .waitAnnounce | .waitMarker =>
    match announced with
    | some m => loadTally m s
    | none => s
  | .checkMarkers k =>
    if tallyNat s % 65536 = 0 then
      if k ≤ 1 then tallyLocked s else { s with tally.acquire := .checkMarkers (k - 1) }
    else
      let e := (value.map fun v => markerError v s).getD 0
      count (cTally 1) { s with tally := { s.tally with acquire := .waitAnnounce, expected := none, lastError := e } }
  | .waitPll => s
  | .idle =>
    if s.tally.cause.toNat = rTallyAhead then s
    else if s.tally.awaitAnnounced && announced.isNone then { s with tally.expected := none }
    else
      match s.tally.state, value with
      | .acquiring, _ => s
      | .holdover, some v | .unlocked, some v | .locked, some v | .slewing, some v =>
        handleError (markerError v s) v { s with tally.awaitAnnounced := false }
      | _, none => s

/-- The servo of an Eave. -/
def servo (e : Eave) (s : State) : PtpServo :=
  match e with
  | .a => s.tally.servoA
  | .b => s.tally.servoB

/-- The Eave whose time a marker captures: the authoritative one, and at the marker of a swap itself still the former one
(R178, R188). -/
def anchorEave (s : State) : Option Eave :=
  (authority s).map fun e => if s.referee.swapAnchor && decide (tallyNat s ≤ s.referee.swapTick) then peer e else e

/-- The anchor that an Eave supplies at a marker (R178, R180), at 8 ns resolution. Anchors that no later stamp can use
are dropped: those at or above the new one. -/
def anchorAt (capture : Option PtpCapture) (s : State) : State :=
  let t := tallyNat s
  match capture, anchorEave s with
  | some c, some e =>
    let v := servo e s
    { s with tally.anchors :=
        { tally := t, at_ := s.now, ptpNs := c.ptpNs / 8 * 8, utcOffset := v.utcOffset
          good := v.acquired && decide (v.offsetNs ≤ 1000) } :: s.tally.anchors.filter fun a => a.tally < t }
  | _, _ => s

/-- The fraction of a tick in 1/16 tk at which a tally block leaves or arrives (R169, R432): the manual gives no phase,
and the fraction is a free value. -/
def fraction (s : State) : BitVec 4 := Config.tallyFraction s.freeCount

/-- A stamp in units of 1/16 tk (R432). -/
def stamp16 (frac : BitVec 4) (s : State) : U64 := s.tally.value * 16 + frac.zeroExtend 64

/-- After a marker, accelerator ports carry the tally and uplinks to rack 0 start an exchange (R169, R171). -/
def broadcastTally (s : State) : State :=
  let st := s.tally.state.code
  let s := match s.tally.state with
    | .locked | .slewing | .holdover =>
      forEach (List.range 128) (fun p t =>
        if (port p t).state = .up then emit (.tally p .broadcast st (fraction t) t.tally.value 0 0) (bumpFree t) else t) s
    | _ => s
  forEach (rowUplinks s) (fun p t => emit (.tally p .request st 0 (stamp16 (fraction t) t) 0 0) (bumpFree t)) s

/-- Whether TALLY_SYNC drives the count between two markers. -/
def syncDriven (s : State) : Bool := s.tally.syncPresent && s.tally.counting && !s.freezeUnit.frozen

/-- The reference cycles since the last marker pass: TALLY_SYNC gives 2^16 from marker to marker. -/
def toMarker (s : State) : State :=
  match s.tally.lastMarker with
  | some t => if syncDriven s then advance (t + 65536 - s.now) s else s
  | none => s

/-- RACK_MARKER. -/
def execRackMarker (capture : Option PtpCapture) (s : State) : Host.Outcome State Fault Refusal :=
  if !waferLive s || !s.tally.syncPresent || !s.tally.pllLocked then .next s
  else
    let s := markTally (toMarker s)
    let now := s.now
    let s := { s with tally.lastMarker := some now, switch.severed := []
                      ports := s.ports.map fun q => { q with requestAnswered := false } }
    .next (activationMarker (swapRecord (broadcastTally (anchorAt capture s))))

/-- TALLY_SLEW_STEP: one tick in 1,024 advances the tally by 0 or 2 (R163), and the ramp bucket gains as at any tick
(R118). -/
def execTallySlewStep (s : State) : Host.Outcome State Fault Refusal :=
  if !waferLive s || !s.tally.counting then .next s
  else
    if 0 < s.tally.slewLeft then
      .next (rampRefill 1 { s with now := s.now + 1, tally.slewLeft := s.tally.slewLeft - 1 })
    else if s.tally.slewLeft < 0 then
      let s' := advance 1 s
      .next { s' with tally := { s'.tally with
        value := s.tally.value + 2, slewLeft := s.tally.slewLeft + 1, skipped := some (tallyNat s + 1) } }
    else .next s

/-! ### Loss and return of TALLY_SYNC (R158, R164-R166) -/

/-- TALLY_SYNC is declared lost: HOLDOVER from LOCKED or SLEWING, and an acquisition starts over. What was left of a slew
is dropped (DESIGN CHOICE, entry 100). -/
def syncLost (s : State) : State :=
  let s := { s with tally := { s.tally with
      syncPresent := false, pllLocked := false, expected := none, announced := none, slewLeft := 0, lastMarker := none
      acquire := if s.tally.acquire = Acquire.idle then Acquire.idle else .waitPll } }
  match s.tally.state with
  | .locked | .slewing => if waferLive s then tallyTo .holdover 0 s else s
  | _ => s

/-- TALLY_SYNC_LOSS. -/
def execTallySyncLoss (s : State) : Host.Outcome State Fault Refusal :=
  if s.tally.syncPresent then .next (syncLost s) else .next s

/-- TALLY_FREQ_WINDOW: beyond 100 ppm the sync is lost; between 80 and 100 ppm it may be (R158). -/
def execTallyFreqWindow (ppmTenths : Int) (s : State) : Host.Outcome State Fault Refusal :=
  if !s.tally.syncPresent || ppmTenths.natAbs ≤ 800 then .next s
  else if 1000 < ppmTenths.natAbs then .next (syncLost s)
  else if Config.frequencyLost s.freeCount then .next (syncLost (bumpFree s)) else .next (bumpFree s)

/-- HOLDOVER_EXPIRY. -/
def execHoldoverExpiry (s : State) : Host.Outcome State Fault Refusal :=
  if waferLive s && s.tally.state = .holdover then .next (cancelArm (tallyTo .unlocked 0 s)) else .next s

/-- TALLY_SYNC_RETURN: the error is measured at the next announced marker (R166). -/
def execTallySyncReturn (s : State) : Host.Outcome State Fault Refusal :=
  if s.tally.syncPresent then .next s
  else
    let waits := s.tally.state != .acquiring
    .next { s with tally := { s.tally with
      syncPresent := true, pllLocked := waits, awaitAnnounced := waits, announced := none } }

/-! ### Exchanges with other trays (R171-R173, R434) -/

/-- A signed difference of two 64-bit stamps. -/
def stampDiff (a b : U64) : Int := (a - b).toInt

/-- TALLY_REQUEST: answered at most once per port between two markers (R434). -/
def execTallyRequest (port : Nat) (t1 : U64) (s : State) : Host.Outcome State Fault Refusal :=
  let q := Sys2Proof.Machine.port port s
  if !waferLive s || q.state ≠ .up then .next s
  else if q.requestAnswered then .next (count (cPort port 0x15) s)
  else .next (emit (.tally port .response s.tally.state.code 0 (stamp16 (fraction (bumpFree s)) s) (stamp16 (fraction s) s) t1)
    (setPort port (fun q => { q with requestAnswered := true }) (bumpFree (bumpFree s))))

/-- TALLY_RESPONSE completes an exchange. -/
def execTallyResponse (port : Nat) (t1 t2 t3 t4 : U64) (s : State) : Host.Outcome State Fault Refusal :=
  if !waferLive s || !(rowUplinks s).contains port then .next s
  else
    let d := stampDiff t2 t1 - stampDiff t4 t3
    .next (setPort port (fun q => { q with exchanges := (d :: q.exchanges).take 16 }) s)

/-- PTP_MESSAGE: an Eave's servo moves (R177, R180). PTP runs in one domain over one transport, and a message of another
leaves it as it was. -/
def execPtpMessage (eave : Eave) (servo : PtpMessage) (s : State) : Host.Outcome State Fault Refusal :=
  if !(Sys2Proof.Machine.eave eave s).booted || servo.domain ≠ param pPtpDomain s ||
      servo.transport ≠ param pPtpTransport s then .next s
  else match eave with
    | .a => .next { s with tally.servoA := servo.servo }
    | .b => .next { s with tally.servoB := servo.servo }

/-! ### Commands -/

/-- A 32-bit saturation of the marker error. -/
def errorField (e : Int) : List Byte := leInt 4 (max (-(2 ^ 31 - 1)) (min e (2 ^ 31 - 1)))

def tallyStatusRun (_p : Packet) (s : State) : State × Ans :=
  (s, ok (le 1 s.tally.state.code ++ le 1 (utcQuality (tallyNat s) s) ++ le 2 s.tally.cause.toNat ++ errorField s.tally.lastError ++
    le 8 (tallyNat s) ++ le 4 (tallyOffset s).toNat ++ zs 4))

def tallyReacquireRun (p : Packet) (s : State) : State × Ans := (startOp (.reacquire (tallyNat s)) p 0x73 s, .accept [])

/-- The tally is reloaded by Table 3.5; ports carry no traffic meanwhile (Table 3.4). -/
def tallyReacquireAfter (_p : Packet) (s : State) : State :=
  let s := startAcquiring (cancelArm (tallyTo .acquiring 0 s))
  forEach (List.range 160) (fun p t => if (port p t).state = .up then portTo p .waiting rTallyWait t else t) s

end Sys2Proof.Machine
end

