-- ==== Sys2Proof/Machine/Coping.lean ====
section
/-! DEFINITION. The Coping unit (15, 16): SENSE words, comparators and values, the coolant responses, AOUT
writes and compliance, calibrations, and their commands. -/

namespace Sys2Proof.Machine

def sense (ch : Nat) (s : State) : SenseChannel := s.coping.sense.getD ch {}

def setSense (ch : Nat) (f : SenseChannel → SenseChannel) (s : State) : State :=
  { s with coping.sense := s.coping.sense.modify ch f }

def aout (ch : Nat) (s : State) : AoutChannel := s.coping.aout.getD ch {}

def setAout (ch : Nat) (f : AoutChannel → AoutChannel) (s : State) : State :=
  { s with coping.aout := s.coping.aout.modify ch f }

def masked (ch : Nat) (s : State) : Bool := s.coping.masks.getLsbD ch

/-! ### AOUT writes (R903-R907, R912-R914, R926, R934) -/

/-- Drives a code as a write does: a change of bits [15:12] from the driven output engages the deglitcher,
any other change moves the output at once, and a code written during a hold waits for its end. -/
def driveCode (ch : Nat) (code : U16) (s : State) : State :=
  let c := aout ch s
  let differs := code >>> 12 != c.output >>> 12
  if c.holding then setAout ch (fun c => { c with code := code }) s
  else if differs then count (cAout ch 2) (setAout ch (fun c => { c with code := code, holding := true }) s)
  else setAout ch (fun c => { c with code := code, output := code }) s

/-- A calibration of a channel that a write or a reset disturbs ends with PRE_END (R891, R920). -/
def disturb (kind : Nat → Bool) (ch : Nat) (s : State) : State :=
  match s.coping.calibration with
  | some k => if kind k.kind && k.channel = ch then { s with coping.calibration := some { k with failed := true } } else s
  | none => s

/-- The cycle of D9, 50 MHz, that a tick of 3.2 ns falls in. -/
def d9Cycle (s : State) : Nat := s.now * 4 / 25

/-- A fallback that was entered in this cycle of D9 is not entered beside a write (R930). -/
def dropEntry (ch : Nat) (s : State) : State :=
  match (aout ch s).entry with
  | none => s
  | some e =>
    if e.cycle ≠ d9Cycle s then s
    else
      let s := uncount (cAout ch 4) (if e.engaged then uncount (cAout ch 2) s else s)
      setAout ch (fun c => { c with code := e.code, output := e.output, holding := e.holding }) s

/-- A write to a channel: it ends fallback and a running self-calibration. -/
def writeAout (ch : Nat) (code : U16) (s : State) : State :=
  let s := dropEntry ch (count (cAout ch 1) s)
  let cycle := d9Cycle s
  disturb (· = 2) ch
    (driveCode ch code (setAout ch (fun c => { c with fallback := false, entry := none, written := some cycle }) s))

/-- Fallback is entered (R912). -/
def enterFallback (ch : Nat) (s : State) : State :=
  let c := aout ch s
  let code : U16 := BitVec.ofNat 16 (param (pAout ch 4) s)
  let e : FallbackEntry :=
    { cycle := d9Cycle s, code := c.code, output := c.output, holding := c.holding
      engaged := !c.holding && code >>> 12 != c.output >>> 12 }
  driveCode ch code (setAout ch (fun c => { c with fallback := true, entry := some e }) (count (cAout ch 4) s))

/-- A committed span: the code in force is read under it, and the deglitcher engages (R926). -/
def applySpan (ch v : Nat) (s : State) : State :=
  if (aout ch s).span = v then s
  else
    let s := if (aout ch s).holding then s else count (cAout ch 2) s
    setAout ch (fun c => { c with span := v, holding := true }) s

/-- DEGLITCH_HOLD_END: the output moves to the latest code. -/
def execDeglitchHoldEnd (channel : Nat) (s : State) : Host.Outcome State Fault Refusal :=
  if (aout channel s).holding then .next (setAout channel (fun c => { c with holding := false, output := c.code }) s)
  else .next s

/-- The commanded current of a current channel in nA: lo + (hi - lo) x code / 65,536 (Table 16.2). -/
def commandedNa (c : AoutChannel) : Nat :=
  let (lo, hi) := match c.span with
    | 0 => (4000000, 20000000)
    | 1 => (0, 20000000)
    | _ => (0, 24000000)
  lo + (hi - lo) * c.output.toNat / 65536

/-- Whether a compliance condition can arise on a channel (R908-R910). -/
def complianceApplies (ch : Nat) (cause : Compliance) (s : State) : Bool :=
  match cause with
  | .headroom => true
  | .openLoop => ch < 4 && 1000000 ≤ commandedNa (aout ch s)

/-- COMPLIANCE_FAULT_ONSET: counted at its onset; fallback is entered, again if the condition lasts (R912,
R913), but not in the D9 cycle of a write (R930). -/
def execComplianceFaultOnset (channel : Nat) (cause : Compliance) (s : State) : Host.Outcome State Fault Refusal :=
  if !s.power.aonUp || !complianceApplies channel cause s then .next s
  else
    let s := if (aout channel s).fault.isNone then count (cAout channel 3) s else s
    let s := setAout channel (fun c => { c with fault := some cause }) s
    if param (pAout channel 3) s = 1 && !(aout channel s).fallback && (aout channel s).written ≠ some (d9Cycle s) then
      .next (enterFallback channel s)
    else .next s

/-- COMPLIANCE_FAULT_CLEAR. -/
def execComplianceFaultClear (channel : Nat) (s : State) : Host.Outcome State Fault Refusal :=
  .next (setAout channel (fun c => { c with fault := none }) s)

/-- The flags byte of AOUT_READ. -/
def aoutFlags (ch : Nat) (s : State) : Nat :=
  let c := aout ch s
  bit c.fault.isSome + 2 * bit c.fallback + 4 * bit c.holding + 8 * bit (c.fault = some .openLoop) +
    16 * bit (s.coping.calibration.any fun k => k.kind = 2 && k.channel = ch)

def aoutWriteRun (p : Packet) (s : State) : State × Ans :=
  let ch := p.inst.toNat
  let s := writeAout ch (BitVec.ofNat 16 (field p.body 0 2)) s
  (s, ok (le 1 (aoutFlags ch s % 8) ++ zs 7))

def aoutReadRun (_p : Packet) (s : State) : State × Ans :=
  (s, ok ((List.range 8).flatMap fun ch =>
    let c := aout ch s
    le 1 ch ++ le 1 c.span ++ le 1 (aoutFlags ch s) ++ zs 1 ++ le 2 c.code.toNat ++ le 2 (param (pAout ch 4) s)))

/-! ### Values (R855-R858, Table 15.2) -/

/-- The voltage of a word is raw x 3,000 / 2^23 mV. -/
def rawScale : Int := 8388608

/-- Rounds n / d to the nearest integer, ties away from zero (d positive). -/
def roundDiv (n : Int) (d : Int) : Int :=
  if 0 ≤ n then (2 * n + d) / (2 * d) else -((2 * -n + d) / (2 * d))

/-- 10^28 times the resistance in ohms at h half-millidegrees (IEC 60751). -/
def rtdOhms (h : Int) : Int :=
  10 ^ 31 + 19541500000000000000000000 * h - 1443750000000000000 * (h * h) -
    (if h < 0 then 2614375 * (h * h * h * (h - 200000)) else 0)

/-- The greatest number of [lo, lo + 2^fuel) at which a condition holds that holds of every lower one too. -/
def bisect (ok : Nat → Bool) : Nat → Nat → Nat
  | 0, lo => lo
  | f + 1, lo => if ok (lo + 2 ^ f) then bisect ok f (lo + 2 ^ f) else bisect ok f lo

/-- The temperature in m°C of a word of an RTD channel; outside the formula's range the manual states no
value. -/
def rtdValue (raw : Int) : Int :=
  let r := raw * 12000 * 10 ^ 28
  if r < rtdOhms (-400000) * rawScale || rtdOhms 6767618 * rawScale < r then
    Config.analogue (raw + 8388608).toNat
  else if rtdOhms 0 * rawScale ≤ r then
    bisect (fun k => k ≤ 3383809 && decide (rtdOhms (2 * k - 1) * rawScale ≤ r)) 22 0
  else -(bisect (fun k => k ≤ 200000 && decide (r ≤ rtdOhms (1 - 2 * k) * rawScale)) 18 0 : Int)

/-- The value of a word in the units of R366. -/
def senseValue (ch : Nat) (raw : Int) (s : State) : Int :=
  match senseType ch with
  | 0 | 1 =>
    let span : Int := param (pSense ch 7) s
    roundDiv ((raw * 3000 - 500 * rawScale) * span - int64 (param (pSense ch 8) s) * (2000 * rawScale)) (2000 * rawScale)
  | 2 => rtdValue raw
  | _ => roundDiv (raw * 3000) rawScale

/-- An RTD word after correction (R857): zero in milliohms, gain in ppm. -/
def corrected (ch : Nat) (raw : Int) (s : State) : Int :=
  if senseType ch = 2 then
    let zero := int64 (param (pSense ch 8) s)
    let gain := int64 (param (pSense ch 9) s)
    roundDiv ((raw * 12000000 - zero * rawScale) * (1000000 + gain)) (12000000 * 1000000)
  else raw

/-- Valid words lie in 0x80_0001 to 0x7F_FFFF (R855). -/
def clampWord (x : Int) : Int := max (-8388607) (min x 8388607)

/-! ### Comparators (R863-R870) -/

/-- Whether a word meets the entry condition, and whether it lies beyond the band on the other side. -/
def entersAlarm (ch : Nat) (raw : Int) (s : State) : Bool :=
  let v := raw * 3000
  let t : Int := param (pSense ch 3) s * rawScale
  if param (pSense ch 5) s = 0 then t ≤ v else v ≤ t

def leavesAlarm (ch : Nat) (raw : Int) (s : State) : Bool :=
  let v := raw * 3000
  let t : Int := param (pSense ch 3) s * rawScale
  let h : Int := param (pSense ch 4) s * rawScale
  if param (pSense ch 5) s = 0 then v < t - h else t + h < v

/-- The comparator's next state, and the run of words that met the condition for a change. -/
def compare_ (ch : Nat) (raw : Int) (c : SenseChannel) (s : State) : Comparator × Nat :=
  let on := entersAlarm ch raw s
  let off := leavesAlarm ch raw s
  match c.comparator with
  | .unknown | .indeterminate =>
    if on then (.alarm, 0) else if off then (.normal, 0) else (.indeterminate, 0)
  | .normal =>
    if on then if param (pSense ch 10) s ≤ c.run + 1 then (.alarm, 0) else (.normal, c.run + 1) else (.normal, 0)
  | .alarm =>
    if off then if param (pSense ch 10) s ≤ c.run + 1 then (.normal, 0) else (.alarm, c.run + 1) else (.alarm, 0)

/-! ### Responses (Table 15.6, Table 14.6) -/

def inAlarm (ch : Nat) (s : State) : Bool := (sense ch s).comparator = .alarm && !masked ch s

/-- LEAK and FLOAT channels. -/
def wets (ch : Nat) : Bool := 3 ≤ senseType ch

/-- Whether the flow trip's trigger holds: some flow channel is unmasked and every unmasked one is in ALARM,
while a rail of zone W is on. -/
def flowAlarmed (s : State) : Bool :=
  !(masked 0 s && masked 1 s) && (masked 0 s || inAlarm 0 s) && (masked 1 s || inAlarm 1 s) && zoneWOn s

/-- The flow trip's period starts when its trigger begins to hold (R895). Zone W going off in that period is noted, so
that a trip that falls due at the same tick still writes its record (R894). -/
def settleFlow (s : State) : State :=
  let off := if s.coping.flowAlarm && !zoneWOn s then some s.now else s.coping.flowOff
  { s with coping := { s.coping with flowAlarm := flowAlarmed s, flowOff := off } }

/-- No Eave that could act: both failed or quarantined (R852), or silent for 30 ms (R845). -/
def noEave (s : State) : Bool :=
  6 ≤ s.power.step && (s.referee.noController || (!eaveAdmitted .a s && !eaveAdmitted .b s))

/-- Finial's own action: SLATE_RAIL_EN and RIM_RAIL_EN are written 0, without quiesce (Table 14.6, R881). -/
def finialAction (ch : Nat) (s : State) : State := settleFlow (byFinial zoneWOff (journalAction 0xFF ch s))

/-- Finial's action on the first leak or float channel that is WET and unmasked, once no Eave can act (Table
14.6, last row). -/
def leakCheck (s : State) : State :=
  if !noEave s || !zoneWOn s then s
  else match (List.range 16).find? fun ch => wets ch && inAlarm ch s with
    | some ch => finialAction ch (setSense ch (fun c => { c with responsePending := false }) s)
    | none => s

/-- AOUT0 is driven to its safe code by a command of the ridge stream (Table 14.6). -/
def safeAout (s : State) : State :=
  let code := param (pAout 0 7) s
  ridgeSends 0x78 0x0C 0 (le 2 code ++ zs 6) (writeAout 0 (BitVec.ofNat 16 code) s)

/-- The Eaves' action on a leak or float channel (R831). -/
def leakAction (ch : Nat) (s : State) : State :=
  let s := setSense ch (fun c => { c with responsePending := false }) s
  settleFlow (safeAout (byEaves (zoneOff (zoneOf ch)) (quiesce (journalAction 0xFE ch s))))

/-- Before READY, with a slate rail or the rim-and-mesh rail on: any leak switches the wafer off at once (R229). -/
def beforeReady (s : State) : Bool := s.power.phase != .ready && (anySlateRail s || rimRail s)

/-- A channel has entered its trigger: WET, or ALARM of channel 8; the others only assert ALERT_N. -/
def enterTrigger (ch : Nat) (s : State) : State :=
  if masked ch s then s
  else if wets ch then
    let s := postEvent (if ch = 15 then 2 else 1) ch s
    let s := if beforeReady s then gateLost s else s
    if noEave s then finialAction ch s
    else if ch = 15 then leakAction ch s
    else setSense ch (fun c => { c with responsePending := true }) s
  else if ch = 8 then setSense ch (fun c => { c with responsePending := true }) s
  else s

/-- A comparator takes a state; entering ALARM or WET is a trigger. -/
def comparatorTo (ch : Nat) (st : Comparator) (s : State) : State :=
  let was := (sense ch s).comparator
  let s := setSense ch (fun c => { c with comparator := st, run := 0 }) s
  if was = st then s
  else
    let s := if was = .unknown then s else count (cSense ch 3) s
    let s := if st = .alarm then s else setSense ch (fun c => { c with responsePending := false }) s
    settleFlow (if st = .alarm then enterTrigger ch s else s)

/-- A flow channel's valid word below coolant.flow_start_lpm breaks the second of R201 and R230. -/
def noteFlow (ch : Nat) (raw : Int) (s : State) : State :=
  if ch < 2 && senseValue ch raw s < (param pFlowStart s * 1000 : Int) then { s with coping.flowShort := some s.now } else s

/-- SENSE_WORD: one output word of a channel. `input` is the front end's voltage in units of 3,000 mV / 2^23;
an RTD's is 0.25 mV per ohm measured. -/
def execSenseWord (channel : Nat) (input : Int) (s : State) : Host.Outcome State Fault Refusal :=
  if !s.power.aonUp then .next s
  else
    let c := sense channel s
    let s := count (cSense channel 1) s
    if 0 < c.settling then
      .next (setSense channel (fun c => { c with settling := c.settling - 1, raw := -8388608, valid := false })
        (count (cSense channel 2) s))
    else
      let s := if clampWord input = input then s else count (cSense channel 6) s
      let t := senseType channel
      let s := if t < 2 && (input * 3000 < 450 * rawScale || 2625 * rawScale < input * 3000) then
          count (cSense channel 4) s else s
      let s := if t = 2 && 3800 * rawScale < input * 12000 then count (cSense channel 5) s else s
      let raw := clampWord (corrected channel (clampWord input) s)
      let (st, run) := compare_ channel raw c s
      let s := noteFlow channel raw (setSense channel (fun c => { c with raw := raw, last := some raw, valid := true }) s)
      let s := comparatorTo channel st s
      .next (settleFlow (setSense channel (fun c => { c with run := run }) s))

/-- INDETERMINATE_TIMEOUT: a leak or float channel takes WET, any other its pu_default (R868). -/
def execIndeterminateTimeout (channel : Nat) (s : State) : Host.Outcome State Fault Refusal :=
  if (sense channel s).comparator ≠ .indeterminate then .next s
  else if wets channel || param (pSense channel 6) s = 1 then .next (comparatorTo channel .alarm s)
  else .next (comparatorTo channel .normal s)

/-- Whether the event of a channel's last trigger has been heard. -/
def heard (kind ch : Nat) (s : State) : Bool :=
  match (s.referee.events.filter fun e => e.kind = kind && e.channel = ch).getLast? with
  | some e => e.heard
  | none => false

/-- LEAK_WINDOW_EXPIRY: the zone is switched off unless the leak was heard, undone or masked (R831). -/
def execLeakWindowExpiry (channel : Nat) (s : State) : Host.Outcome State Fault Refusal :=
  if !(sense channel s).responsePending then .next s
  else if heard 1 channel s || !inAlarm channel s then
    .next (setSense channel (fun c => { c with responsePending := false }) s)
  else if noEave s then
    .next (finialAction channel (setSense channel (fun c => { c with responsePending := false }) s))
  else .next (leakAction channel s)

/-- The lowest flow channel that is not masked. -/
def flowChannel (s : State) : Nat := if masked 0 s then 1 else 0

/-- FLOW_TRIP: coolant.flow_trip_ms of ALARM on every unmasked flow channel (R879, R881, R883). Where a leak has
switched zone W off at this tick, the trip only writes its own record (R894). -/
def execFlowTrip (s : State) : Host.Outcome State Fault Refusal :=
  if s.coping.flowOff = some s.now then
    let ch := flowChannel s
    let s := postEvent 3 ch (count (cCoolant 1) { s with coping.flowOff := none })
    .next (journalAction (if noEave s then 0xFF else 0xFE) ch s)
  else if !s.coping.flowAlarm || !flowAlarmed s then .next s
  else
    let ch := flowChannel s
    let s := postEvent 3 ch (count (cCoolant 1) { s with coping.flowAlarm := false })
    if noEave s then .next (finialAction ch s)
    else .next (byEaves zoneWOff (quiesce (journalAction 0xFE ch s)))

/-- THERMAL_TRIP: Finial switches zone W off without quiesce (R879, R882); rails of zone W that return while channel 8 is
still in ALARM bring its trigger about again. -/
def execThermalTrip (s : State) : Host.Outcome State Fault Refusal :=
  if !inAlarm 8 s || !zoneWOn s then .next s
  else
    let s := setSense 8 (fun c => { c with responsePending := false }) s
    .next (finialAction 8 (postEvent 4 8 (count (cCoolant 2) s)))

/-! ### Synchronising resets (R859-R861) -/

/-- The next tally mark at or after a value that has not been sent yet (R143). -/
def nextMark (s : State) : Nat :=
  let t := tallyNat s
  if t % 1024 = 0 && s.tally.lastMark ≠ some t then t else (t / 1024 + 1) * 1024

/-- Whether tally marks are being received. -/
def marksSent (s : State) : Bool := waferLive s && s.tally.counting

/-- A channel's decimator is reset: three SETTLING words follow, and a calibration of it ends. -/
def resetChannel (ch : Nat) (s : State) : State :=
  disturb (· ≠ 2) ch (setSense ch (fun c => { c with settling := 3, syncPending := false }) s)

/-- SENSE_SYNC takes effect. -/
def syncAll (s : State) : State :=
  forEach (List.range 16) resetChannel { s with coping.syncPending := false }

def senseSyncRun (_p : Packet) (s : State) : State × Ans :=
  if marksSent s then ({ s with coping.syncPending := true }, ok (le 8 (nextMark s)))
  else (syncAll s, ok (le 8 0))

/-- One entry of SENSE_READ. -/
def senseEntry (ch : Nat) (s : State) : List Byte :=
  let c := sense ch s
  let settling := !c.valid
  let st := if masked ch s then 3 else match c.comparator with
    | .normal => 0 | .alarm => 1 | .indeterminate => 2 | .unknown => 2
  le 1 ch ++ le 1 (bit settling) ++ le 1 st ++ zs 1 ++ (if settling then le 4 0x800000 ++ le 4 0
    else leInt 3 c.raw ++ zs 1 ++ leInt 4 (senseValue ch c.raw s))

def senseReadRun (p : Packet) (s : State) : State × Ans :=
  let m := field p.body 0 2
  (s, ok (((List.range 16).filter fun ch => m.testBit ch).flatMap fun ch => senseEntry ch s))

/-- CHANNEL_MASK: set applied first, then clear; unmasking a channel in its trigger counts as entering it
(R876, R893). -/
def channelMaskRun (p : Packet) (s : State) : State × Ans :=
  let set : BitVec 16 := BitVec.ofNat 16 (field p.body 0 2)
  let clear : BitVec 16 := BitVec.ofNat 16 (field p.body 2 2)
  let old := s.coping.masks
  let new := (old ||| set) &&& ~~~clear
  if new = old then (s, ok (le 2 new.toNat ++ zs 6))
  else
    let s := { s with coping.masks := new }
    let s := journalEave (paramBody 4 1 p.originator.toNat (tallyNat s) 0 s) s
    let s := forEach (List.range 16) (fun ch t =>
      if old.getLsbD ch && !new.getLsbD ch && (sense ch t).comparator = .alarm then enterTrigger ch t
      else if new.getLsbD ch then setSense ch (fun c => { c with responsePending := false }) t else t) s
    (settleFlow s, ok (le 2 new.toNat ++ zs 6))

/-! ### Calibrations (R884-R888, R917-R919) -/

def isCalOp : OpKind → Bool
  | .calibration _ => true
  | _ => false

/-- The value of a SENSE channel's last word, when that word is valid (R884). -/
def wordValue (ch : Nat) (s : State) : Option Int :=
  if (sense ch s).valid then some (senseValue ch (sense ch s).raw s) else none

/-- The value of a SENSE channel's last valid word: SETTLING words are ignored (R861). -/
def lastValue (ch : Nat) (s : State) : Option Int := (sense ch s).last.map fun w => senseValue ch w s

/-- The part of a precondition that the Coping unit's own state shows (Table 15.8, R915, R917). -/
def calHolds (k : Calibration) (s : State) : Bool :=
  match k.kind with
  | 0 => (aout 0 s).code.toNat = param (pAout 0 8) s && (wordValue 4 s).any fun v => v < 5000
  | 1 => param pService s = 1 && (wordValue k.channel s).any fun v => -20000 ≤ v && v ≤ 20000
  | 2 => (aout k.channel s).fault.isNone && (k.channel ≠ 0 || !zoneWOn s)
  | _ => true

/-- The calibration in progress ends. -/
def endCalibration (status reason : Nat) (payload : List Byte) (s : State) : State :=
  match opsOf isCalOp s with
  | [] => { s with coping.calibration := none }
  | o :: _ => finishOp o status reason 0 payload { s with coping.calibration := none }

def calRunRun (p : Packet) (s : State) : State × Ans := (startOp (.calibration p.inst.toNat) p 0x7A s, .accept [])

/-- A second calibration completes at once (R888). -/
def calRunAfter (p : Packet) (s : State) : State :=
  if s.coping.calibration.isSome then
    match (opsOf isCalOp s).getLast? with
    | some o => finishOp o stPrecond rPreStart 0 [] s
    | none => s
  else
    let k : Calibration := { kind := field p.body 0 1, channel := p.inst.toNat, step := 1, mean := 0, offset := 0, gain := 0
                             failed := false, referencesBad := false }
    { s with coping.calibration := some k }

/-- CAL_START_CHECK_END. -/
def execCalStartCheckEnd (window : CalWindow) (s : State) : Host.Outcome State Fault Refusal :=
  match s.coping.calibration with
  | none => .next s
  | some k =>
    if k.step ≠ 1 then .next s
    else if !window.held || !calHolds k s then .next (endCalibration stPrecond rPreStart [] s)
    else
      let s := { s with coping.calibration := some { k with step := 2 } }
      .next (if k.kind = 2 then setAout k.channel (fun c => { c with output := 0x1000 }) s else s)

/-- AOUT_SELF_CODE_SWITCH: the second code of step 2 (R918). -/
def execAoutSelfCodeSwitch (s : State) : Host.Outcome State Fault Refusal :=
  match s.coping.calibration with
  | none => .next s
  | some k =>
    if k.kind = 2 && k.step = 2 && !k.failed then .next (setAout k.channel (fun c => { c with output := 0xF000 }) s)
    else .next s

/-- CAL_MEASUREMENT_END. -/
def execCalMeasurementEnd (window : CalWindow) (s : State) : Host.Outcome State Fault Refusal :=
  match s.coping.calibration with
  | none => .next s
  | some k =>
    if k.step ≠ 2 then .next s
    else
      let s := { s with coping.calibration := some { k with
        step := 3, mean := window.mean, offset := window.offset, gain := window.gain, referencesBad := window.referencesBad } }
      .next (if k.kind = 2 && !k.failed then setAout k.channel (fun c => { c with output := c.code }) s else s)

/-- The coefficients that a calibration that passed leaves, and its reply's offset and gain. -/
def calResult (k : Calibration) (s : State) : State × Int × Int :=
  if k.kind < 2 then
    (setParam (pSense k.channel 8) (pat64 (int64 (param (pSense k.channel 8) s) + k.mean)) s, k.mean, 0)
  else if k.kind = 2 then
    (setParam (pAout k.channel 6) (pat64 k.gain) (setParam (pAout k.channel 5) (pat64 k.offset) s), k.offset, k.gain)
  else
    let s := setSense k.channel (fun c => { c with faulted := false }) s
    (setParam (pSense k.channel 9) (pat64 k.gain) (setParam (pSense k.channel 8) (pat64 k.offset) s), k.offset, k.gain)

/-- CAL_END_CHECK_END: the new coefficients take effect, or every previous one is kept (R885, R887). -/
def execCalEndCheckEnd (window : CalWindow) (s : State) : Host.Outcome State Fault Refusal :=
  match s.coping.calibration with
  | none => .next s
  | some k =>
    if k.step ≠ 3 then .next s
    else if k.failed || !window.held || !calHolds k s then .next (endCalibration stPrecond rPreEnd [] s)
    else if k.kind = 3 && k.referencesBad then
      .next (endCalibration stFaulted 0 [] (setSense k.channel (fun c => { c with faulted := true }) s))
    else
      let (s, offset, gain) := calResult k s
      .next (endCalibration stOk 0 (leInt 4 offset ++ leInt 4 gain) s)

/-! ### The coolant gate (R201, R878) -/

/-- Both flow channels read at least coolant.flow_start_lpm (R201, R230). -/
def flowRuns (s : State) : Bool :=
  let least : Int := param pFlowStart s * 1000
  (lastValue 0 s).any (least ≤ ·) && (lastValue 1 s).any (least ≤ ·)

/-- The flow has held for 1 s: no word of the last second was short (R201, R230; DEDUCED, entry 105). -/
def flowHeld (s : State) : Bool := flowRuns s && s.coping.flowShort.all fun t => t + 1000 * tkPerMs ≤ s.now

/-- What the gate requires of the coolant inputs. -/
def gatePasses (s : State) : Bool :=
  ((List.range 16).filter fun ch => wets ch).all (fun ch => (sense ch s).comparator = .normal || masked ch s) &&
    flowHeld s && (lastValue 6 s).any fun v => 18000 ≤ v && v ≤ 45000

end Sys2Proof.Machine
end

