-- ==== Sys2Proof/Machine/Units.lean ====
section
/-! DEFINITION. The state of the unit that a command or a parameter names: ABSENT, FAULTED or DISABLED in that
order (R9-R15, R1079), as check 6 of R287 and check 3 of R294 take it. -/

namespace Sys2Proof.Machine

/-- The units of a site that is FAULTED: SPARE_DEFECTIVE, failed, isolated for a fault (Table 2.3a), or tripped
twice (R1079). -/
def siteFaulted (n : Nat) (s : State) : Bool :=
  let t := site n s
  let fault := [rFuseTrip, rPatrolFail, rAudit, rCoreFault].contains t.cause.toNat
  defective n s || t.state = .failed || (t.state = .isolated && fault) || trippedTwice n s

/-- A site isolated by SLATE_ISOLATE, or whose rail an ADMIN has switched off. -/
def siteDisabled (n : Nat) (s : State) : Bool :=
  let t := site n s
  t.state = .isolated && (t.cause.toNat = rIsolateCmd || t.cause.toNat = rRailOff)

/-- ABSENT, FAULTED and DISABLED as a status, for a unit that is absent, faulted or disabled as given. -/
def unitStatus (absent faulted disabled : Bool) : Option Nat :=
  if absent then some stAbsent else if faulted then some stFaulted else if disabled then some stDisabled else none

/-- Whether a port's rail was switched off after the slates had been started. -/
def portRailOff (p : Nat) (s : State) : Bool :=
  s.power.slatesRunning && ((p < 128 && !cableRail s) || (128 ≤ p && !opticalRail s))

/-- The state of a unit and instance: a status, or none when it accepts commands. -/
def unitState (unit inst : Nat) (s : State) : Option Nat :=
  match unit with
  | 0x01 =>
    if 160 ≤ inst then none
    else
      let cart := cartridgeOf inst
      let q := port inst s
      let faulted := s.power.refusedCartridges.contains cart || cartGone cart s || q.faultedRim ||
        (servingSite inst s).isNone
      unitStatus (!portFitted inst s) faulted (q.state = .disabled || portRailOff inst s)
  | 0x02 => if 36 ≤ inst then none else unitStatus false (siteFaulted inst s) (siteDisabled inst s)
  | 0x03 =>
    if 36 ≤ inst then unitStatus (!hasReeds s) false false
    else unitStatus (!hasReeds s) (siteFaulted inst s) (siteDisabled inst s || (site inst s).reedsDisabled)
  | 0x04 =>
    if 288 ≤ inst then unitStatus (!hasReeds s) false false
    else
      let e := engine inst s
      unitStatus (!hasReeds s) (siteFaulted (inst / 8) s || e.faulted) (siteDisabled (inst / 8) s || e.disabled)
  | 0x05 =>
    if 32 ≤ inst then unitStatus (!hasLoft s) false false else unitStatus (!hasLoft s) (loftCartFaulted inst s) false
  | 0x06 =>
    if 2 ≤ inst then none
    else
      let b := bank inst s
      unitStatus (inst = 1 && !s.ident.thatchB) b.faulted (b.state = .offline && s.power.banksMounted)
  | 0x08 => if 2 ≤ inst then none else unitStatus false ((eave (if inst = 0 then .a else .b) s).state = .failed) false
  | 0x0B => if 16 ≤ inst then none else unitStatus false (sense inst s).faulted (masked inst s)
  | 0x0C => if 8 ≤ inst then none else unitStatus false false (!(aout inst s).powered)
  | 0x11 =>
    if inst < 16 then
      unitStatus false (s.power.refusedCartridges.contains inst || cartGone inst s)
        (s.power.slatesRunning && !cableRail s)
    else if inst < 20 then
      unitStatus (!hasOptical s) (s.power.refusedCartridges.contains inst || cartGone inst s)
        (s.power.slatesRunning && !opticalRail s)
    else none
  | _ => none

end Sys2Proof.Machine
end

