-- ==== Sys2Proof/Machine/Counters.lean ====
section
/-! DEFINITION. Counters (R147-R154, R367, R1074): which are assigned, their levels, snapshots and
COUNTER_READ. -/

namespace Sys2Proof.Machine

/-! ### The assigned counters (Tables 5.10, 7.13, 8.7, 9.6, 10.1, 12.10, 15.9 and R184, R518, R586, R788,
R844, R889, R928, R977, R1021, R1034) -/

/-- The codes lo to hi. -/
def codes (lo hi : Nat) : List Nat := (List.range (hi + 1 - lo)).map (· + lo)

/-- The counter codes of a unit, in ascending order; triples of R518 are apart. -/
def unitCodes : Nat → List Nat
  | 0x00 => codes 1 5
  | 0x01 => codes 1 26
  | 0x02 => codes 1 13 ++ codes 0x20 0x23
  | 0x03 => codes 1 9 ++ codes 0x20 0x21
  | 0x04 => codes 1 3
  | 0x05 => codes 1 9 ++ [0x20]
  | 0x06 => codes 1 13 ++ [0x20]
  | 0x07 => codes 1 2
  | 0x08 => codes 1 3
  | 0x09 => codes 1 8
  | 0x0B => codes 1 6
  | 0x0C => codes 1 4
  | 0x0D => codes 1 3
  | 0x0E => codes 1 5 ++ [0x10]
  | 0x0F => codes 1 5
  | 0x10 => codes 1 4
  | 0x12 => codes 1 9
  | _ => []

/-- Codes of one instance: a SLATE instance from 0x8000 on is a triple's input and output. -/
def instCodes (unit inst : Nat) : List Nat := if unit = 2 && 0x8000 ≤ inst then codes 0x80 0x8F else unitCodes unit

/-- Whether the order code includes an instance of a unit's counters. -/
def hasCounters (unit inst : Nat) (s : State) : Bool :=
  match unit with
  | 0x01 => inst < 160 && portFitted inst s
  | 0x02 =>
    inst < 36 || (0x8000 ≤ inst && inst < 0x8000 + 160 * 196 &&
      (let i := (inst - 0x8000) / 160
       (160 ≤ i || portFitted i s) && portFitted ((inst - 0x8000) % 160) s))
  | 0x03 => inst < 36 && hasReeds s
  | 0x04 => inst < 288 && inst % 8 < 6 && hasReeds s
  | 0x05 => inst < 32 && hasLoft s
  | 0x06 => inst = 0 || (inst = 1 && s.ident.thatchB)
  | 0x08 => inst < 2
  | 0x0B => inst < 16
  | 0x0C => inst < 8
  | 0x12 => inst < 5
  | 0x00 | 0x07 | 0x09 | 0x0D | 0x0E | 0x0F | 0x10 => inst = 0xFFFF
  | _ => false

/-- The first instance of a unit's counters from a number on. -/
def nextInst (unit lo : Nat) (s : State) : Option Nat :=
  match unit with
  | 0x00 | 0x07 | 0x09 | 0x0D | 0x0E | 0x0F | 0x10 => if lo ≤ 0xFFFF then some 0xFFFF else none
  | 0x02 =>
    if lo < 36 then some lo
    else
      let from_ := max lo 0x8000
      (List.range' from_ (0x8000 + 160 * 196 - from_)).find? fun i => hasCounters 2 i s
  | _ => (List.range' lo (288 - lo)).find? fun i => hasCounters unit i s

/-- The ID of an instance's first counter. -/
def firstOf (unit inst : Nat) : Nat := idOf unit inst ((instCodes unit inst).headD 0)

/-- The first assigned counter ID from a number on. -/
def nextCounter (id : Nat) (s : State) : Option Nat :=
  let unit := id / 16777216
  let inst := (id / 256) % 65536
  match (if hasCounters unit inst s then (instCodes unit inst).find? (id % 256 ≤ ·) else none) with
  | some c => some (idOf unit inst c)
  | none =>
    match nextInst unit (inst + 1) s with
    | some j => some (firstOf unit j)
    | none => ((List.range 19).filter (unit < ·)).findSome? fun v => (nextInst v 0 s).map (firstOf v)

/-- The first `k` assigned counter IDs from a number on. -/
def countersFrom (s : State) : Nat → Nat → List Nat
  | 0, _ => []
  | k + 1, id =>
    match nextCounter id s with
    | none => []
    | some c => c :: countersFrom s k (c + 1)

/-! ### Levels (Tables 8.7, 9.6, 10.1, 12.10) -/

/-- Tile slots in use on a site, and yealms of it that collectives have on loan. -/
def slotsBusy (n : Nat) (s : State) : Nat :=
  (s.reduction.collectives.map fun c => c.depth * (c.yealms.filter fun y => y.1 = n).length).sum

def yealmsLent (n : Nat) (s : State) : Nat :=
  if (site n s).state = .lending then
    ((s.reduction.collectives.flatMap Collective.yealms).filter fun y => y.1 = n).eraseDups.length
  else 0

/-- The levels as they stand. -/
def levels (s : State) : List (Nat × Nat) :=
  ((List.range 36).flatMap fun n =>
    let t := site n s
    [(cSlate n 0x20, t.free), (cSlate n 0x21, t.queued), (cSlate n 0x22, t.engineHeld), (cSlate n 0x23, t.inFlight),
     (cReed n 0x20, slotsBusy n s), (cReed n 0x21, yealmsLent n s)]) ++
  ((List.range 32).map fun n => (cLoft n 0x20, (s.loft.poisonLines.filter fun a => cartOf a = n).length)) ++
  [(cThatch 0 0x20, s.journal.bankA.factoryBad + s.journal.bankA.grownBad),
   (cThatch 1 0x20, s.journal.bankB.factoryBad + s.journal.bankB.grownBad)]

/-! ### Snapshots -/

/-- Wafer counters and levels copy into the shadow; the other holders' are captured at the next mark. -/
def capture (id : Nat) (s : State) : State :=
  let wafer := s.counters.live.filter fun kv => waferCounter kv.1
  let wafer := (levels s).foldl (fun m kv => if kv.2 = 0 then m else put kv.1 kv.2 m) wafer
  let others := s.counters.shadow.filter fun kv => !waferCounter kv.1
  { s with counters := { s.counters with
      shadow := others.foldl (fun m kv => put kv.1 kv.2 m) wafer
      shadowId := id, shadowTally := tallyNat s, markPending := true } }

/-- Whether the tally stands at a mark that has been sent. -/
def atMark (s : State) : Bool := s.tally.lastMark = some (tallyNat s)

/-- Counters of the Coping unit, Finial and the Eaves at a tally mark (R149). -/
def captureOthers (s : State) : State :=
  if !s.counters.markPending then s
  else
    let wafer := s.counters.shadow.filter fun kv => waferCounter kv.1
    let others := s.counters.live.filter fun kv => !waferCounter kv.1
    { s with counters := { s.counters with
        shadow := others.foldl (fun m kv => put kv.1 kv.2 m) wafer, markPending := false } }

/-- A snapshot at the present tick: the wafer's counters now, and the others' with it where the tick is a mark that has
been sent (R147, R149). -/
def snapNow (id : Nat) (s : State) : State :=
  let s := capture id s
  if atMark s then captureOthers s else s

/-- The armed snapshot is taken at its tick. -/
def takeArmed (s : State) : State :=
  match s.counters.armed with
  | none => s
  | some (id, tick) => snapNow id (advanceTo tick { s with counters.armed := none })

/-- COUNTER_SNAPSHOT. -/
def execCounterSnapshot (s : State) : Host.Outcome State Fault Refusal :=
  if marksSent s then .next (takeArmed s) else .next s

/-- The multiple of the period that the present tally value takes: its own, or the one just below that a slew has passed
over (R154); none where it was taken already. -/
def snapHere (period : Nat) (s : State) : Option Nat :=
  let t := tallyNat s
  let m := t / period * period
  if s.counters.lastPeriodic ≠ some m && (t = m || (t = m + 1 && s.tally.skipped = some m)) then some m else none

/-- Takes the periodic snapshot of a multiple. -/
def takePeriodic (m : Nat) (s : State) : State :=
  let id := s.counters.nextId
  snapNow id { s with counters.nextId := id + 1, counters.lastPeriodic := some m }

/-- PERIODIC_SNAPSHOT: at the present multiple, or at the next. -/
def execPeriodicSnapshot (s : State) : Host.Outcome State Fault Refusal :=
  let period := param pSnapPeriod s
  if period = 0 || !marksSent s then .next s
  else match snapHere period s with
    | some m => .next (takePeriodic m s)
    | none =>
      let m := (tallyNat s / period + 1) * period
      .next (takePeriodic m (advanceTo m s))

/-- The snapshots due at the tick of a commit are taken before it (R151, R185): the armed one, and a periodic one. -/
def snapsBefore (tick : Nat) (s : State) : State :=
  let s := if s.counters.armed.any fun x => x.2 ≤ tick then takeArmed s else s
  let s := advanceTo tick s
  let period := param pSnapPeriod s
  if period = 0 then s
  else match snapHere period s with
    | some m => takePeriodic m s
    | none => s

/-! ### Commands -/

/-- The arrival in the tally domain of a command that a unit has executed: up to a bound in ticks (R146,
R148). -/
def arrival (most : Nat) (s : State) : Nat := tallyNat s + Config.duration s.freeCount % (most + 1)

/-- COUNTER_SNAP: up to 10 us to the tally domain. -/
def counterSnapRun (p : Packet) (s : State) : State × Ans :=
  let t := field p.body 0 8
  let there := arrival 3125 s
  let tick := if t = 0 || t ≤ there then (there / 1024 + 1) * 1024 else t
  let id := s.counters.nextId
  ({ bumpFree s with counters.armed := some (id, tick), counters.nextId := id + 1 }, ok (le 8 tick ++ le 4 id ++ zs 4))

def counterReadRun (p : Packet) (s : State) : State × Ans :=
  let most := min (field p.body 4 2) ((replyRoom p.path - 24) / 16)
  let ids := countersFrom s (most + 1) (field p.body 0 4)
  let shown := ids.take most
  (s, ok (le 4 s.counters.shadowId ++ zs 4 ++ le 8 s.counters.shadowTally ++ le 2 shown.length ++
    le 1 (bit (decide (most < ids.length))) ++ zs 5 ++
    shown.flatMap fun c => le 4 c ++ zs 4 ++ le 8 ((lookup s.counters.shadow c).getD 0)))

end Sys2Proof.Machine
end

