-- ==== Sys2Proof/Machine/Params.lean ====
section
/-! DEFINITION. Parameters (05, "Parameters"): staging, commit, discard, description, the application of a set
in each domain, and the tally mark at which the always-on units apply. -/

namespace Sys2Proof.Machine

/-! ### Putting a value in force -/

/-- Parameters that the always-on and Coping domains apply at a tally mark (Table 3.3a, R144): those of unit BATTEN for
their own receivers. -/
def appliesAtMark (id : Nat) : Bool :=
  let unit := id / 16777216
  let fld := id % 256
  unit = 0x12 || unit = 0x09 || unit = 0x0B || unit = 0x0C || unit = 0x0D || (unit = 0x00 && (fld = 0x10 || fld = 0x20)) ||
    (unit = 0x0F && fld = 0x05)

/-- A changed plan policy judges the ports past identity again (R111). -/
def policyChanged (s : State) : State :=
  forEach (List.range 160) (fun p t =>
    let q := port p t
    match q.received with
    | none => t
    | some b =>
      match q.state with
      | .miswired => if q.cause.toNat = rDuplicatePeer then t else planCheck p b t
      | .waiting | .up | .draining =>
        if param pPlanPolicy t = 1 || (t.planLoaded && planMatches (t.plan.getD p 0) b) then t
        else enterMiswired p (if t.planLoaded then 0 else rNoPlan) t
      | _ => t) s

/-- A changed share gives or takes free shingles on every slate in service (R515). -/
def shareChanged (old : Nat) (s : State) : State :=
  forEach (List.range 36) (fun n t =>
    if forwards n t then setSite n (fun x => { x with free := x.free + shareTotal t - old }) t else t) s

/-- What follows from a parameter's new value. -/
def paramEffect (id oldShare : Nat) (s : State) : State :=
  let unit := id / 16777216
  let inst := (id / 256) % 65536
  let fld := id % 256
  if id = pPlanPolicy then policyChanged s
  else if id = pOpticPolicy then forEach opticalPorts refreshHold s
  else if id = pShare then shareChanged oldShare s
  else if id = pSkylightN then { s with ports := s.ports.map fun q => { q with skylightK := 0 } }
  else if id = pLend then settleLending s
  else if id = pRampRate || id = pRampBurst then rampRefill 0 s
  else if id = pRampEnable then rampLoop s.reduction.rampQueue.length s
  else if unit = 0x0B && fld = 2 then resetChannel inst s
  else if unit = 0x0C && fld = 1 then applySpan inst (param id s) s
  else s

/-- A parameter takes a value; nothing else happens where the value does not change. -/
def applyParam (id v : Nat) (s : State) : State :=
  if param id s = v then s else paramEffect id (shareTotal s) (setParam id v s)

/-! ### Staging (R293, R294) -/

def stagedOf (o : U32) (s : State) : List (Nat × Nat) := (lookup s.batten.staged o.toNat).getD []

/-- The status of a staged entry's first failing check; the role that each parameter requires, ADMIN, is that of
PARAM_STAGE itself (R294). -/
def entryFault (id v : Nat) (s : State) : Option Nat :=
  match paramInfo s id with
  | none => some stRange
  | some i =>
    if paramAbsent id s then some stAbsent
    else match unitState (id / 16777216) ((id / 256) % 65536) s with
      | some st => some st
      | none => if !i.writable || !i.legal v then some stRange else none

/-- The entries of PARAM_STAGE. -/
def stageEntries (b : List Byte) : List (Nat × Nat) :=
  (List.range (field b 0 2)).map fun i => (field b (4 + 16 * i) 4, field b (12 + 16 * i) 8)

def paramStageRun (p : Packet) (s : State) : State × Ans :=
  let es := stageEntries p.body
  match (es.zip (List.range es.length)).findSome? fun e => (entryFault e.1.1 e.1.2 s).map fun st => (st, e.2) with
  | some (st, i) => (s, refuse st rEntry i)
  | none =>
    let staged := es.foldl (fun m e => put e.1 e.2 m) (stagedOf p.originator s)
    if 1024 < staged.length then (s, refuse stBusy rSetFull 0)
    else ({ s with batten.staged := put p.originator.toNat staged s.batten.staged }, ok (le 2 staged.length ++ zs 6))

/-- The status of an ID that PARAM_READ or PARAM_DESCRIBE cannot answer (R292). -/
def unreadable (id : Nat) (s : State) : Option Nat :=
  if (paramInfo s id).isNone then some stRange else if paramAbsent id s then some stAbsent else none

/-- One entry of PARAM_READ (R305). -/
def readEntry (id : Nat) (staged : List (Nat × Nat)) (s : State) : List Byte :=
  let mine := lookup staged id
  let kept := (paramInfo s id).any ParamInfo.retained
  le 4 id ++ le 1 (bit mine.isSome + 2 * bit kept) ++ zs 3 ++ le 8 (param id s) ++ le 8 (mine.getD 0)

def paramReadRun (p : Packet) (s : State) : State × Ans :=
  let ids := (List.range (field p.body 0 2)).map fun i => field p.body (4 + 4 * i) 4
  match (ids.zip (List.range ids.length)).findSome? fun e => (unreadable e.1 s).map fun st => (st, e.2) with
  | some (st, i) => (s, refuse st rEntry i)
  | none => (s, ok (ids.flatMap fun id => readEntry id (stagedOf p.originator s) s))

/-- The lowest role that a parameter requires is ADMIN (R306 and each unit's table). -/
def paramDescribeRun (p : Packet) (s : State) : State × Ans :=
  let id := field p.body 0 4
  match paramInfo s id with
  | none => (s, refuse stRange rField 0)
  | some i =>
    if paramAbsent id s then (s, refuse stAbsent rUnit ((id / 256) % 65536))
    else (s, ok (le 1 (bit i.signed) ++ le 1 Role.admin.code ++ le 1 (bit i.retained) ++ zs 5 ++ le 8 i.min ++
        le 8 i.max ++ le 8 i.default))

/-! ### Commit (R295-R301) -/

/-- A value permitted only in Open mode (R111, R447, R575, R997). -/
def openOnly (id v : Nat) : Bool :=
  (id = pPlanPolicy && v = 1) || (id = pOpticPolicy && v = 1) || (id = pLend && v = 1) || (id = pPatrolEnable && v = 0)

/-- The first slate whose shingles a share would not hold (R515): queued, engine-held and in flight, and the
reservations of its inputs. -/
def shareShort (v : Nat) (s : State) : Option Nat :=
  (List.range 36).find? fun n =>
    let t := site n s
    v * 4096 < t.queued + t.engineHeld + t.inFlight + reserved n s

/-- A parameter's value once a set is in force. -/
def withSet (set : List (Nat × Nat)) (id : Nat) (s : State) : Nat := (lookup set id).getD (param id s)

/-- The first dormer session of a set whose analysis port is its source or absent (R510). -/
def dormerFault (set : List (Nat × Nat)) (s : State) : Option Nat :=
  (List.range 8).find? fun n =>
    withSet set (pDormer n 0) s = 1 &&
      (let a := withSet set (pDormer n 5) s
       let src := withSet set (pDormer n 1) s
       a = src || !(a < 160 && portFitted a s))

/-- The refusal of a set as a whole (R296). -/
def setFault (set : List (Nat × Nat)) (s : State) : Option (Nat × Nat) :=
  if isLedger s && set.any (fun e => openOnly e.1 e.2) then some (rMode, 0)
  else if zoneWOn s && set.any (fun e => (e.1 = pService && e.2 = 1) || (e.1 = pAout 0 1 && e.2 ≠ param (pAout 0 1) s)) then
    some (rRailOn, 0)
  else match dormerFault set s with
    | some n => some (rDormerPort, n)
    | none => ((lookup set pShare).bind fun v => shareShort v s).map fun n => (rShareInUse, n)

/-- The tick that a commit uses: T where the commit arrives before it, else the first tick after its arrival,
at most 20 us later (R146). -/
def tickUsed (t : Nat) (s : State) : Nat :=
  let there := arrival 6250 s
  if t = 0 || t ≤ there then there + 1 else t

/-- Another originator's set at the same tick with a common ID (R300). -/
def conflicts (o : U32) (tick : Nat) (set : List (Nat × Nat)) (s : State) : Bool :=
  s.batten.scheduled.any fun x =>
    x.originator != o && x.tick = tick && x.entries.any fun e => (lookup set e.1).isSome

def paramCommitRun (p : Packet) (s : State) : State × Ans :=
  let t := field p.body 0 8
  let set := stagedOf p.originator s
  if tallyNat s + 2 ^ 40 < t then (s, refuse stRange rField 0)
  else if set.isEmpty then (s, refuse stPrecond rEmptySet 0)
  else match setFault set s with
    | some (r, a) => (s, refuse stPrecond r a)
    | none =>
      if s.batten.scheduled.any fun x => x.originator = p.originator then (s, refuse stBusy rScheduled 0)
      else
        let tick := tickUsed t s
        if conflicts p.originator tick set s then (bumpFree s, refuse stBusy rConflict 0)
        else
          ({ bumpFree s with batten := { s.batten with
              staged := erase p.originator.toNat s.batten.staged
              scheduled := s.batten.scheduled ++ [{ originator := p.originator, tick := tick, entries := set }]
              appliedBy := s.batten.appliedBy.filter (· != p.originator.toNat) } }, ok (le 8 tick))

/-- PARAM_DISCARD (R303, R336). -/
def paramDiscardRun (p : Packet) (s : State) : State × Ans :=
  let o := p.originator
  let staged := stagedOf o s
  let had := s.batten.scheduled.any fun x => x.originator = o
  if staged.isEmpty && !had && s.batten.appliedBy.contains o.toNat then (s, refuse stPrecond rApplied 0)
  else
    ({ s with batten := { s.batten with
        staged := erase o.toNat s.batten.staged
        scheduled := s.batten.scheduled.filter fun x => x.originator != o
        appliedBy := if had then s.batten.appliedBy.filter (· != o.toNat) else s.batten.appliedBy } },
     ok (le 2 staged.length ++ le 1 (bit had) ++ zs 5))

/-! ### Application (R302, R304) -/

/-- A parameter's value arrives in the domains that apply it at a tally mark: unit BATTEN in those of Finial and the
Coping unit, any other in its one. -/
def applyMarked (id v : Nat) (s : State) : State :=
  if id / 16777216 = 0x12 then { s with batten.markParams := put id v s.batten.markParams } else applyParam id v s

/-- Whether a parameter applies at the tick itself: unit BATTEN does, in the wafer and the Eaves. -/
def appliesAtTick (id : Nat) : Bool := id / 16777216 = 0x12 || !appliesAtMark id

/-- A scheduled set is applied whole: journalled, then each parameter in its domain, at once in those of the wafer and
of the Eaves (DESIGN CHOICE, entry 98), and in the others at the first mark at or after the tick, which may be the mark
that the tick is. -/
def applySet (x : Scheduled) (s : State) : State :=
  let tick := max x.tick (tallyNat s)
  let s := { s with batten := { s.batten with
      scheduled := s.batten.scheduled.filter fun y => y.originator != x.originator
      appliedBy := x.originator.toNat :: s.batten.appliedBy.filter (· != x.originator.toNat) } }
  let s := journalEave (paramBody 0 x.entries.length x.originator.toNat tick (setDigest x.entries) s) s
  let marked := x.entries.filter fun e => appliesAtMark e.1
  let s := if atMark s then marked.foldl (fun t e => applyMarked e.1 e.2 t) s
    else { s with coping.pendingParams := s.coping.pendingParams ++ marked.map fun e => (e.1, e.2, tick) }
  (x.entries.filter fun e => appliesAtTick e.1).foldl (fun t e => applyParam e.1 e.2 t) s

/-- The earliest tick of the scheduled sets. -/
def earliest (s : State) : Option Nat :=
  match s.batten.scheduled.map Scheduled.tick with
  | [] => none
  | t :: ts => some (ts.foldl min t)

/-- PARAM_SET_APPLY: the sets of the earliest tick, and any other that is due, in tick order (R301); a set whose tick has
passed is applied at the next tick (R309). The snapshots of the tick come first (R151), and the tick's own gain of the
ramp bucket is at the rate before the commit (R131; DESIGN CHOICE, entry 99). -/
def execParamSetApply (s : State) : Host.Outcome State Fault Refusal :=
  match earliest s with
  | none => .next s
  | some t =>
    if !marksSent s then .next s
    else
      let s := snapsBefore (if t < tallyNat s then tallyNat s + 1 else t) s
      let due := sortBy (fun a b => a.tick ≤ b.tick) (s.batten.scheduled.filter fun x => x.tick ≤ tallyNat s)
      .next (due.foldl (fun u x => applySet x u) s)

/-- TALLY_MARK: at each value that is a multiple of 1,024, the always-on units capture their counters and
apply what waits for a mark (R143, R144, R149). -/
def execTallyMark (s : State) : Host.Outcome State Fault Refusal :=
  if !marksSent s then .next s
  else
    let m := nextMark s
    let s := captureOthers (emit (.tallyMark m) (advanceTo m { s with tally.lastMark := some m }))
    let due := s.coping.pendingParams.filter fun x => x.2.2 ≤ m
    let s := { s with coping.pendingParams := s.coping.pendingParams.filter fun x => m < x.2.2 }
    let s := due.foldl (fun t x => applyMarked x.1 x.2.1 t) s
    .next (activationMark (if s.coping.syncPending then syncAll s else s))

end Sys2Proof.Machine
end

