-- ==== Sys2Proof/Machine/Freeze.lean ====
section
/-! DEFINITION. Freeze and state snapshot (13): the triggers, the stop, THAW and RESTART, SNAP readout, and the
commands of Table 6.14. -/

namespace Sys2Proof.Machine

/-! ### Triggers (Table 13.1) -/

/-- FRZ_N_ASSERT: a falling edge held for 2 tk (R748, R750, R751). -/
def execFrzNAssert (s : State) : Host.Outcome State Fault Refusal :=
  if s.freezeUnit.frzLow then .next s
  else
    let s := { s with freezeUnit := { s.freezeUnit with frzLow := true } }
    if s.freezeUnit.frozen || triggerPhase s then .next (trigger 0 0 0 s) else .next (count (cFreeze 1) s)

/-- FRZ_N_RELEASE: FRZ_N is seen high. -/
def execFrzNRelease (s : State) : Host.Outcome State Fault Refusal :=
  .next { s with freezeUnit := { s.freezeUnit with frzLow := false } }

/-- FREEZE_AT_REACHED: the first tick at or above the armed value (R792). -/
def execFreezeAtReached (s : State) : Host.Outcome State Fault Refusal :=
  match s.freezeUnit.armed with
  | none => .next s
  | some t =>
    if !marksSent s then .next s
    else .next (trigger 1 0 0 (advanceTo t { s with freezeUnit := { s.freezeUnit with armed := none } }))

/-! ### The stop (R757, R762, R763) -/

/-- The lowest trigger code of the requests (R789). -/
def lowestCode (rs : List FreezeRequest) : Nat := (rs.map FreezeRequest.code).foldl min 4

/-- Every error class of the requests. -/
def allClasses (rs : List FreezeRequest) : Nat := (rs.map FreezeRequest.classes).foldl (· ||| ·) 0

/-- An internal trigger that fired disarms itself (R756). -/
def disarm (rs : List FreezeRequest) (s : State) : State :=
  let s := if rs.any fun r => r.code = 3 then setParam pMatchEnable 0 s else s
  if rs.any fun r => r.code = 4 then setParam pErrorMask 0 s else s

/-- A trained port at step 6: what it was receiving is cut, what it was transmitting is flushed. -/
def freezePort (p : Nat) (s : State) : State :=
  let q := port p s
  if !trained p s then s
  else
    let n := bit q.openRx.isSome + bit q.parked.isSome
    let s := landPort p (countBy (cPort p 0x16) n (dropReception p s))
    let cut := cutFrames p s
    let s := setPort p (fun q => { q with sending := none, suspended := none }) s
    emit (.freezeIdle p) (flush (fun _ => false) cut 2 rFrozen p s)

/-- Finial hears of the freeze at most 200 ns and 1 us after F (Table 13.3, step 8). -/
def noticeDelay (s : State) : Nat := Config.duration s.freeCount % 376

/-- The tray is frozen at the present tally value. -/
def freezeNow (s : State) : State :=
  let rs := s.freezeUnit.requests
  let s := forEach (List.range 160) freezePort (disarm rs s)
  let f := tallyNat s
  let coll := ((rs.filter fun r => r.code = 3).map FreezeRequest.collective).headD 0
  let s := { bumpFree s with freezeUnit := { s.freezeUnit with
      frozen := true, requests := [], freezeTally := f, trigger := lowestCode rs, collective := coll
      classes := allClasses rs, since := s.now, notice := s.now + noticeDelay s, destructive := false
      cancelled := s.freezeUnit.armed, armed := none, reading := none, snapshots := [], snapRequested := false
      powerFail := s.power.powerFail } }
  finishAll isFreezeOp stOk 0 0 (le 8 f) (count (cFreeze 2) s)

/-- FREEZE_STOP: the first tick after a request has reached D1; FREEZE_AT stops at its own tick. -/
def execFreezeStop (s : State) : Host.Outcome State Fault Refusal :=
  let rs := s.freezeUnit.requests
  if s.freezeUnit.frozen || rs.isEmpty || !s.power.waferRunning then .next s
  else if rs.any fun r => r.code = 1 then .next (freezeNow s)
  else .next (freezeNow (advance 1 s))

/-! ### THAW (R777-R781) -/

/-- Whether THAW is accepted: within 1 ms of the notice, with nothing destructive, no snapshot under way, and
no power fail (R777, R796). -/
def mayThaw (s : State) : Bool :=
  let f := s.freezeUnit
  s.now ≤ f.notice + tkPerMs && !f.destructive && !f.powerFail && !hasOp isSnapshotOp s

/-- A port's transmitter resumes (R766). -/
def thawPort (p : Nat) (s : State) : State :=
  if !trained p s then s
  else
    sendCredit p (sendLstate p 0 0 (sendAlign p s))

/-- The tally after THAW (R781); an acquisition under way goes on, and a tray whose tally is ahead stays UNLOCKED until a
TALLY_REACQUIRE (R167). -/
def thawTally (s : State) : State :=
  match s.tally.state with
  | .acquiring => { s with tally.lastMarker := none }
  | _ =>
    if s.tally.cause.toNat = rTallyAhead then
      { s with tally := { s.tally with lastMarker := none, expected := none, announced := none } }
    else
    let s := { s with tally := { s.tally with
        lastMarker := none, expected := none, announced := none, slewLeft := 0, awaitAnnounced := true } }
    if s.tally.syncPresent then tallyTo .slewing 0 s else tallyTo .unlocked 0 s

/-- A patrol slice under test at F is repeated from its start (R794). -/
def repeatSlice (s : State) : State :=
  match s.patrol.current with
  | some (_, .testing) => count (cPatrol 5) s
  | _ => s

/-- The domains restart, and the tally resumes from F. -/
def thawNow (s : State) : State :=
  let s := flushNotes (endFreeze (some 3) (count (cFreeze 3) s))
  checkReady (thawTally (repeatSlice (forEach (List.range 160) thawPort s)))

def thawRun (_p : Packet) (s : State) : State × Ans :=
  if !s.freezeUnit.frozen then (s, refuse stPrecond rNotFrozen 0)
  else if !mayThaw s then (s, refuse stPrecond rThawWindow 0)
  else (thawNow s, ok (le 8 s.freezeUnit.freezeTally))

/-- AUTO_THAW: freeze.auto_thaw_us after the notice, unless a SNAP_START came first (R779). -/
def execAutoThaw (s : State) : Host.Outcome State Fault Refusal :=
  let us := param pAutoThaw s
  if !s.freezeUnit.frozen || us = 0 || s.freezeUnit.snapRequested then .next s
  else
    let s := { s with now := max s.now (s.freezeUnit.notice + us * 3125 / 10) }
    if mayThaw s then .next (thawNow s) else .next s

/-! ### RESTART -/

def restartRun (p : Packet) (s : State) : State × Ans :=
  if !s.freezeUnit.frozen then (s, refuse stPrecond rNotFrozen 0)
  else if s.freezeUnit.powerFail then (s, refusePhase s)
  else (startOp .restart p 0x93 s, .accept [])

/-- The asynchronous operations of the other units, which RESTART does not reset. -/
def outsideWafer : OpKind → Bool
  | .calibration _ | .roleSwap _ | .imgVerify _ _ _ | .imgActivate _ _ _ => true
  | _ => false

/-- The commands of the other units that run at a RESTART complete as ABORTED too (R383). A calibration ends with its
command; a verification and an activation go on without one (DESIGN CHOICE, entry 110). -/
def abortOutside (s : State) : State :=
  let again := s.batten.ops.filterMap fun o => match o.kind with
    | .imgVerify kind slot target => some (kind, slot, target)
    | _ => none
  let s := finishAll outsideWafer stAborted 0 0 [] s
  { s with
    coping.calibration := none
    firmware := { s.firmware with
      reverify := (s.firmware.reverify ++ again).eraseDups
      activation := s.firmware.activation.map fun a => { a with ended := true } } }

def restartAfter (_p : Packet) (s : State) : State := byFinial restartWafer (abortOutside (count (cFreeze 4) s))

/-! ### FREEZE and FREEZE_AT -/

/-- FREEZE is synchronous: its one reply carries F, once the tray has stopped. -/
def freezeRun (p : Packet) (s : State) : State × Ans :=
  if s.freezeUnit.frozen then (trigger 2 0 0 s, ok (le 8 s.freezeUnit.freezeTally))
  else if !triggerPhase s then (s, refusePhase s)
  else
    let op := { opOf .freeze p 0x90 with accepted := false }
    (trigger 2 0 0 { s with batten.ops := s.batten.ops ++ [op] }, .accept [])

def freezeAtRun (p : Packet) (s : State) : State × Ans :=
  let t := field p.body 0 8
  if t ≠ 0 && (t ≤ tallyNat s || tallyNat s + 2 ^ 40 < t) then (s, refuse stRange rField 0)
  else match s.tally.state with
    | .acquiring | .unlocked => (s, refuse stPrecond rTally s.tally.state.code)
    | _ =>
      if t = 0 then (cancelArm s, ok (le 8 0))
      else (journalWafer (armBody 0 t s) { s with freezeUnit := { s.freezeUnit with armed := some t } }, ok (le 8 t))

/-! ### SNAP readout (R769-R775) -/

/-- A section: type, source and size (Table 13.5). -/
def snapSections (full : Bool) (s : State) : List (Nat × Nat × Nat) :=
  let sites := (List.range 36).filter fun n => match (site n s).state with
    | .serving | .lending | .draining => true
    | _ => false
  let rim := ((List.range 40).map (· + 0x100)) ++ ((List.range 32).map (· + 0x200)) ++ ((List.range 4).map (· + 0x300)) ++
    ((List.range 2).map (· + 0x400))
  (sites.map fun n => (1, n, 4194304)) ++ (rim.map fun r => (2, r, 262144)) ++ [(3, 0xFFFE, 1048576)] ++
    (if full then (sites.map fun n => (4, n, 83886080)) ++ (sites.map fun n => (5, n, 1342177280)) else [])

/-- The channel with the fewest bytes assigned, the lower on a tie (R773). -/
def leastChannel (load_ : List Nat) : Nat :=
  (List.range 16).foldl (fun b c => if load_.getD c 0 < load_.getD b 0 then c else b) 0

/-- Sections with their channels, each whole on the least loaded one (R772, R773): type, channel, source,
length. -/
def assignSections : List Nat → List (Nat × Nat × Nat) → List (Nat × Nat × Nat × Nat)
  | _, [] => []
  | load_, (ty, src, len) :: rest =>
    let c := leastChannel load_
    (ty, c, src, len) :: assignSections (load_.modify c (· + len)) rest

/-- The whole of a snapshot: the directory first, then every other section. -/
def snapDirectory (full : Bool) (s : State) : List (Nat × Nat × Nat × Nat) :=
  let xs := snapSections full s
  assignSections (List.replicate 16 0) ((0, 0xFFFF, 16 * xs.length) :: xs)

/-- A SNAP frame's header (Table 13.6). -/
def snapHeader (f : SnapFrame) : List Byte :=
  le 4 0x9D2B5A7E ++ le 1 f.channel ++ le 1 f.type ++ le 2 f.source ++ le 4 f.sequence ++ le 4 f.length ++ le 8 f.offset ++
    le 8 f.freezeTally

/-- The bytes of the directory section: an entry of 16 bytes for every other section (R772). -/
def directoryBytes (sections : List (Nat × Nat × Nat × Nat)) : List Byte :=
  (sections.drop 1).flatMap fun x => le 1 x.1 ++ le 1 x.2.1 ++ le 2 x.2.2.1 ++ zs 4 ++ le 8 x.2.2.2

/-- The payload of a SNAP frame: bytes of the directory, or of a section whose content is the frozen unit's own. -/
def snapPayload (sections : List (Nat × Nat × Nat × Nat)) (f : SnapFrame) : List Byte :=
  if f.type = 0 then sub (directoryBytes sections) f.offset f.length
  else (List.range f.length).map fun i => Config.snapByte f.type f.source (f.offset + i)

/-- A SNAP frame as it is sent: header, payload, and the CRC-32C of both (R774). -/
def snapFrameBytes (sections : List (Nat × Nat × Nat × Nat)) (f : SnapFrame) : List Byte :=
  let b := snapHeader f ++ snapPayload sections f
  b ++ le 4 (crc32c b).toNat

/-- The frames of one section, of at most 65,536 payload bytes in ascending offset, numbered on from `first` (R774). -/
def sectionFrames (freezeTally first : Nat) (x : Nat × Nat × Nat × Nat) : List SnapFrame :=
  (List.range ((x.2.2.2 + 65535) / 65536)).map fun i =>
    { channel := x.2.1, type := x.1, source := x.2.2.1, sequence := first + i, length := min 65536 (x.2.2.2 - 65536 * i)
      offset := 65536 * i, freezeTally }

/-- The frames that a channel sends, its sections in order (R773, R774). -/
def channelFrames (freezeTally channel : Nat) (sections : List (Nat × Nat × Nat × Nat)) : List SnapFrame :=
  (sections.filter fun x => x.2.1 = channel).foldl (fun fs x => fs ++ sectionFrames freezeTally fs.length x) []

/-- The frames of a whole snapshot, by channel. -/
def snapFrames (freezeTally : Nat) (sections : List (Nat × Nat × Nat × Nat)) : List SnapFrame :=
  (List.range 16).flatMap fun c => channelFrames freezeTally c sections

/-- The bytes that a snapshot reads out. -/
def snapBytes (full : Bool) (s : State) : Nat := ((snapDirectory full s).map fun x => x.2.2.2).sum

def snapStartRun (p : Packet) (s : State) : State × Ans :=
  if !s.freezeUnit.frozen then (s, refuse stPrecond rNotFrozen 0)
  else
    let s := { s with freezeUnit := { s.freezeUnit with snapRequested := true } }
    (startOp (.snapshot (decide (field p.body 0 1 = 1))) p 0x94 s, .accept [])

/-- The oldest snapshot that waits starts to be read. -/
def startReadout (s : State) : State :=
  match (opsOf isSnapshotOp s).head? with
  | some o =>
    match o.kind with
    | .snapshot full => { s with freezeUnit := { s.freezeUnit with
        reading := some full, destructive := s.freezeUnit.destructive || full } }
    | _ => s
  | none => s

/-- SNAP_READOUT_START: the 200 MHz clock is present on TCK. -/
def execSnapReadoutStart (s : State) : Host.Outcome State Fault Refusal :=
  if s.freezeUnit.frozen && s.freezeUnit.reading.isNone then .next (startReadout s) else .next s

/-- SNAP_DONE: every frame of the snapshot has been sent, and the readout completes; the next that waits starts (R770). -/
def execSnapDone (durationMs : Nat) (s : State) : Host.Outcome State Fault Refusal :=
  match s.freezeUnit.reading, (opsOf isSnapshotOp s).head? with
  | some full, some o =>
    let bytes := snapBytes full s
    let s := emit (.snapshot full (snapDirectory full s) (snapFrames s.freezeUnit.freezeTally (snapDirectory full s))) { s with freezeUnit := { s.freezeUnit with
      reading := none, snapshots := s.freezeUnit.snapshots ++ [{ full, bytes, durationMs }] } }
    .next (startReadout (finishOp o stOk 0 0 (le 8 bytes ++ le 4 durationMs ++ zs 4) s))
  | _, _ => .next s

end Sys2Proof.Machine
end

