-- ==== Sys2Proof/Machine/Controllers.lean ====
section
/-! DEFINITION. The referee (14): heartbeats, verdicts, votes, resynchronisation, role swaps, Finial's own
restart, the inventory, and the commands ROLE_SWAP, CONTROLLER_STATUS and INVENTORY. -/

namespace Sys2Proof.Machine

/-! ### Verdicts (R802-R810, R846) -/

/-- The standby of the authoritative Eave. -/
def standby (s : State) : Option Eave :=
  match authority s with
  | some e => if (eave (peer e) s).state = .standby then some (peer e) else none
  | none => none

/-- No verdict is pending: no self-test ordered for one and no vote posted. -/
def noVerdict (s : State) : Bool :=
  (match s.referee.selftest with
    | .diverged _ => false
    | _ => true) && s.referee.vote.isNone

def isSwapOp : OpKind → Bool
  | .roleSwap _ => true
  | _ => false

/-- A swap under way ends without its completion. -/
def dropSwap (s : State) : State :=
  let pending := match s.referee.selftest with
    | .swap _ => true
    | _ => false
  if pending then { s with referee.selftest := .none } else s

/-- Ticks in an hour. -/
def tkPerHour : Nat := 3600000 * tkPerMs

/-- The restarts of an Eave in the last 60 min. -/
def recentRestarts (e : Eave) (s : State) : List Nat := (eave e s).restarts.filter fun t => s.now < t + tkPerHour

/-- The only controller left is restarted, or stays in reset once the limit is reached (R808, R810); before
step 7 the phase is HELD (R235). -/
def restartOnly (e : Eave) (s : State) : State :=
  let recent := recentRestarts e s
  let s := if s.power.step < 7 then setPhase .held rNoController s else s
  let s := { byFinial (holdEave e) s with batten.ridgeOnly := none }
  if recent.length < param pRestartLimit s then
    let now := s.now
    setEave e (fun u => { u with releasing := true, restarts := recent ++ [now] }) (count (cFinial 8) s)
  else setCause rNoController s

/-- An Eave is failed on a verdict (R806-R808): the records, the event, and what becomes of both Eaves. -/
def failEave (e : Eave) (verdict originator sequence : Nat) (d1 d2 : Digest) (s : State) : State :=
  let old := (eave e s).state
  let other := (eave (peer e) s).state
  let s := dropSwap (postEvent 5 (Eave.code e) (count (cFinial 1) (setEave e (fun u => { u with verdict := verdict }) s)))
  let s := if verdict = 2 then
      journalFinial (.control 4 (Eave.code e) old.code 3 verdict (markTallyNat s) sequence originator (fill s) d1 d2) s
    else s
  let s := journalFinial (.control 1 (Eave.code e) old.code 3 verdict (markTallyNat s) sequence originator (fill s) d1 d2) s
  match other with
  | .authoritative | .standby =>
    let s := if verdict = 2 then { s with batten.ridgeOnly := some (peer e) } else s
    byFinial (holdEave e) (if old = .authoritative then nameAuthority (peer e) s else s)
  | .resyncing => leakCheck (restartOnly (peer e) (byFinial (holdEave e) s))
  | _ => leakCheck (restartOnly e s)

/-- Step 3 of R804: the standby is failed, and the authoritative Eave continues. -/
def failStandby (r : Diverged) (s : State) : State :=
  match standby s with
  | some e => failEave e 2 r.originator.toNat r.sequence.toNat r.digestA r.digestB s
  | none => s

/-- Whether an Eave runs under Finial's recognition. -/
def recognised (e : Eave) (s : State) : Bool :=
  match (eave e s).state with
  | .authoritative | .standby | .resyncing => (eave e s).booted
  | _ => false

/-- A DIVERGED report reaches Finial, which orders both Eaves to run a full self-test. -/
def divergedToFinial (r : Diverged) (s : State) : State :=
  let s := errorClass 0 s
  if !s.referee.booted || !noVerdict s then s else { s with referee.selftest := .diverged r }

/-- DIVERGED_REPORT. -/
def execDivergedReport (report : Diverged) (s : State) : Host.Outcome State Fault Refusal :=
  .next (divergedToFinial report s)

/-- The first rack marker at or after a value. -/
def markerFrom (t : Nat) : Nat := (t + 65535) / 65536 * 65536

/-- The next scheduled due value: R_tk + k x finial.swap_hours x 1.125 x 10^12 (R817). -/
def swapDue (s : State) : Nat :=
  s.referee.readyTally + s.referee.swapIndex * (param pSwapHours s * 1125000000000)

/-- Whether scheduled swaps have begun: the phase has become READY. -/
def swapsRun (s : State) : Bool := s.power.step = 14

/-- The earliest swap that is due, scheduled or requested. -/
def nextSwap (s : State) : Option Nat :=
  let asked := s.batten.ops.filterMap fun o => match o.kind with
    | .roleSwap t => some t
    | _ => none
  let all := if swapsRun s then swapDue s :: asked else asked
  match all with
  | [] => none
  | t :: ts => some (ts.foldl min t)

/-- The schedule moves past a marker. -/
def passSchedule (ts : Nat) (s : State) : State :=
  if swapsRun s && swapDue s ≤ ts then { s with referee.swapIndex := s.referee.swapIndex + 1 } else s

/-- A swap that is due is skipped (R819). -/
def skipSwap (ts : Nat) (s : State) : State :=
  let s := passSchedule ts (count (cFinial 3) s)
  let s := match standby s with
    | some e => journalFinial (finialBody 0 (Eave.code e) ControllerState.standby.code ControllerState.standby.code rNoStandby 0 s) s
    | none => journalFinial (finialBody 0 4 0 0 rNoStandby 0 s) s
  finishAll (fun k => match k with | .roleSwap u => u ≤ ts | _ => false) stPrecond rNoStandby 0 [] s

/-- SELFTEST_RESULT (R804, R821). -/
def execSelftestResult (failA failB : Bool) (s : State) : Host.Outcome State Fault Refusal :=
  match s.referee.selftest with
  | .none => .next s
  | .diverged r =>
    let s := { s with referee.selftest := .none }
    if failA && !failB && recognised .a s then .next (failEave .a 3 0 0 0 0 s)
    else if failB && !failA && recognised .b s then .next (failEave .b 3 0 0 0 0 s)
    else if param pVoteMs s ≠ 0 then
      .next (count (cFinial 4) { s with referee.vote := some { id := s.referee.nextVote, report := r }
                                        referee.nextVote := s.referee.nextVote + 1 })
    else .next (failStandby r s)
  | .swap ts =>
    match standby s with
    | none => .next (skipSwap ts (dropSwap s))
    | some e =>
      if (match e with | .a => failA | .b => failB) then .next (failEave e 3 0 0 0 0 (skipSwap ts (dropSwap s)))
      else .next s

/-- VOTE_TIMEOUT. -/
def execVoteTimeout (s : State) : Host.Outcome State Fault Refusal :=
  match s.referee.vote with
  | none => .next s
  | some v => .next (failStandby v.report (count (cFinial 5) { s with referee.vote := none }))

/-- VOTE_ANSWER_WRITE (R1047). -/
def execVoteAnswerWrite (value : U32) (s : State) : Host.Outcome State Fault Refusal :=
  match s.referee.vote with
  | none => .next s
  | some v =>
    if value.toNat / 256 ≠ v.id % 2 ^ 24 then .next s
    else
      let r := v.report
      let s := { s with referee.vote := none }
      let loser := match value.toNat % 4 with
        | 1 => some Eave.b
        | 2 => some Eave.a
        | _ => none
      match loser with
      | some e =>
        if recognised e s then .next (failEave e 2 r.originator.toNat r.sequence.toNat r.digestA r.digestB s) else .next s
      | none => .next (failStandby r s)

/-! ### Heartbeats (R799-R803, R845) -/

/-- Both Eaves have reported one digest sequence (R801). -/
def compareDigests (s : State) : State :=
  let a := s.referee.a
  let b := s.referee.b
  if !eaveAdmitted .a s || !eaveAdmitted .b s || a.digestSeq ≠ b.digestSeq || a.lastCount.isNone || b.lastCount.isNone then s
  else if a.digest = b.digest then { s with referee.digestsAgree := true }
  else
    divergedToFinial
      { originator := 1, sequence := BitVec.ofNat 64 a.digestSeq, digestA := a.digest, digestB := b.digest
        pathA := .ridge .a, pathB := .ridge .b }
      { s with referee.digestsAgree := false }

/-- The new authoritative Eave reports itself (Table 14.5, step 3): a ROLE_SWAP completes. -/
def swapReported (s : State) : State :=
  let t := s.referee.swapTick
  let e := (s.referee.swapped.map Eave.code).getD 0
  finishAll (fun k => match k with | .roleSwap u => u ≤ t | _ => false) stOk 0 0 (le 1 e ++ zs 7 ++ le 8 t)
    { s with referee.swapped := none }

/-- HEARTBEAT. -/
def execHeartbeat (hb : Heartbeat) (s : State) : Host.Outcome State Fault Refusal :=
  let e := hb.eave
  let n := hb.count.toNat
  if !s.referee.booted || !recognised e s || !hb.crcGood || (eave e s).lastCount.any (n ≤ ·) then .next s
  else
    let clean := hb.selftest = 0
    let s := setEave e (fun u => { u with
      heard := true, lastCount := some n, cleanRun := if clean then u.cleanRun + 1 else 0
      digestSeq := hb.digestSeq.toNat, digest := hb.stateDigest }) (count (cEave (Eave.code e) 1) s)
    let s := { s with referee.noController := false }
    let s := if s.referee.swapped = some e && hb.state.toNat = 0 then swapReported s else s
    if clean then .next (compareDigests s) else .next (failEave e 3 0 0 0 0 s)

/-- The end of an Eave's 10 ms interval (R800). -/
def intervalEnd (e : Eave) (s : State) : State :=
  if !recognised e s then s
  else if (eave e s).heard then setEave e (fun u => { u with heard := false, missedRun := 0 }) s
  else setEave e (fun u => { u with missedRun := u.missedRun + 1, missed := u.missed + 1, cleanRun := 0 })
    (count (cEave (Eave.code e) 2) s)

/-- Whether an Eave has missed three in a row. -/
def silent (e : Eave) (s : State) : Bool := recognised e s && 3 ≤ (eave e s).missedRun

/-- HEARTBEAT_INTERVAL: three misses fail an Eave, unless both reach them in the same interval (R845). -/
def execHeartbeatInterval (s : State) : Host.Outcome State Fault Refusal :=
  if !s.referee.booted then .next s
  else
    let s := intervalEnd .b (intervalEnd .a s)
    if silent .a s && silent .b s then .next (leakCheck { s with referee.noController := true })
    else if silent .a s then .next (failEave .a 1 0 0 0 0 s)
    else if silent .b s then .next (failEave .b 1 0 0 0 0 s)
    else .next s

/-! ### Restart and return (R808, R813-R815) -/

/-- EAVE_RESTART_RELEASE: the 10 ms hold of a restart, or of a switch to a new image, ends. -/
def execEaveRestartRelease (eave : Eave) (s : State) : Host.Outcome State Fault Refusal :=
  if (Sys2Proof.Machine.eave eave s).releasing then .next (byFinial (releaseEave eave) s) else .next s

/-- RESYNC_DIGEST_REPORT: Finial compares the digests at the cut. -/
def execResyncDigestReport (eave : Eave) (digest reference : Digest) (s : State) : Host.Outcome State Fault Refusal :=
  let u := Sys2Proof.Machine.eave eave s
  if u.state ≠ .resyncing || !u.booted || (authority s).isNone then .next s
  else if digest = reference then
    let s := setEave eave (fun u => { u with mismatches := 0 }) (eaveTo eave .standby s)
    let s := count (cEave (Eave.code eave) 3) { s with batten.ridgeOnly := none, referee.digestsAgree := true }
    let s := journalFinial (finialBody 3 (Eave.code eave) ControllerState.resyncing.code ControllerState.standby.code 0 0 s) s
    .next (eaveReady eave s)
  else if 2 ≤ u.mismatches then .next (failEave eave 2 1 0 reference digest s)
  else .next (setEave eave (fun u => { u with mismatches := u.mismatches + 1 }) s)

/-! ### Role swaps (R817-R824) -/

/-- Whether an Eave of a rolling pair may be authoritative: its image and the wafer's lie in a tested set
(R824). -/
def mayLead (e : Eave) (s : State) : Bool :=
  let eaves := s.firmware.running.filter fun r => r.kind = 1
  match eaves with
  | [x, y] =>
    if rollingPair x.sha y.sha s && !inTestedSet [x, y] s then
      inTestedSet ((s.firmware.running.filter fun r => r.kind = 0) ++ (eaves.filter fun r => r.target = Eave.code e)) s
    else true
  | _ => true

/-- The conditions of R818. -/
def swapPermitted (s : State) : Bool :=
  match standby s with
  | none => false
  | some e =>
    3 ≤ (eave e s).cleanRun && s.referee.digestsAgree && noVerdict s && s.referee.swapped.isNone &&
      !(s.firmware.activation.any fun a => a.kind = 1) && !s.freezeUnit.frozen && mayLead e s

/-- ROLE_SWAP_CHECK: at the rack marker before the swap marker. -/
def execRoleSwapCheck (s : State) : Host.Outcome State Fault Refusal :=
  match nextSwap s with
  | none => .next s
  | some due =>
    if !marksSent s || !s.referee.booted || s.referee.swapped.isSome then .next s
    else match s.referee.selftest with
      | .swap _ => .next s
      | _ =>
        let ts := max (markerFrom due) (markerFrom (tallyNat s) + 65536)
        let s := advanceTo (ts - 65536) s
        if swapPermitted s then .next { s with referee.selftest := .swap ts } else .next (skipSwap ts s)

/-- ROLE_SWAP_MARKER: Finial names the standby authoritative. -/
def execRoleSwapMarker (s : State) : Host.Outcome State Fault Refusal :=
  match s.referee.selftest with
  | .swap ts =>
    if !marksSent s then .next s
    else
      let s := advanceTo ts { s with referee.selftest := .none }
      match standby s with
      | none => .next (skipSwap ts s)
      | some e =>
        let s := passSchedule ts (count (cFinial 2) (nameAuthority e s))
        .next { s with referee := { s.referee with swapped := some e, swapTick := ts, swapAnchor := true } }
  | _ => .next s

/-- ROLE_SWAP_TIMEOUT: authority returns to the former authoritative Eave (R821). -/
def execRoleSwapTimeout (s : State) : Host.Outcome State Fault Refusal :=
  match s.referee.swapped with
  | none => .next s
  | some e =>
    let t := s.referee.swapTick
    let s := { s with referee.swapped := none }
    let s := finishAll (fun k => match k with | .roleSwap u => u ≤ t | _ => false) stAborted 0 0 [] s
    if (eave (peer e) s).state = .standby then .next (failEave e 1 0 0 0 0 (nameAuthority (peer e) s)) else .next s

def roleSwapRun (p : Packet) (s : State) : State × Ans :=
  let t := field p.body 0 8
  if !swapPermitted s then (s, refuse stPrecond rNoStandby 0)
  else (startOp (.roleSwap (if t = 0 then tallyNat s + 65536 else t)) p 0x7D s, .accept [])

/-! ### Finial's own restart (R829, R830) -/

/-- Finial adopts the authority that both Eaves report; on disagreement Eave A is authoritative. -/
def adoptAuthority (reportA reportB : Byte) (s : State) : State :=
  match eaveAdmitted .a s, eaveAdmitted .b s with
  | true, true => nameAuthority (if reportA = 1 && reportB = 1 then .b else .a) s
  | true, false => nameAuthority .a s
  | false, true => nameAuthority .b s
  | false, false => s

/-- FINIAL_WATCHDOG_RESTART: also the boot that ends a Finial image's activation. -/
def execFinialWatchdogRestart (reportA reportB : Byte) (s : State) : Host.Outcome State Fault Refusal :=
  if !s.referee.booted then .next s
  else
    let s := clearCounters finialCounter s
    let s := match s.firmware.activation with
      | some a => if a.kind = 2 then settleActivations (switchDone a s) else (bootTarget 2 0 s).1
      | none => (bootTarget 2 0 s).1
    let s := { s with referee := { s.referee with selftest := .none, vote := none, swapped := none } }
    let s := finishAll isSwapOp stAborted 0 0 [] s
    .next (adoptAuthority reportA reportB s)

/-! ### CONTROLLER_STATUS -/

/-- The state code of an Eave: one that is booting is reported RESYNCING, one held in reset FAILED. -/
def reportedState (e : Eave) (s : State) : Nat :=
  let u := eave e s
  if u.state = .failed && eaveRstN e s then ControllerState.resyncing.code else u.state.code

def controllerEntry (e : Eave) (s : State) : List Byte :=
  let u := eave e s
  le 1 (reportedState e s) ++ le 1 u.verdict ++ zs 2 ++ le 4 u.missed ++ le 8 u.since

def controllerStatusRun (_p : Packet) (s : State) : State × Ans :=
  (s, ok (controllerEntry .a s ++ controllerEntry .b s ++ le 8 ((nextSwap s).map markerFrom |>.getD 0)))

/-! ### Inventory (R840-R842) -/

/-- The listed units by kind and position, with the key of the rail that feeds each; an empty bay has none (R841). -/
def inventoryUnits (s : State) : List (Nat × Nat × Nat) :=
  let fitted (bay : Nat → CartridgeId) (count : Nat) : List Nat :=
    (List.range count).filter fun n => !s.power.emptyBays.contains (bay n)
  let lofts := if hasLoft s then fitted .loft 32 else []
  [(0, 0, 0)] ++ ((List.range 36).map fun n => (1, n, n + 1)) ++ ((fitted .cable 16).map fun n => (2, n, 40)) ++
    (if hasOptical s then (fitted .optical 4).map fun n => (3, n, 43) else []) ++
    (lofts.map fun n => (4, n, 42)) ++
    (lofts.flatMap fun n => (List.range 16).map fun channel => (5, 16 * n + channel, 42)) ++
    ((fitted .thatch (if s.ident.thatchB then 4 else 2)).map fun n => (6, n, 41)) ++ [(7, 0, 41)] ++
    ((List.range 16).map fun n => (8, n, 50))

/-- One entry: power cycles and whole hours of its rail; serial and part numbers are not the manual's. -/
def inventoryEntry (x : Nat × Nat × Nat) (s : State) : List Byte :=
  let (kind, pos, key) := x
  let cycles := if key = 50 then s.power.aonCycles else (lookup s.invCycles key).getD 0
  le 1 kind ++ zs 1 ++ le 2 pos ++ le 4 cycles ++ le 4 ((lookup s.invHours key).getD 0 / tkPerHour) ++ zs 4 ++
    (List.range 48).map fun i => Config.inventoryByte kind pos i

def inventoryRun (p : Packet) (s : State) : State × Ans :=
  let s := accrue s
  let rest := (inventoryUnits s).drop (field p.body 0 2)
  let most := min (field p.body 2 2) ((replyRoom p.path - 8) / 64)
  let shown := rest.take most
  (s, ok (le 2 shown.length ++ le 1 (bit (decide (most < rest.length))) ++ zs 5 ++ shown.flatMap fun x => inventoryEntry x s))

/-- INVENTORY_WRITE: the authoritative Eave writes the inventory to every accepting Thatch bank. -/
def execInventoryWrite (s : State) : Host.Outcome State Fault Refusal :=
  if (authority s).isNone then .next s
  else
    let s := accrue s
    let cycles := s.invCycles
    let hours := s.invHours
    .next (onAccepting (fun n t => setBank n (fun b => { b with invCycles := cycles, invHours := hours }) t) s)

end Sys2Proof.Machine
end

