-- ==== Sys2Proof/Machine/Power.lean ====
section
/-! DEFINITION. Power (04, 19): what survives the always-on rail, the busbar and its hold-up, the pins SLOT_ID
and SHELF_OK, cartridge faults, the rails of steps 7 and 8, and the commands TRAY_STATE and MODE_SET. -/

namespace Sys2Proof.Machine

/-! ### What Finial and the media keep (R209, R239, R828) -/

/-- The default map of R89, from the descriptor's active list. -/
def defaultMap (k per : Nat) (s : State) : List (Option Nat) :=
  let active := activeList s
  (List.range k).map fun n => active[n / per]?

/-- A bank's media; the bank is mounted again at step 12. -/
def Bank.media (b : Bank) : Bank :=
  { state := .offline, durable := b.durable, factoryBad := b.factoryBad, grownBad := b.grownBad, ring := b.ring
    invCycles := b.invCycles, invHours := b.invHours }

/-- An AOUT channel at its power-up code, with its stored span (R924). -/
def aoutPowerUp (ch : Nat) (s : State) : AoutChannel :=
  let code : U16 := BitVec.ofNat 16 (param (pAout ch 2) s)
  { span := param (pAout ch 1) s, code := code, output := code }

/-- A slot whose target loses its power (Table 17.6): a download is erased, a verification is run again. -/
def powerCut (verifying : Bool) (x : ImageSlot) : ImageSlot :=
  if x.state = .incomplete then { x with state := .empty, owner := 0, total := 0, image := [], busy := false }
  else { x with busy := verifying }

/-- The slots of a kind whose targets come back from a loss of power. -/
def eraseDownloads (kind : Nat) (s : State) : State :=
  { s with firmware.slots := s.firmware.slots.map fun x => if x.kind = kind then powerCut x.busy x else x }

/-- The tray as the always-on rail comes up: what Finial retains (R828), the flash slots and boot pointers, and
the banks' media; everything else at its power-up value. -/
def retained (s : State) : State :=
  let s := accrue (unmountBanks false s)
  let fresh := State.reset
  let params := s.params.filter fun kv => (paramInfo s kv.1).any ParamInfo.retained
  let kept := { s with params := params }
  let again := s.firmware.reverify ++ s.batten.ops.filterMap fun o => match o.kind with
    | .imgVerify kind slot target => some (kind, slot, target)
    | _ => none
  { fresh with
    ident := s.ident, mode := s.mode, plan := s.plan, planLoaded := s.planLoaded, params := params
    power := { fresh.power with
      aonUp := s.power.aonUp, aonCycles := s.power.aonCycles
      emptyBays := s.power.emptyBays, boot := { fresh.power.boot with heldLost := s.power.boot.heldLost } }
    batten := { fresh.batten with roleMap := s.batten.roleMap }
    switch := { fresh.switch with portSite := defaultMap 160 5 s, loftSite := defaultMap 32 1 s }
    coping := { fresh.coping with masks := s.coping.masks, aout := (List.range 8).map fun ch => aoutPowerUp ch kept }
    reduction := { fresh.reduction with tokens := param pRampBurst kept * 1000000000000 }
    journal := { fresh.journal with
      bankA := s.journal.bankA.media, bankB := s.journal.bankB.media, durable := s.journal.durable
      next := s.journal.next, lastHash := s.journal.lastHash, fwset := s.journal.fwset, segments := s.journal.segments
      openSince := s.journal.openSince, head := s.journal.head }
    firmware := { s.firmware with
      slots := s.firmware.slots.map fun x => powerCut (again.contains (x.kind, x.slot, x.target)) x
      running := [], activation := none, untested := false, reverify := again }
    invCycles := s.invCycles, invHours := s.invHours, invAt := s.invAt
    out := s.out, now := s.now, freeCount := s.freeCount, pending := s.pending }

/-- AON_POWER_UP: steps 1 and 2. The rail comes up at 40 V or more (R192); SLOT_ID is sampled (R1038). -/
def execAonPowerUp (slotPins : BitVec 5) (busMillivolts : Nat) (s : State) : Host.Outcome State Fault Refusal :=
  if busMillivolts < 40000 || (s.power.aonUp && s.power.step ≠ 1) then .next s
  else
    let cycles := if s.power.aonUp then s.power.aonCycles else s.power.aonCycles + 1
    let s := retained s
    .next (refreshHolds { s with power := { s.power with
      aonUp := true, aonCycles := cycles, slotId := slotPins, slotPins := slotPins, step := 2
      busOutOfRange := busMillivolts < 44000 || 58000 < busMillivolts } })

/-- AON_POWER_LOSS: every latch returns to Table 4.3, and the sequence restarts from step 1 (R239). -/
def execAonPowerLoss (s : State) : Host.Outcome State Fault Refusal :=
  if !s.power.aonUp then .next s
  else
    let s := retained s
    .next { s with
      power.aonUp := false
      coping.aout := s.coping.aout.map fun c => { c with powered := false } }

/-! ### Rails (Table 4.1, steps 4, 7 and 8) -/

/-- The MCUs of a cartridge rail boot as it comes on: 0 the cable cartridges, 3 the optical ones. -/
def cartBoot (b : Nat) (s : State) : State :=
  if b = 0 then forEach (List.range 16) (fun n t => (bootTarget 4 n t).1) (eraseDownloads 4 s)
  else if b = 3 && hasOptical s then
    forEach ((List.range 4).map (16 + ·)) (fun n t => (bootTarget 5 n t).1) (eraseDownloads 5 s)
  else s

/-- A cartridge rail comes on. A zone that a leak switched off is back (R834). -/
def cartRailOn (b : Nat) (s : State) : State :=
  if s.power.latches.cartRailEn.getLsbD b then s
  else
    let s := cartBoot b (setLatches (fun l => { l with cartRailEn := l.cartRailEn ||| (1#4 <<< b) }) s)
    checkCartridges { s with power.quiesced := s.power.quiesced && b ≠ 0 && b ≠ 2 }

/-- Step 7 past the busbar check: the rim-and-mesh rail and the Loft and optical cartridge rails. The cable rail comes
back with them after a hold-up loss (R1033); the Loft rail stays off where an action on zone L switched it off (R834). -/
def railsOn (s : State) : State :=
  let on (s : State) : State :=
    let s := if rimRail s then s else eraseDownloads 0 (setLatches (fun l => { l with rimRailEn := 1 }) s)
    let s := if s.power.cableCut then cartRailOn 0 { s with power.cableCut := false } else s
    cartRailOn 3 (if s.power.loftHeld then s else cartRailOn 2 s)
  settleFlow (byFinial on s)

/-- Step 7 begins: the busbar is checked, and a busbar out of range is waited for (R231). -/
def stepSeven (s : State) : State :=
  let s := { s with power := { s.power with step := 7, powerFail := false, gateAlert := false, nextSite := 0 } }
  if s.power.busOutOfRange then setPhase .waferRamp rBusRange s else railsOn (setPhase .waferRamp 0 s)

/-- The next site whose rail is enabled: SPARE_DEFECTIVE sites, isolated ones and those whose fuse has tripped are
skipped (R205, R232, R839). -/
def nextRail (s : State) : Option Nat :=
  (List.range 36).find? fun n => s.power.nextSite ≤ n && !defective n s && (site n s).state ≠ .isolated &&
    (site n s).cause.toNat ≠ rFuseTrip

/-- A site's rail comes on; a SPARE site is placed in idle, with its clocks gated, until full BIST (R206, R78). -/
def railUp (n : Nat) (s : State) : State :=
  let s := slateRailOn n s
  if siteRole n s = 1 then setSite n (fun t => { t with state := .idle, cause := 0 }) s else s

/-- Step 8: one slate rail is enabled, unless the busbar or the flow holds the sequence (R230, R231, R1062); the
last one leads to step 9. -/
def enableNext (s : State) : State :=
  if s.power.busOutOfRange || s.power.powerFail then setCause rBusRange s
  else if !flowHeld s then s
  else
    let s := match nextRail s with
      | some n => settleFlow (byFinial (railUp n) { setCause 0 s with power.nextSite := n + 1 })
      | none => s
    if (nextRail s).isNone then { s with power.step := 9 } else s

/-- COOLANT_GATE_PASS. Without an admitted Eave the sequence does not go on (R197, R235). -/
def execCoolantGatePass (s : State) : Host.Outcome State Fault Refusal :=
  if s.power.phase ≠ .coolantGate || !gatePasses s then .next s
  else if (authority s).isNone then .next (setPhase .held rNoController s)
  else .next (stepSeven (count (cCoolant 3) s))

/-- COOLANT_GATE_ALERT: coolant.gate_alert_s in COOLANT_GATE. -/
def execCoolantGateAlert (s : State) : Host.Outcome State Fault Refusal :=
  if s.power.phase = .coolantGate then .next { s with power.gateAlert := true } else .next s

/-- RIM_WAIT_EXPIRY: the first slate rail. -/
def execRimWaitExpiry (s : State) : Host.Outcome State Fault Refusal :=
  if s.power.phase = .waferRamp && s.power.step = 7 && rimRail s then
    .next (enableNext { s with power.step := 8 })
  else .next s

/-- SLATE_RAIL_ENABLE: the next slate rail. -/
def execSlateRailEnable (s : State) : Host.Outcome State Fault Refusal :=
  if s.power.phase = .waferRamp && s.power.step = 8 then .next (enableNext s) else .next s

/-! ### The busbar (R714, R1030-R1034, R1062) -/

/-- Power fail is raised: counted, new collectives refused, and records built before it programmed. -/
def raisePowerFail (s : State) : State :=
  if s.power.powerFail then s
  else
    let s := count (cTray 1) { s with power := { s.power with powerFail := true, busOutOfRange := true, busLow := false } }
    let s := if s.power.phase = .waferRamp && s.power.step < 9 then setCause rBusRange s else s
    let s := onAccepting closePage (flushDurable s)
    if s.freezeUnit.frozen then { s with freezeUnit.powerFail := true } else settleJournal s

/-- BUSBAR_POWER_FAIL: below 42 V. -/
def execBusbarPowerFail (s : State) : Host.Outcome State Fault Refusal :=
  if s.power.aonUp then .next (raisePowerFail s) else .next s

/-- BUSBAR_OVERVOLTAGE: above 58 V for 1 ms. -/
def execBusbarOvervoltage (s : State) : Host.Outcome State Fault Refusal :=
  if s.power.aonUp then .next (raisePowerFail s) else .next s

/-- The busbar is back in 44-58 V: a pause of the ramp ends, and the check of step 7 passes. -/
def busReturned (s : State) : State :=
  let s := { s with power := { s.power with busOutOfRange := false, busLow := false } }
  if s.power.phase = .waferRamp && s.power.cause.toNat = rBusRange && !s.power.powerFail then
    let s := setCause 0 s
    if s.power.step = 7 && !rimRail s then railsOn s else s
  else s

/-- POWER_FAIL_CLEAR: at or above 44 V for 100 ms, within 6 ms of power fail (R1030). -/
def execPowerFailClear (s : State) : Host.Outcome State Fault Refusal :=
  if s.power.powerFail then .next (busReturned { s with power.powerFail := false }) else .next s

/-- HOLDUP_EXPIRY: every rail but the always-on, Ridge and Thatch rails goes off, and the phase is HELD (R1031,
R1032). A controller that still boots goes on booting. -/
def execHoldupExpiry (s : State) : Host.Outcome State Fault Refusal :=
  if !s.power.powerFail then .next s
  else
    let cut := s.power.cableCut || cableRail s
    let s := byFinial (fun t => cableOff (if zoneWOn t then waferRailsOff t else t)) s
    .next (settleFlow (reachHeld rBusRange { s with power := { s.power with step := min s.power.step 6, cableCut := cut } }))

/-- BUS_RANGE_RESUME: from HELD with cause BUS_RANGE the tray resumes at step 7 (R1033), once the Eaves have booted
(R193, R197). -/
def execBusRangeResume (s : State) : Host.Outcome State Fault Refusal :=
  if s.power.phase = .held && s.power.cause.toNat = rBusRange && gatePasses s && (authority s).isSome && !eaveBooting .a s && !eaveBooting .b s then
    .next (stepSeven (count (cCoolant 3) { s with power := { s.power with busOutOfRange := false, busLow := false } }))
  else .next s

/-- BUSBAR_LOW: the busbar enters 42-44 V (R1034, R231). -/
def execBusbarLow (s : State) : Host.Outcome State Fault Refusal :=
  if !s.power.aonUp then .next s
  else
    let s := { s with power.busOutOfRange := true }
    if s.power.phase = .ready then .next (count (cTray 2) { s with power.busLow := true })
    else if s.power.phase = .waferRamp && s.power.step < 9 then .next (setCause rBusRange s)
    else .next s

/-- BUSBAR_RANGE_RETURN: outside a power fail. -/
def execBusbarRangeReturn (s : State) : Host.Outcome State Fault Refusal :=
  if s.power.powerFail then .next s else .next (busReturned s)

/-! ### Pins and cartridges (R1038, R1039, R648) -/

/-- SHELF_FAULT: SHELF_OK low for 10 ms, counted once. -/
def execShelfFault (s : State) : Host.Outcome State Fault Refusal :=
  if !s.power.aonUp || s.power.shelfFault then .next s else .next (count (cTray 3) { s with power.shelfFault := true })

/-- SHELF_OK_RETURN. -/
def execShelfOkReturn (s : State) : Host.Outcome State Fault Refusal := .next { s with power.shelfFault := false }

/-- SLOT_ID_CHANGE: a change of the pins is counted, with no other effect (R1038). -/
def execSlotIdChange (pins : BitVec 5) (s : State) : Host.Outcome State Fault Refusal :=
  if s.power.aonUp && 2 ≤ s.power.step && pins ≠ s.power.slotPins then
    .next (count (cTray 4) { s with power.slotPins := pins })
  else .next s

/-- The ports of a cable or optical cartridge. -/
def cartPorts (c : CartridgeId) : List Nat :=
  match c with
  | .cable n => (List.range 8).map (8 * n + ·)
  | .optical n => (List.range 8).map (128 + 8 * n + ·)
  | _ => []

/-- What a cartridge that fails leaves: regions poisoned, its bank offline, or its ports down. -/
def cartridgeLost (c : CartridgeId) (s : State) : State :=
  match c with
  | .loft n => if hasLoft s then loftCartLost n s else s
  | .thatch n =>
    let b := n / 2
    let was := (bank b s).accepts
    let s := setBank b (fun x => { x with faulted := true }) s
    if was then bankOffline b s else s
  | c => railPortsOff (cartPorts c) s

/-- CARTRIDGE_FAULT. -/
def execCartridgeFault (cartridge : CartridgeId) (s : State) : Host.Outcome State Fault Refusal :=
  if s.power.faultedCartridges.contains (cartKey cartridge) then .next s
  else
    let s := { s with power.faultedCartridges := s.power.faultedCartridges ++ [cartKey cartridge] }
    .next (cartridgeLost cartridge s)

/-! ### TRAY_STATE and MODE_SET -/

/-- The cause that TRAY_STATE reports: FROZEN while the tray is frozen (R760). -/
def stateCause (s : State) : Nat := if s.freezeUnit.frozen then rFrozen else s.power.cause.toNat

def trayStateRun (_p : Packet) (s : State) : State × Ans :=
  (s, ok (le 1 s.power.phase.code ++ le 1 s.mode.code ++ le 2 (stateCause s) ++ zs 4 ++ le 8 s.power.phaseTally))

/-- The first condition of R61 that fails for a change to Ledger mode. -/
def ledgerRefusal (s : State) : Option Nat :=
  if !bankAccepts s then some rBanks
  else if !runningTested s.firmware.running s then some rUntested
  else if param pPlanPolicy s ≠ 0 || param pOpticPolicy s ≠ 0 || param pPatrolEnable s ≠ 1 then some rMode
  else none

/-- A mode takes effect: it is journalled, BOOT_SRC = 0b11 and reed.lend end with a change to Ledger mode (R213,
R578), and a halt of the journal is judged again. -/
def changeMode (m : Mode) (originator : U32) (s : State) : State :=
  if s.mode = m then s
  else
    let s := { s with mode := m }
    let s := journalFinial (paramBody 1 0 originator.toNat (tallyNat s) 0 s) s
    let s := if m = .ledger then
        let s := if s.power.latches.bootSrc = 3 then setLatches (fun l => { l with bootSrc := 0 }) s else s
        applyParam pLend 0 s
      else s
    settleJournal s

/-- Whether the command that waits next is a COLLECTIVE_OPEN that would be admitted: it has reached the wafer in the same
tick (R384). -/
def openFollows (s : State) : Bool :=
  match s.pending.head? with
  | some (.collectiveOpen q) => (collectiveOpenRun q s).2.executed
  | _ => false

/-- MODE_SET takes effect at the next tally tick (R62). A COLLECTIVE_OPEN of the same tick counts as admitted first
(R384; DEDUCED, entry 115). -/
def modeSetRun (p : Packet) (s : State) : State × Ans :=
  let m : Mode := if field p.body 0 1 = 0 then .ledger else .openMode
  if s.power.phase ≠ .ready then (s, refusePhase s)
  else match (if m = .ledger then ledgerRefusal s else none) with
    | some r => (s, refuse stPrecond r 0)
    | none =>
      let n := s.reduction.collectives.length + (s.journal.replays.filter fun r => r.state = 0).length + bit (openFollows s)
      if n ≠ 0 then (s, refuse stBusy rInFlight (sat 16 n))
      else (changeMode m p.originator (advance 1 s), ok (le 8 (tallyNat s + 1)))

end Sys2Proof.Machine
end

