-- ==== Sys2Proof/Machine/Boot.lean ====
section
/-! DEFINITION. The power-up sequence from the controllers to the boot record (04, steps 3-5 and 9-12): Finial, the
Eaves and their admission, full BIST, the wafer firmware and its checks, the Thatch mount; and LATCH_WRITE. -/

namespace Sys2Proof.Machine

/-! ### Step 3: Finial -/

/-- FINIAL_BOOT: Finial's firmware is verified, and a tray that powers up for the first time takes its variant's default
mode (R6); the Ridge, cable and Thatch rails come on, and the Eaves are
released (steps 3 and 4). -/
def execFinialBoot (verified : Bool) (s : State) : Host.Outcome State Fault Refusal :=
  if !s.power.aonUp || s.referee.booted || s.power.step < 2 || !verified then .next s
  else
    let s := (bootTarget 3 0 (bootTarget 2 0 (clearCounters finialCounter s)).1).1
    let s := { s with referee.booted := true, power.step := 4
                      mode := if s.power.aonCycles = 1 then defaultMode s else s.mode }
    let s := byFinial (fun t =>
      setLatches (fun l => { l with cartRailEn := l.cartRailEn ||| 2, eaveRstN := 3 }) (cartRailOn 0 t)) s
    let first (u : EaveUnit) : EaveUnit := { u with powerUp := true }
    .next (setPhase .controllers 0 { s with referee := { s.referee with a := first s.referee.a, b := first s.referee.b } })

/-! ### Step 5: the Eaves (R196, R197, R222, R812) -/

/-- The result codes of the BOOT record. -/
def epochCode : EpochResult → Nat
  | .pass => 0 | .mismatch => 1 | .notRun => 2

/-- Notes one epoch result for the BOOT record, by its place in the order of Table 12.3. -/
def noteEpoch (i v : Nat) (s : State) : State := { s with power.boot.epochs := s.power.boot.epochs.set i v }

/-- An Eave is quarantined (R223, R823). -/
def quarantine (e : Eave) (s : State) : State :=
  let old := (eave e s).state
  journalFinial (finialBody 2 (Eave.code e) old.code ControllerState.quarantined.code rEpoch 0 s)
    (eaveTo e .quarantined (splitWindows e s))

/-- Whether an Eave's image lies in a tested set with a wafer identity (Table 4.5, E-E). -/
def eaveTested (e : Eave) (wafers : List Running) (s : State) : Bool :=
  inTestedSet (wafers ++ s.firmware.running.filter fun r => r.kind = 1 && r.target = Eave.code e) s

/-- The Eave that an E-E mismatch leaves admitted: A if both are tested with the wafer firmware. -/
def chooseEave (wafers : List Running) (s : State) : Option Eave :=
  if eaveTested .a wafers s then some .a else if eaveTested .b wafers s then some .b else none

def waferImages (rs : List Running) : List Running := rs.filter fun r => r.kind = 0

/-- Whether an Eave's image works with the wafer firmware that runs (Table 4.5, W-E). -/
def waferMeets (e : Eave) (s : State) : Bool :=
  s.firmware.running.any fun r => r.kind = 1 && r.target = Eave.code e &&
    (waferImages s.firmware.running).all fun w => imagesMeet w (slotOf 0 w.slot 0 s).factory r s

/-- What admission does to the sequence before step 7, once no Eave is booting any more (R193): the coolant gate with an
authoritative Eave, HELD when none is left (R196, R197, R235). -/
def settleAdmission (s : State) : State :=
  if s.power.step < 4 || 7 ≤ s.power.step || eaveBooting .a s || eaveBooting .b s then s
  else
    let waits := s.power.phase = .controllers || (s.power.phase = .held && s.power.cause.toNat = rNoController)
    if (authority s).isSome then
      if waits then setPhase .coolantGate 0 { s with power.step := 6, power.gateAlert := false } else s
    else if waits || s.power.phase = .coolantGate then setPhase .held rNoController s
    else s

/-- Both Eaves run incompatible images at power-up: the choice of Table 4.5. -/
def admitOne (s : State) : State :=
  let k := chooseEave (waferImages s.firmware.lastBooted) s
  let s := { s with referee.chosen := k }
  match k with
  | some k => quarantine (peer k) (nameAuthority k s)
  | none => setPhase .held rEpoch (quarantine .b (quarantine .a s))

/-- The first boot of an Eave since the always-on rail came up, in step 5. -/
def firstBoot (e : Eave) (bad : Bool) (ee : EpochResult) (s : State) : State :=
  if bad then quarantine e s
  else if !eaveAdmitted (peer e) s then eaveTo e .authoritative s
  else
    let s := noteEpoch 5 (epochCode ee) s
    if ee = .mismatch then admitOne s
    else match e with
      | .a => nameAuthority .a s
      | .b => eaveTo .b .standby s

/-- A later boot: an Eave that passes is RESYNCING beside an authoritative one, and authoritative without one, with
its sessions lost (R809, R812, R813). -/
def laterBoot (e : Eave) (bad : Bool) (ee : EpochResult) (s : State) : State :=
  let bad := bad || !waferMeets e s
  match authority s with
  | some _ =>
    let s := noteEpoch 5 (epochCode ee) s
    if bad || ee = .mismatch then quarantine e s else eaveTo e .resyncing s
  | none =>
    if bad then quarantine e s
    else
      let s := eaveTo e .authoritative (dropSessions s)
      if s.power.phase ≠ .held && s.power.cause.toNat = rNoController then setCause 0 s else s

/-- The servo of an Eave that boots is not synchronised. -/
def resetServo (e : Eave) (s : State) : State :=
  let v : PtpServo := { acquired := false, offsetNs := 0, utcOffset := 0 }
  match e with
  | .a => { s with tally.servoA := v }
  | .b => { s with tally.servoB := v }

/-- EAVE_BOOT. -/
def execEaveBoot (eave : Eave) (epochEF epochEC epochEE : EpochResult) (s : State) : Host.Outcome State Fault Refusal :=
  if !s.referee.booted || !eaveRstN eave s || (Sys2Proof.Machine.eave eave s).booted then .next s
  else match bootTarget 1 (Eave.code eave) s with
    | (_, none, _) => .next s
    | (s, some _, reverted) =>
      let n := Eave.code eave
      let first := (Sys2Proof.Machine.eave eave s).powerUp && s.power.step < 7
      let s := clearCounters (fun id => id / 65536 = 0x12 * 256 && (id / 256) % 256 = 1 + n) s
      let s := noteEpoch (3 + n) (epochCode epochEC) (noteEpoch (1 + n) (epochCode epochEF) (resetServo eave s))
      let s := setEave eave (fun u => { u with booted := true, powerUp := false }) s
      let bad := decide (epochEF = .mismatch) || decide (epochEC = .mismatch)
      let s := if first then firstBoot eave bad epochEE s else laterBoot eave bad epochEE s
      let s := if s.power.slatesRunning then refreshTested s else s
      let s := if reverted then eaveReverted eave s else if eaveAdmitted eave s then eaveReady eave s else s
      .next (settleBuilding (settleAdmission (checkCartridges s)))

/-! ### Steps 9 and 10 (R210, R218-R221) -/

/-- WAFER_RST_N rises: BOOT_SRC is sampled at the edge, and at no other time (R210). -/
def raiseWaferReset (s : State) : State :=
  if s.power.latches.waferRstN = 1 then s
  else
    let s := { s with power.bootSrcSampled := s.power.latches.bootSrc }
    setLatches (fun l => { l with waferRstN := 1 }) s

/-- WAFER_RST_N is released: the wafer's counters start at 0, and full BIST takes every powered site. -/
def releaseWafer (s : State) : State :=
  let s := raiseWaferReset (clearCounters waferCounter s)
  setPhase .bist 0 { s with sites := s.sites.map Site.reset
                            power := { s.power with waferRunning := true, quiesced := false, step := 10 } }

/-- WAFER_RESET_RELEASE. -/
def execWaferResetRelease (s : State) : Host.Outcome State Fault Refusal :=
  if s.power.phase = .waferRamp && s.power.step = 9 && rimRail s then .next (byFinial releaseWafer s) else .next s

/-- What full BIST found on one powered site. -/
def siteBist (r : BistResult) (n : Nat) (s : State) : State :=
  if !slateRail n s then s
  else
    let pass := !r.sites.contains n
    let one : SlateBist := { pass, engines := (r.engines.filter fun e => e / 8 = n).map (· % 8)
                             slices := (r.slices.filter fun x => x.1 = n).map Prod.snd }
    setSite n (fun t => { t with state := if pass then .off else .failed, cause := 0 }) (bistOutcome n one s)

/-- The failures that hold every slate in reset: C0, C1, the mesh centre, and the descriptor, with which only a
recovery boot goes on (R133, R220). -/
def waferHeld (rim : List Nat) (s : State) : Bool :=
  rim.contains 76 || rim.contains 77 || rim.contains 78 ||
    ((rim.contains 79 || !s.ident.descriptorGood) && s.power.bootSrcSampled ≠ 2)

/-- The rim failures of the BOOT record: those of full BIST, and the descriptor's when it holds a reserved role, which its
integrity check reports (R78; DEDUCED, entry 109). -/
def rimFailures (r : BistResult) (s : State) : List Nat :=
  if (List.range 36).any (fun n => siteRole n s = 3) && !r.rim.contains 79 then r.rim ++ [79] else r.rim

/-- FULL_BIST_DONE. -/
def execFullBistDone (result : BistResult) (s : State) : Host.Outcome State Fault Refusal :=
  if s.power.phase ≠ .bist then .next s
  else
    let failed := result.sites.filter fun n => slateRail n s
    let reported := rimFailures result s
    let s := forEach (List.range 36) (siteBist result) s
    let s := { s with
      ports := s.ports.zipIdx.map fun q => { q.1 with faultedRim := result.rim.contains (q.2 / 4) }
      switch.brokenLinks := result.links
      power := { s.power with faultedRim := result.rim
                              boot := { s.power.boot with siteFailures := (s.power.boot.siteFailures ++ failed).eraseDups
                                                          rimFailures := reported } } }
    if waferHeld result.rim s then .next (reachHeld rWaferBist { s with power.step := 12 })
    else .next (setPhase .firmware 0 { s with power.step := 11 })

/-! ### Step 11 (R211-R216, R222, R240) -/

/-- The wafer is held in reset with a cause. -/
def holdWafer (cause : Nat) (s : State) : State :=
  reachHeld cause (byFinial (setLatches fun l => { l with waferRstN := 0, slateRstN := 0 }) (clearWafer s))

/-- PUSH_TIMEOUT: boot.push_timeout_s from the release with no verified image. -/
def execPushTimeout (s : State) : Host.Outcome State Fault Refusal :=
  if s.power.bootSrcSampled = 1 && (s.power.phase = .bist || s.power.phase = .firmware) && s.power.step < 12 then
    .next (holdWafer rPushTimeout s)
  else .next s

/-- The recovery image runs, or its verification fails (R211, R216). -/
def recover (r : LoadResult) (s : State) : State :=
  if !r.recoveryVerified then holdWafer rNoImage s
  else
    let s := { s with firmware.running := s.firmware.running.filter fun x => x.kind ≠ 0 }
    let s := (bootTarget 6 0 s).1
    finishRestart (setPhase .recovery 0 { s with power.step := 12 })

/-- Finial resets the wafer, writes BOOT_SRC = 0b10 and releases WAFER_RST_N again with an action of the release. -/
def bootRecovery (release : State → State) (s : State) : State :=
  byFinial release (byFinial (setLatches fun l => { l with bootSrc := 2, waferRstN := 0, slateRstN := 0 }) (clearWafer s))

/-- R214: no slot of the wafer boot flash is bootable. Full BIST runs again from the release. -/
def fallBack (s : State) : State :=
  bootRecovery releaseWafer { s with power.boot.recoveryFallback := true }

/-- The sites that run: they serve what the map in force gives them, or are free. -/
def startSite (n : Nat) (s : State) : State :=
  if !slateRail n s || !(site n s).bistPassed then s
  else
    let s := slateRelease n s
    if (portsOf n s).isEmpty && (loftsOf n s).isEmpty then setSite n (fun t => { t with state := .idle, cause := 0 }) s
    else freshStore n (setSite n (fun t => { t with state := .serving, cause := 0 }) s)

/-- A site that does not run gives up what the map in force lets it serve, and counts among the BIST failures of the
BOOT record (R219, R100, R101, R1077). -/
def rehomeAtBoot (n : Nat) (s : State) : State :=
  let ps := portsOf n s
  let ls := loftsOf n s
  if isServing n s || (ps.isEmpty && ls.isEmpty) then s
  else
    let (tg, pm, lm) := plan n ps ls s
    applyMap { site := n, target := tg, ports := pm, lofts := lm, drain := false, startTally := 0, cause := 0 }
      (noteSiteFailure n s)

/-- In-band windows are unanchored at every start of the wafer firmware (R1073). -/
def unanchorInBand (s : State) : State :=
  { s with batten.windows := s.batten.windows.filter fun w => !isInBand w.1 }

/-- A wafer activation that ends with this boot (R965). -/
def bootEndsActivation (reverted : Bool) (s : State) : State :=
  match s.firmware.activation with
  | some a =>
    if a.kind ≠ 0 then s
    else if reverted || a.reverting then
      settleActivations (finishActivation stFaulted rUnit a.failedSite [] (refreshTested s))
    else settleActivations (activated a s)
  | none => s

/-- The slates are released from reset and run wafer firmware. The tray becomes active: the bucket of the ramp governor is
full at every such start, after a RESTART or a return of zone W as well (R124; DESIGN CHOICE, entry 112). -/
def startSlates (reverted : Bool) (s : State) : State :=
  let s := forEach (List.range 36) rehomeAtBoot (byFinial (forEach (List.range 36) startSite) s)
  let s := unanchorInBand { s with
    power := { s.power with slatesRunning := true, step := 12 }
    reduction.tokens := param pRampBurst s * 1000000000000 }
  bootEndsActivation reverted (refreshHolds s)

/-- The release-manifest check: strict in Ledger mode, lenient in Open mode. -/
def checkManifest (reverted : Bool) (s : State) : State :=
  let s := refreshTested s
  let s := noteEpoch 7 (bit s.firmware.untested) { s with firmware.lastBooted := s.firmware.running }
  if s.firmware.untested && isLedger s then reachHeld rUntested { s with power.step := 12 } else startSlates reverted s

/-- The W-E check of the authoritative Eave. -/
def checkWafer (reverted : Bool) (s : State) : State :=
  match authority s with
  | none => checkManifest reverted (noteEpoch 6 2 s)
  | some e =>
    if waferMeets e s then checkManifest reverted (checkCartridges (noteEpoch 6 0 s))
    else
      let s := noteEpoch 6 1 s
      if (eave (peer e) s).state = .standby && waferMeets (peer e) s then
        checkManifest reverted (checkCartridges (quarantine e (nameAuthority (peer e) s)))
      else holdWafer rEpoch s

/-- R240: the E-E choice is made again when the loaded identity is not the one used at step 5, and the authoritative Eave
changes if that choice differs from the one of step 5. An Eave that is not up is neither named nor quarantined. -/
def rechoose (s : State) : Option State :=
  let now := waferImages s.firmware.running
  if s.power.boot.epochs.getD 5 2 ≠ 1 || now.map Running.sha = (waferImages s.firmware.lastBooted).map Running.sha then some s
  else match chooseEave now s with
    | none => none
    | some k =>
      if s.referee.chosen = some k then some s
      else
        let s := { s with referee.chosen := some k }
        let s := if (eave k s).booted then nameAuthority k s else s
        some (if (eave (peer k) s).booted then quarantine (peer k) s else s)

/-- The checks of a wafer image that has loaded, in the order of R222. On an unlisted stepping the recovery image runs from
the new release (Table 4.5). -/
def loaded (r : LoadResult) (reverted : Bool) (s : State) : State :=
  if !r.steppingListed then
    recover r (bootRecovery (fun t => raiseWaferReset { t with power.waferRunning := true }) (noteEpoch 0 1 s))
  else
    let s := noteEpoch 0 0 s
    match rechoose s with
    | some s => checkWafer reverted s
    | none => holdWafer rEpoch (quarantine .b (quarantine .a s))

/-- The image that the authoritative Eave pushed, or that factory test brings. -/
def pushed (r : LoadResult) : Running :=
  { kind := 0, slot := 0, target := 0, version := r.version, sha := r.wafer, epochs := r.epochs, generations := r.generations }

/-- FIRMWARE_LOAD_DONE. The factory test source, which Open mode permits (R57, Table 4.4), boots the image that the
command reports, with the checks of R222 (DESIGN CHOICE, entry 113). -/
def execFirmwareLoadDone (result : LoadResult) (s : State) : Host.Outcome State Fault Refusal :=
  if s.power.phase ≠ .firmware || s.power.step ≠ 11 then .next s
  else
    let s := { s with firmware.running := s.firmware.running.filter fun x => x.kind ≠ 6 }
    match s.power.bootSrcSampled.toNat with
    | 0 =>
      match bootTarget 0 0 s with
      | (_, none, _) => .next (fallBack s)
      | (t, some _, reverted) => if !result.bootable then .next (fallBack s) else .next (loaded result reverted t)
    | 1 => if result.pushVerified then .next (loaded result false (runImage (pushed result) s)) else .next s
    | 2 => .next (recover result s)
    | _ => .next (loaded result false (runImage (pushed result) s))

/-! ### Step 12 (R217, R225, R703-R704) -/

/-- Whether the Thatch banks may be mounted: at step 12, by the slates, or by the authoritative Eave while every slate is
in reset (R217). -/
def mountDue (s : State) : Bool :=
  s.power.waferRunning && !s.freezeUnit.frozen && !s.power.banksMounted && s.power.step = 12 &&
    (s.power.slatesRunning || (authority s).isSome)

/-- A sum of bits 2^n over the numbers in a list. -/
def bitsOf (n : Nat) (xs : List Nat) : Nat := ((List.range n).filter xs.contains).foldl (fun m i => m + 2 ^ i) 0

/-- The controllers byte of the BOOT record. -/
def controllerBits (s : State) : Nat :=
  bit (eaveAdmitted .a s) + 2 * bit (eaveAdmitted .b s) + 4 * bit (s.referee.a.state = .quarantined) +
    8 * bit (s.referee.b.state = .quarantined) + 16 * bit (authority s = some .b)

/-- The BOOT record (R225, Table 12.3). -/
def bootBody (s : State) : RecordBody :=
  let b := s.power.boot
  .boot s.power.bootSrcSampled.toNat
    (bit b.recoveryFallback + 2 * bit b.heldLost + 4 * bit b.tornDiscarded + 8 * bit b.chainResumed)
    (controllerBits s) s.power.phase.code s.coping.masks.toNat s.power.cause.toNat (bitsOf 36 b.siteFailures)
    (bitsOf 80 b.rimFailures) b.epochs (bitsOf 20 s.power.refusedCartridges) s.power.aonCycles (planDigest s)
    (sha256 (roleMapBytes s.batten.roleMap))

def isFreezeNote (n : RecordBody × Nat × Nat) : Bool :=
  match n.1 with
  | .freeze .. => true
  | _ => false

/-- A Thatch block or cartridge of a bank that has failed (R76, R221). -/
def thatchFaulted (n : Nat) (s : State) : Bool :=
  [2 * n, 2 * n + 1].any fun i => s.power.faultedRim.contains (72 + i) || cartGone (64 + i) s

/-- The first records of a boot: those of a freeze, the firmware set, the BOOT record, a resumed chain, and what
waited meanwhile. -/
def bootRecords (replaced : Bool) (s : State) : State :=
  let builder := waferBuilder s
  let notes := s.journal.frozenNotes
  let first := notes.takeWhile isFreezeNote
  let s := flushNotes { s with journal.frozenNotes := first }
  let s := journalWith (bootBody s) builder 0 (journalFwset 0 builder s)
  let s := if replaced then journalEvent 13 s.journal.head.segment s else s
  flushNotes { s with journal.frozenNotes := notes.dropWhile isFreezeNote }

/-- The banks are mounted, with a control block to reach them. -/
def mountAll (r : MountResult) (s : State) : State :=
  let rim := s.power.boot.rimFailures
  if rim.contains 76 && rim.contains 77 then s
  else
    let r := { r with aFaulted := r.aFaulted || thatchFaulted 0 s, bFaulted := r.bFaulted || thatchFaulted 1 s }
    let s := mountBanks r { s with power := { s.power with
      banksMounted := true
      boot := { s.power.boot with heldLost := s.power.boot.heldLost || r.heldLost, tornDiscarded := r.tornDiscarded
                                  chainResumed := r.replaced } } }
    let s := settleJournal (bootRecords r.replaced s)
    { s with power.boot := { epochs := s.power.boot.epochs, rimFailures := s.power.boot.rimFailures } }

/-- THATCH_MOUNT: the banks are mounted, the boot record is journalled, and tally acquisition begins. -/
def execThatchMount (result : MountResult) (s : State) : Host.Outcome State Fault Refusal :=
  if !mountDue s then .next s
  else
    let s := startAcquiring (mountAll result s)
    if s.power.slatesRunning then .next (setPhase .links 0 { s with power.step := 13 }) else .next s

/-! ### LATCH_WRITE (R209, R212, R369, R778, R812, R834) -/

/-- An ADMIN holds or releases an Eave. A held authoritative Eave hands over to its standby (R807). -/
def latchEave (e : Eave) (on : Bool) (s : State) : State :=
  if on then releaseEave e s
  else
    let hands := (eave e s).state = .authoritative && (eave (peer e) s).state = .standby
    settleAdmission (holdEave e (if hands then nameAuthority (peer e) s else s))

/-- The Thatch cartridge rail goes off: both banks stop. -/
def thatchOff (s : State) : State := cartRailOff 1 (onAccepting (fun n t => bankOffline n t) s)

/-- A cartridge rail bit changes. -/
def latchCart (b : Nat) (on : Bool) (s : State) : State :=
  if on then cartRailOn b (if b = 2 then { s with power.loftHeld := false } else s)
  else match b with
    | 0 => cableOff s
    | 1 => thatchOff s
    | 2 => loftOff s
    | _ => opticalOff s

/-- A slate's reset is asserted: its slate is isolated. -/
def latchReset (n : Nat) (on : Bool) (s : State) : State :=
  if on then slateRelease n s else isolate n rRailOff .isolated s

/-- WAFER_RST_N is asserted: what a restart ends is ended, and Table 4.1 runs from step 9 at its release. -/
def latchWafer (on : Bool) (s : State) : State :=
  if on then
    if rimRail s && 9 ≤ s.power.step && !s.power.waferRunning then releaseWafer s else raiseWaferReset s
  else if s.power.waferRunning then
    let was := s.power.restarting
    let s := restartWafer (endFreeze none s)
    { s with power.restarting := was }
  else setLatches (fun l => { l with waferRstN := 0 }) s

/-- The latches with one group at a value. -/
def withGroup (g v : Nat) (l : Latches) : Latches :=
  match g with
  | 0 => { l with eaveRstN := BitVec.ofNat 2 v }
  | 1 => { l with cartRailEn := BitVec.ofNat 4 v }
  | 2 => { l with rimRailEn := BitVec.ofNat 1 v }
  | 3 => { l with slateRailEn := BitVec.ofNat 36 v }
  | 4 => { l with slateRstN := BitVec.ofNat 36 v }
  | 5 => { l with waferRstN := BitVec.ofNat 1 v }
  | _ => { l with bootSrc := BitVec.ofNat 2 v }

/-- Acts on each bit of a group that a write changes. -/
def latchBit (g i : Nat) (on : Bool) (s : State) : State :=
  match g with
  | 0 => latchEave (if i = 0 then .a else .b) on s
  | 1 => latchCart i on s
  | 2 => if on then setLatches (fun l => { l with rimRailEn := 1 }) s else rimOff s
  | 3 => if on then slateRailOn i s else isolate i rRailOff .isolated s
  | 4 => latchReset i on s
  | 5 => latchWafer on s
  | _ => s

/-- Only the bits of the mask change in the latches, whatever follows from them (R369). -/
def latchWriteRun (p : Packet) (s : State) : State × Ans :=
  let g := field p.body 0 1
  let latches := s.power.latches
  let old := latchValue g latches
  let mask := field p.body 8 8
  let new := (old &&& (2 ^ 64 - 1 - mask)) ||| (field p.body 16 8 &&& mask)
  if g = 6 && new = 3 && isLedger s then (s, refuse stPrecond rMode 0)
  else if g = 0 && new = 0 then (s, refuse stPrecond rBothEaves 0)
  else
    let changed := (List.range 36).filter fun i => old.testBit i != new.testBit i
    let s := forEach changed (fun i t => latchBit g i (new.testBit i) t) s
    let s := setLatches (fun _ => withGroup g new latches) s
    (settleFlow s, ok (le 8 (latchValue g s.power.latches)))

end Sys2Proof.Machine
end

