-- ==== Sys2Proof/Machine/Patrol.lean ====
section
/-! DEFINITION. Patrol self-test (18): the cycle and its slices, from notice to verdict, with PATROL_STATUS; the audit and
the faults of a slate; and the boundary-scan TAPs with their instructions. -/

namespace Sys2Proof.Machine

/-! ### The cycle (R990-R993) -/

/-- Whether a site's slices are listed (R991). -/
def patrolled (n : Nat) (s : State) : Bool :=
  slateRail n s && match (site n s).state with
    | .serving | .idle | .lending | .draining => true
    | _ => false

/-- The two sites of a mesh link. -/
def linkEnds (l : Nat) : Nat × Nat :=
  if l < 30 then (6 * (l / 5) + l % 5, 6 * (l / 5) + l % 5 + 1) else (l - 30, l - 24)

/-- Slice j of the cycle's list. -/
def sliceAt (j : Nat) (s : State) : Option Slice :=
  let k := 569 * s.patrol.sites.length
  if j < k then (s.patrol.sites[j / 569]?).map fun n => .unit n (j % 569)
  else (s.patrol.links[j - k]?).map Slice.link

/-- The sites of a slice. -/
def sliceSites : Slice → List Nat
  | .unit n _ => [n]
  | .link l => [(linkEnds l).1, (linkEnds l).2]

/-- PATROL_CYCLE_START: the first cycle begins at the tally of READY, each later one a cycle's length after the one
before; what was not started is dropped (R1022). -/
def execPatrolCycleStart (s : State) : Host.Outcome State Fault Refusal :=
  let first := s.patrol.period = 0
  if !waferLive s || !s.patrol.started then .next s
  else
    let start := if first then s.patrol.cycleStart else s.patrol.cycleStart + s.patrol.period
    let s := advanceTo start s
    let sites := (List.range 36).filter fun n => patrolled n s
    let links := (List.range 60).filter fun l => sites.contains (linkEnds l).1 && sites.contains (linkEnds l).2
    let n := 569 * sites.length + links.length
    let period := param pPatrolCycle s * 1125000000000
    .next (count (cPatrol 4) { s with patrol := { s.patrol with
      cycleStart := start, sites, links, count := n, next := 0, done := 0, period := period, interval := period / max 1 n
      noticeMs := param pPatrolNotice s } })

/-! ### A slice (Table 18.2) -/

/-- A slice comes off its notice. -/
def withdraw (x : Slice) (s : State) : State :=
  match x with
  | .unit n k => { s with reduction.underNotice := s.reduction.underNotice.filter (· != (n, k)) }
  | .link _ => s

/-- The slice in progress ends. -/
def endSlice (x : Slice) (s : State) : State := withdraw x { s with patrol.current := none }

/-- A slice whose sites have all stayed in the states of R991. -/
def listed (x : Slice) (s : State) : Bool := (sliceSites x).all fun n => patrolled n s

/-- Slices are skipped on a site that a roll drains or loads, and on the sites of a re-homing (R1007). -/
def busySite (n : Nat) (s : State) : Bool :=
  (site n s).state = .draining || (site n s).bistRunning || (reservedSites s).contains n ||
    s.switch.rehomings.any fun r => r.site = n

/-- Whether every pair of listed sites would keep a path with a link under test (R1025). -/
def keepsPaths (l : Nat) (s : State) : Bool :=
  let s := { s with patrol.current := some (.link l, .testing) }
  let at_ := (List.range 36).filter fun n => patrolled n s
  at_.all fun b =>
    let d := hopsTo b s 36
    at_.all fun a => (d.getD a none).isSome

/-- Whether a slice that falls due is skipped at once. -/
def skipped (x : Slice) (s : State) : Bool :=
  (sliceSites x).any (busySite · s) || match x with
    | .link l => !keepsPaths l s
    | _ => false

/-- PATROL_SLICE_DUE: step 1. While patrol.enable is 0 a slice that falls due does not start (R997). -/
def execPatrolSliceDue (s : State) : Host.Outcome State Fault Refusal :=
  let r := s.patrol
  match sliceAt r.next s with
  | none => .next s
  | some x =>
    if !waferLive s || r.current.isSome || r.count ≤ r.next then .next s
    else
      let s := advanceTo (r.cycleStart + r.next * r.interval) { s with patrol.next := r.next + 1 }
      if param pPatrolEnable s = 0 || !listed x s then .next s
      else if skipped x s then .next (count (cPatrol 2) s)
      else
        let s := match x with
          | .unit n k => if k < 512 then { s with reduction.underNotice := s.reduction.underNotice ++ [(n, k)] } else s
          | .link _ => s
        .next { s with patrol.current := some (x, .notice), patrol.noticeAt := tallyNat s + r.noticeMs * tkPerMs }

/-- PATROL_NOTICE_END: step 2. -/
def execPatrolNoticeEnd (s : State) : Host.Outcome State Fault Refusal :=
  match s.patrol.current with
  | some (x, .notice) =>
    if !waferLive s then .next s
    else if !listed x s then .next (endSlice x s)
    else .next (advanceTo s.patrol.noticeAt { s with patrol.current := some (x, .drainWait) })
  | _ => .next s

/-- The role that a VOQ RAM of a site holds; the spare holds none. -/
def ramRole (n h : Nat) (s : State) : Option Nat := (site n s).rams.findIdx? (· = h)

/-- The drain condition of Table 18.1 as far as the state shows it; which bank holds a shingle, and what is in
flight on a link, only the wafer knows. -/
def sliceDrained (x : Slice) (s : State) : Option Bool :=
  match x with
  | .unit n k =>
    if k < 512 then some (slotsUsed n k s = 0)
    else if k < 552 then none
    else match ramRole n (k - 552) s with
      | some r => some (!s.switch.queue.any fun f => f.site = n && f.output % 16 = r)
      | none => some true
  | .link _ => none

/-- The spare RAM takes the role of the RAM under test (R987). -/
def swapRam (n h : Nat) (s : State) : State :=
  if (site n s).spareLost then s
  else setSite n (fun t => { t with rams := t.rams.map (fun r => if r = h then t.spareRam else r), spareRam := h }) s

/-- PATROL_SLICE_ISOLATE: step 3. -/
def execPatrolSliceIsolate (s : State) : Host.Outcome State Fault Refusal :=
  match s.patrol.current with
  | some (x, .drainWait) =>
    if !waferLive s || sliceDrained x s = some false then .next s
    else if !listed x s then .next (endSlice x s)
    else
      let s := { s with patrol.current := some (x, .testing) }
      match x with
      | .unit n k => .next (if 552 ≤ k then swapRam n (k - 552) s else s)
      | .link _ => .next s
  | _ => .next s

/-- PATROL_DRAIN_TIMEOUT: the slice is skipped for the cycle (R995). -/
def execPatrolDrainTimeout (s : State) : Host.Outcome State Fault Refusal :=
  match s.patrol.current with
  | some (x, .drainWait) =>
    if !waferLive s || sliceDrained x s = some true then .next s
    else if !listed x s then .next (endSlice x s)
    else .next (count (cPatrol 2) (endSlice x s))
  | _ => .next s

/-- Isolated banks of a site. -/
def lostBanks (n : Nat) (s : State) : Nat := ((site n s).failedSlices.filter fun k => 512 ≤ k && k < 552).length

/-- A failed slice stays isolated; a second bank of a site, or a VOQ RAM of a site without a spare, is essential
(Table 18.1, R1000, R1024). -/
def failSlice (x : Slice) (s : State) : State :=
  match x with
  | .link l => { s with switch.brokenLinks := s.switch.brokenLinks ++ [l] }
  | .unit n k =>
    let essential := if k < 512 then false else if k < 552 then decide (1 ≤ lostBanks n s) else (site n s).spareLost
    let s := setSite n (fun t => { t with
      failedSlices := t.failedSlices ++ [k], spareLost := t.spareLost || decide (552 ≤ k) }) s
    if essential then isolate n rPatrolFail .isolated s else s

/-- PATROL_TEST_DONE: steps 4 and 5. A slice of a site that has left service ends without a verdict (R1023). -/
def execPatrolTestDone (pass : Bool) (s : State) : Host.Outcome State Fault Refusal :=
  match s.patrol.current with
  | some (x, .testing) =>
    if !waferLive s then .next s
    else if !listed x s then .next (endSlice x s)
    else
      let s := count (cPatrol 1) (endSlice x s)
      let s := { s with patrol.done := s.patrol.done + 1 }
      .next (if pass then s else failSlice x (count (cPatrol 3) s))
  | _ => .next s

/-- The slices isolated anywhere on the wafer. -/
def isolatedSlices (s : State) : Nat :=
  ((List.range 36).map fun n => (site n s).failedSlices.length).sum + s.switch.brokenLinks.length

def patrolStatusRun (_p : Packet) (s : State) : State × Ans :=
  (s, ok (le 8 s.patrol.cycleStart ++ le 4 s.patrol.done ++ le 4 s.patrol.count ++ le 4 (isolatedSlices s) ++ zs 4))

/-! ### Audit and faults of a slate (R497-R502, R584, R836) -/

/-- Banks of a site that are out of service: isolated, or under test (R988). -/
def banksOut (n : Nat) (s : State) : Nat :=
  lostBanks n s + match s.patrol.current with
    | some (.unit m k, .testing) => bit (m = n && decide (512 ≤ k && k < 552))
    | _ => 0

/-- Shingles of 256 bytes in a bank of 32 MiB (Table 18.1, R467). -/
def bankShingles : Nat := 131072

/-- The share total of the audit: the shingles of the banks out of service are removed (R989), and as many of the 64 MiB
that every site keeps outside its share stand in for them (R988). -/
def auditTotal (n : Nat) (s : State) : Nat :=
  shareTotal s + bankShingles * min (banksOut n s) 2 - bankShingles * banksOut n s

/-- Whether a slate's state counters disagree with its share (R497). -/
def auditMismatch (n : Nat) (s : State) : Bool :=
  let t := site n s
  t.free + t.queued + t.engineHeld + t.inFlight ≠ auditTotal n s

/-- AUDIT_TICK: the procedure of R502. -/
def execAuditTick (site_ : Nat) (walk : WalkResult) (s : State) : Host.Outcome State Fault Refusal :=
  let t := site site_ s
  if !waferLive s || !forwards site_ s || (!auditMismatch site_ s && !t.walkPending) then .next s
  else
    let s := errorClass 2 s
    match walk with
    | .doubleReference => .next (isolate site_ rAudit .isolated s)
    | .candidates cand =>
      let again := t.walkPending && decide (cand = t.prevCandidates)
      let s := if again then
          countBy (cSlate site_ 9) cand.length
            (setSite site_ (fun t => { t with free := t.free + cand.length, walkPending := false, prevCandidates := [] }) s)
        else setSite site_ (fun t => { t with prevCandidates := cand, walkPending := !cand.isEmpty }) s
      .next (count (cSlate site_ 8) s)

/-- FUSE_TRIP: the rail is off and the slate isolated; before the banks are mounted it counts as having failed BIST
(R232, R836-R839, R850, R1076). -/
def execFuseTrip (site_ : Nat) (s : State) : Host.Outcome State Fault Refusal :=
  if !slateRail site_ s then .next s
  else
    let now := s.now
    let s := setSite site_ (fun t => { t with fuseTrips := t.fuseTrips ++ [now], bistPassed := false }) s
    .next (isolate site_ rFuseTrip (if s.power.banksMounted then .isolated else .failed) (count (cFinial 6) s))

/-- GABLE_CORE_FAULT: an essential failure isolates the slate (R584). -/
def execGableCoreFault (site_ : Nat) (s : State) : Host.Outcome State Fault Refusal :=
  if waferLive s && forwards site_ s then .next (isolate site_ rCoreFault .isolated s) else .next s

/-! ### The TAPs (Tables 18.3-18.6) -/

def tapUnit (t : Tap) (s : State) : TapUnit :=
  match t with
  | .coping => s.patrol.coping
  | .eaveA => s.patrol.eaveA
  | .eaveB => s.patrol.eaveB
  | .wafer => s.patrol.wafer

def setTap (t : Tap) (u : TapUnit) (s : State) : State :=
  match t with
  | .coping => { s with patrol.coping := u }
  | .eaveA => { s with patrol.eaveA := u }
  | .eaveB => { s with patrol.eaveB := u }
  | .wafer => { s with patrol.wafer := u }

/-- The IDCODE of a TAP (Table 18.3). -/
def tapIdcode (t : Tap) (s : State) : Nat :=
  match t with
  | .coping => 0x10C01A6F
  | .eaveA | .eaveB => 0x20E01A6F
  | .wafer => s.ident.stepping.toNat % 16 * 2 ^ 28 + 0x00B36A6F

/-- A TAP whose rail is off is bridged (R1011); during a snapshot no instruction is accepted (R1013). -/
def tapPresent (t : Tap) (s : State) : Bool :=
  match t with
  | .coping => s.power.aonUp
  | .eaveA | .eaveB => s.power.aonUp && s.referee.booted
  | .wafer => s.power.aonUp && rimRail s

def tapAccepts (t : Tap) (s : State) : Bool := tapPresent t s && s.freezeUnit.reading.isNone

/-- Permission for a destructive instruction (Table 18.6). -/
def tapPermits (t : Tap) (s : State) : Bool :=
  let outOfUse (e : Eave) : Bool := (eave e s).state = .failed || (eave e s).state = .quarantined
  match t with
  | .coping => param pService s = 1 && !zoneWOn s
  | .eaveA => outOfUse .a
  | .eaveB => outOfUse .b
  | .wafer => s.freezeUnit.frozen || s.power.phase = .held || s.power.phase = .recovery

/-- An instruction is loaded, and its data register captures a value. -/
def loadTap (t : Tap) (ir : Byte) (dr : Nat) (s : State) : State := setTap t { ir := ir, refused := false, dr := dr } s

/-- BYPASS, or a code that acts as it. -/
def bypassTap (t : Tap) (s : State) : State := loadTap t 0xFF 0 s

/-- A destructive instruction: refused (R1017), or executed; on the wafer of a frozen tray it is a destructive read
(R1018). -/
def destructive (t : Tap) (f : State → State) (s : State) : State :=
  if !tapPermits t s then setTap t { ir := 0xFF, refused := true, dr := 0 } (count (cPatrol 0x10) s)
  else if t = .wafer && s.freezeUnit.frozen then f { s with freezeUnit.destructive := true }
  else f s

/-- A register whose content is a free value. -/
def captureFree (t : Tap) (ir : Byte) (s : State) : State :=
  bumpFree (loadTap t ir (Config.scanData s.freeCount) s)

/-- The instructions of IEEE 1149.6 are the Eaves' and the wafer's. -/
def hasPulse (t : Tap) : Bool := t ≠ .coping

/-- EXTEST. -/
def execExtest (tap : Tap) (s : State) : Host.Outcome State Fault Refusal :=
  if tapAccepts tap s then .next (destructive tap (captureFree tap 0x00) s) else .next s

/-- SAMPLE/PRELOAD. -/
def execSamplePreload (tap : Tap) (s : State) : Host.Outcome State Fault Refusal :=
  if tapAccepts tap s then .next (captureFree tap 0x01 s) else .next s

/-- IDCODE. -/
def execIdcode (tap : Tap) (s : State) : Host.Outcome State Fault Refusal :=
  if tapAccepts tap s then .next (loadTap tap 0x02 (tapIdcode tap s) s) else .next s

/-- CLAMP: the bypass register. -/
def execClamp (tap : Tap) (s : State) : Host.Outcome State Fault Refusal :=
  if tapAccepts tap s then .next (destructive tap (loadTap tap 0x03 0) s) else .next s

/-- HIGHZ: the bypass register. -/
def execHighz (tap : Tap) (s : State) : Host.Outcome State Fault Refusal :=
  if tapAccepts tap s then .next (destructive tap (loadTap tap 0x04 0) s) else .next s

/-- EXTEST_PULSE. -/
def execExtestPulse (tap : Tap) (s : State) : Host.Outcome State Fault Refusal :=
  if !tapAccepts tap s then .next s
  else if hasPulse tap then .next (destructive tap (captureFree tap 0x08) s) else .next (bypassTap tap s)

/-- EXTEST_TRAIN. -/
def execExtestTrain (tap : Tap) (s : State) : Host.Outcome State Fault Refusal :=
  if !tapAccepts tap s then .next s
  else if hasPulse tap then .next (destructive tap (captureFree tap 0x09) s) else .next (bypassTap tap s)

/-- The wafer descriptor's register: roles, stepping and CRC-32C (Table 18.5). -/
def descriptorBits (s : State) : Nat :=
  let roles := ((List.range 36).map fun n => siteRole n s % 4 * 4 ^ n).sum
  let low := roles + s.ident.stepping.toNat * 2 ^ 72
  low + (crc32c (le 12 low)).toNat * 2 ^ 96

/-- DESCRIPTOR_READ. -/
def execDescriptorRead (tap : Tap) (s : State) : Host.Outcome State Fault Refusal :=
  if !tapAccepts tap s then .next s
  else if tap = .wafer then .next (loadTap tap 0x20 (descriptorBits s) s) else .next (bypassTap tap s)

/-- SLATE_SEL: a value above 35 selects no site. -/
def execSlateSel (tap : Tap) (value : Byte) (s : State) : Host.Outcome State Fault Refusal :=
  if !tapAccepts tap s then .next s
  else if tap = .wafer then
    .next (loadTap tap 0x21 value.toNat { s with
      patrol.selected := if value.toNat < 36 then some value.toNat else none })
  else .next (bypassTap tap s)

/-- SCAN_DUMP of the selected site. -/
def execScanDump (tap : Tap) (s : State) : Host.Outcome State Fault Refusal :=
  if !tapAccepts tap s then .next s
  else if tap = .wafer && s.patrol.selected.isSome then .next (destructive tap (captureFree tap 0x22) s)
  else .next (bypassTap tap s)

/-- Leaves the MBIST run of another site that is still running. -/
def leaveMbist (s : State) : State :=
  match s.patrol.mbistSite with
  | some m => if s.patrol.mbistDone || s.patrol.mbistWait then s else setSite m (fun t => { t with bistRunning := false }) s
  | none => s

/-- Slate BIST of a site is asked for: it starts, or waits for a restore of the site (R1027). -/
def askMbist (n : Nat) (s : State) : State :=
  let s := leaveMbist s
  startMbist (loadTap .wafer 0x23 0 { s with patrol := { s.patrol with
    mbistSite := some n, mbistWait := true, mbistDone := false } })

/-- MBIST_RUN. A run of the same site in progress goes on. -/
def execMbistRun (tap : Tap) (s : State) : Host.Outcome State Fault Refusal :=
  if !tapAccepts tap s then .next s
  else match (if tap = .wafer then s.patrol.selected else none) with
    | none => .next (bypassTap tap s)
    | some n =>
      let runs := s.patrol.mbistSite = some n && !s.patrol.mbistDone
      .next (destructive tap (if runs then loadTap tap 0x23 0 else askMbist n) s)

/-- TALLY_READ: the tally; a frozen tray reads F. -/
def execTallyRead (tap : Tap) (s : State) : Host.Outcome State Fault Refusal :=
  if !tapAccepts tap s then .next s
  else if tap = .wafer then .next (loadTap tap 0x24 (tallyNat s) s) else .next (bypassTap tap s)

/-- BYPASS. -/
def execBypass (tap : Tap) (s : State) : Host.Outcome State Fault Refusal :=
  if tapAccepts tap s then .next (bypassTap tap s) else .next s

/-- TAP_RESET: every TAP holds IDCODE (R1012). -/
def execTapReset (s : State) : Host.Outcome State Fault Refusal :=
  let reset (t : Tap) (u : State) : State := if tapPresent t u then loadTap t 0x02 (tapIdcode t u) u else u
  .next (reset .wafer (reset .eaveB (reset .eaveA (reset .coping s))))

end Sys2Proof.Machine
end

