-- ==== Sys2Proof/Machine/Flags.lean ====
section
/-! DEFINITION. What the tray's outputs show of its state: ALERT_N, the sideband registers of Table 19.13, and the
reset and strap pins of Table 4.3. -/

namespace Sys2Proof.Machine

/-! ### Status bits (Table 19.13, STATUS) -/

def votePending (s : State) : Bool := s.referee.vote.isSome

/-- The oldest unheard event (R1046). -/
def oldestEvent (s : State) : Option Event := s.referee.events.find? fun e => !e.heard

def eventPending (s : State) : Bool := (oldestEvent s).isSome

/-- The tally is ACQUIRING, or the expected marker value is unknown. -/
def announceNeeded (s : State) : Bool :=
  s.tally.state = .acquiring || (s.tally.expected.isNone && s.tally.announced.isNone)

/-! ### ALERT_N (R195, R720, R810, R845, R880, R911, R1003, R1034, R1039, R1048) -/

/-- The phase asserts it: HELD, RECOVERY, or COOLANT_GATE for longer than coolant.gate_alert_s. -/
def phaseAlert (s : State) : Bool :=
  match s.power.phase with
  | .held | .recovery => true
  | .coolantGate => s.power.gateAlert
  | _ => false

/-- No controller: the restart limit is exhausted, or both Eaves fell silent together. -/
def controllerAlert (s : State) : Bool := s.power.cause.toNat = rNoController || s.referee.noController

/-- An unmasked channel in ALARM or WET, or a compliance fault. -/
def copingAlert (s : State) : Bool :=
  ((List.range 16).any fun ch => inAlarm ch s) || s.coping.aout.any fun c => c.fault.isSome

/-- An essential patrol failure. -/
def patrolAlert (s : State) : Bool :=
  s.sites.any fun t => t.state = .isolated && t.cause.toNat = rPatrolFail

/-- ALERT_N is asserted. -/
def alertN (s : State) : Bool :=
  s.power.aonUp && (phaseAlert s || controllerAlert s || s.journal.fillWarned || copingAlert s || patrolAlert s ||
    s.power.busLow || s.power.shelfFault || votePending s || eventPending s)

/-- The STATUS register. -/
def statusWord (s : State) : Nat :=
  bit (votePending s) + 2 * bit (eventPending s) + 4 * bit (alertN s) + 8 * bit (announceNeeded s)

/-! ### The sideband registers (Table 19.13) -/

/-- VOTE_REQ. -/
def voteRequest (s : State) : List Byte :=
  match s.referee.vote with
  | none => zs 80
  | some v => le 4 v.id ++ le 4 v.report.originator.toNat ++ le 8 v.report.sequence.toNat ++
      digestBytes v.report.digestA ++ digestBytes v.report.digestB

/-- The entry that INV_SEL names; zero beyond the list. -/
def inventoryShown (s : State) : List Byte :=
  match (inventoryUnits s)[s.referee.invSel.toNat]? with
  | some x => inventoryEntry x s
  | none => zs 64

/-- EVENT_KIND and EVENT_CH. -/
def eventBytes (s : State) : List Byte :=
  match oldestEvent s with
  | some e => le 1 e.kind ++ le 1 e.channel
  | none => [0, 0xFF]

/-- The 256 bytes that the registers hold, from address 0x00. -/
def sidebandImage (s : State) : List Byte :=
  le 4 0x36335453 ++ le 1 0x10 ++ le 1 s.power.slotId.toNat ++ le 1 s.power.phase.code ++ le 1 s.tally.state.code ++
    le 4 s.referee.rackId.toNat ++ le 4 s.referee.rowPos.toNat ++ zs 8 ++ le 4 (tallyOffset s).toNat ++
    errorField s.tally.lastError ++ le 4 (statusWord s) ++ le 4 ((oldestEvent s).map Event.number |>.getD 0) ++
    eventBytes s ++ zs 2 ++ zs 4 ++ zs 16 ++ voteRequest s ++ zs 4 ++ zs 12 ++ le 2 s.referee.invSel.toNat ++
    le 2 (inventoryUnits s).length ++ zs 12 ++ inventoryShown s ++ zs 16

end Sys2Proof.Machine
end

