-- ==== Sys2Proof/Machine/Sideband.lean ====
section
/-! DEFINITION. Writes on the rack sideband bus (19): the registers with a behaviour of their own, and the others. -/

namespace Sys2Proof.Machine

/-- A write that is ignored and counted in tray.sideband_err. -/
def sidebandError (s : State) : State := count (cTray 5) s

/-- Bits [30:16] of RACK_ID are written 0 (Table 19.13). -/
def rackReserved (v : U32) : Bool := v &&& 0x7FFF0000 != 0

/-- Of ROW_POS, only bits [2:0], 8 and 31 are not. -/
def rowReserved (v : U32) : Bool := v &&& 0x7FFFFEF8 != 0

/-- A port that waits in IDENTITY for the rack ID goes on (R113). -/
def rackKnown (p : Nat) (s : State) : State :=
  if (port p s).state ≠ .identity then s
  else
    let s := portTo p .identity 0 s
    match (port p s).received with
    | some b => planCheck p b s
    | none => s

/-- RACK_ID_WRITE: once written, it holds until the always-on rail is lost (R1044). -/
def execRackIdWrite (value : U32) (s : State) : Host.Outcome State Fault Refusal :=
  if !s.power.aonUp then .next s
  else
    let v := value ||| 0x80000000
    if rackReserved value || (rackIdValid s && s.referee.rackId ≠ v) then .next (sidebandError s)
    else if rackIdValid s then .next s
    else .next (forEach (List.range 160) rackKnown { s with referee.rackId := v })

/-- ROW_POS_WRITE: ports 128-159 take the cause that now holds them (R113, R114). -/
def execRowPosWrite (value : U32) (s : State) : Host.Outcome State Fault Refusal :=
  if !s.power.aonUp then .next s
  else
    let v := value ||| 0x80000000
    let valid := s.referee.rowPos.getLsbD 31
    if rowReserved value || (valid && s.referee.rowPos ≠ v) then .next (sidebandError s)
    else if valid then .next s
    else .next (forEach opticalPorts refreshHold { s with referee.rowPos := v })

/-- MARKER_NEXT_WRITE: ignored and counted inside either span around a marker, and while no marker is detected
(R1045). -/
def execMarkerNextWrite (value : U64) (insideSpan : Bool) (s : State) : Host.Outcome State Fault Refusal :=
  if !s.power.aonUp then .next s
  else if insideSpan || !s.tally.pllLocked || !s.tally.syncPresent then .next (sidebandError s)
  else .next { s with tally.announced := some value.toNat }

/-- EVENT_ACK_WRITE: the number shown in EVENT_NO, and no other (R1046). -/
def execEventAckWrite (number : U32) (s : State) : Host.Outcome State Fault Refusal :=
  match oldestEvent s with
  | none => .next s
  | some e =>
    if e.number ≠ number.toNat then .next s
    else .next { s with referee.events := s.referee.events.map fun x =>
      if x.number ≤ e.number then { x with heard := true } else x }

/-- INV_SEL_WRITE. -/
def execInvSelWrite (value : U16) (s : State) : Host.Outcome State Fault Refusal :=
  if s.power.aonUp then .next { s with referee.invSel := value } else .next s

/-- The registers by address and size, and whether the RMU may write them. -/
def sidebandRegisters : List (Nat × Nat × Bool) :=
  [(0x00, 4, false), (0x04, 1, false), (0x05, 1, false), (0x06, 1, false), (0x07, 1, false), (0x08, 4, true),
    (0x0C, 4, true), (0x10, 8, true), (0x18, 4, false), (0x1C, 4, false), (0x20, 4, false), (0x24, 4, false),
    (0x28, 1, false), (0x29, 1, false), (0x2A, 2, false), (0x2C, 4, true), (0x30, 16, false), (0x40, 80, false),
    (0x90, 4, true), (0x94, 12, false), (0xA0, 2, true), (0xA2, 2, false), (0xA4, 12, false), (0xB0, 64, false),
    (0xF0, 16, false)]

/-- The registers of which a write reaches some byte and that it does not write: read-only, reserved, or written
only in part. A broadcast reaches MARKER_NEXT alone (R1042). -/
def sidebandRefused (address n : Nat) (broadcast : Bool) : Nat :=
  let touched (a : Nat) : Bool := (a + 256 - address) % 256 < n
  (sidebandRegisters.filter fun r =>
    let bytes := (List.range r.2.1).map (r.1 + ·)
    bytes.any touched && !(r.2.2 && bytes.all touched) && (!broadcast || r.1 = 0x10)).length

/-- SIDEBAND_REGISTER_WRITE: ignored and counted, once for each register. A writable register that the same
transaction writes whole has a row of its own. -/
def execSidebandRegisterWrite (address : Byte) (data : List Byte) (broadcast : Bool) (s : State) :
    Host.Outcome State Fault Refusal :=
  if s.power.aonUp then .next (countBy (cTray 5) (sidebandRefused address.toNat data.length broadcast) s) else .next s

end Sys2Proof.Machine
end

