-- ==== Sys2Proof/Machine/Sessions.lean ====
section
/-! DEFINITION. Sessions and identity (05, Table 6.5): the TLS handshake, SESSION_OPEN, the identity reads,
COMPLETION_READ, the role map, and connections that end. -/

namespace Sys2Proof.Machine

/-! ### Connections and the handshake (R265-R272) -/

/-- The management connection with a number. -/
def connection (n : Nat) (s : State) : Option Connection := s.batten.connections.find? fun c => c.id = n

/-- The live session of an originator. -/
def liveSession (o : U32) (s : State) : Option Session := s.batten.sessions.find? fun x => x.originator = o

/-- What the tray offers (R266). -/
def offeredSuites : List CipherSuite := [.aes256GcmSha384, .aes128GcmSha256]
def offeredGroups : List KeyGroup := [.secp384r1, .x25519]
def offeredSchemes : List SignatureScheme := [.ecdsaSecp384r1Sha384]

/-- What the tray accepts of a client's offer (R265, R266). -/
def helloSuits (h : TlsHello) : Bool :=
  h.tls13 && !h.earlyData && !h.resumption && h.suites.any offeredSuites.contains && h.groups.any offeredGroups.contains &&
    h.schemes.any offeredSchemes.contains

/-- The chain that an Eave presents: its server certificate, whose key the tray identity key certifies, then the
identity certificate and its issuers (R267). -/
def serverChain (e : Eave) (s : State) : List (List Byte) :=
  s.ident.serverCertificates.getD (Eave.code e) [] :: s.ident.certificates

/-- A client whose certificate matches no entry of the role map is refused (R270); any other has a connection without a
session. -/
def admitClient (conn : Nat) (e : Eave) (hello : TlsHello) (s : State) : State :=
  if (matching hello.fingerprint hello.issuers s).isEmpty then emit (.refusedHandshake conn) s
  else
    let c : Connection :=
      { id := conn, eave := e, fingerprint := hello.fingerprint, issuers := hello.issuers, session := none }
    { s with batten.connections := s.batten.connections ++ [c] }

/-- TLS_HANDSHAKE: an offer that does not suit is refused; else the Eave presents its certificate and judges the
client's. An Eave that does not run answers nothing, and the number of an open connection names no new one. -/
def execTlsHandshake (conn : Nat) (eave_ : Eave) (hello : TlsHello) (s : State) : Host.Outcome State Fault Refusal :=
  if !eaveAnswers eave_ s || (connection conn s).isSome then .next s
  else if !helloSuits hello then .next (emit (.refusedHandshake conn) s)
  else .next (admitClient conn eave_ hello (emit (.serverCertificate conn (serverChain eave_ s)) s))

/-! ### Copies that reach a quarantined Eave (R223, R288) -/

/-- The quarantined Eave that terminates a packet's connection. -/
def quarantinedVia (p : Packet) (s : State) : Option Eave :=
  match p.path with
  | .management n =>
    (connection n s).bind fun k => if (eave k.eave s).state = .quarantined then some k.eave else none
  | _ => none

/-- The key of the window that judges a packet. -/
def windowKey (p : Packet) (s : State) : Nat :=
  match quarantinedVia p s with
  | some e => quarantineKey p.originator.toNat e
  | none => p.originator.toNat

/-- CONNECTION_CLOSE: the client closes a connection. -/
def execConnectionClose (conn : Nat) (s : State) : Host.Outcome State Fault Refusal :=
  match connection conn s with
  | some c => .next (dropConnection c s)
  | none => .next s

/-- SESSION_LINGER_EXPIRY: a session whose last connection closed batten.session_linger_s ago ends (R276). -/
def execSessionLingerExpiry (session : U32) (s : State) : Host.Outcome State Fault Refusal :=
  if (liveSession session s).any Session.lingering then .next (endSession session s) else .next s

/-! ### SESSION_OPEN (R256, R272-R275, R313) -/

/-- A reply that no window keeps: on every connection of the session that its connection belongs to (R280), or on the
path of its command. -/
def answerHere (p : Packet) (opcode status reason arg : Nat) (payload : List Byte) (s : State) : State :=
  let r := replyTo p opcode status reason arg payload
  match p.path with
  | .management n => (sessionPaths n s).foldl (fun t q => emit (.reply q r) t) s
  | _ => sendReply p.path r s

/-- Originator IDs of sessions: 0x0001_0000-0xFFFF_FFFE (Table 5.4). -/
def sessionIds : Nat := 0xFFFEFFFF

/-- The first ID from the proposed one on, in a cycle, that has not been used (R273). -/
def newSessionId (s : State) : Nat :=
  let c := Config.sessionId s.freeCount % sessionIds
  let ids := (List.range (s.batten.usedIds.length + 1)).map fun k => 0x10000 + (c + k) % sessionIds
  (ids.find? fun i => !s.batten.usedIds.contains i).getD (0x10000 + c)

/-- The refusal of a SESSION_OPEN by its role and its layout: status, reason and argument. -/
def openRefusal (c : Connection) (p : Packet) (s : State) : Option (Nat × Nat × Nat) :=
  let role := Role.ofCode (field p.body 0 1)
  let known := 1 ≤ p.body.length && field p.body 0 1 ≤ 3
  let live := liveSession p.originator s
  if !tray.names p.unit.toNat p.inst.toNat then some (stRange, rTarget, 0)
  else if known && !(matching c.fingerprint c.issuers s).any (fun e => Role.permits e.role role) then
    some (stDenied, rRole, 0)
  else if known && live.any (fun x => x.fingerprint != c.fingerprint || x.role != role) then some (stDenied, rRole, 0)
  else match (layoutOf s (.sessionOpen p)).refusal p.body with
    | some (r, a) => some (stRange, r, a)
    | none =>
      if p.originator != 0 && live.isNone then some (stRange, rNotFound, 0)
      else if c.session.isSome then some (stPrecond, rExists, 0)
      else if live.isNone && (64 ≤ s.batten.sessions.length || sessionIds ≤ s.batten.usedIds.length) then
        some (stBusy, rSessions, 0)
      else none

/-- Binds a connection to a session. -/
def bindConnection (n : Nat) (o : U32) (s : State) : State :=
  { s with batten := { s.batten with
      connections := s.batten.connections.map fun k => if k.id = n then { k with session := some o } else k
      sessions := s.batten.sessions.map fun x => if x.originator = o then { x with lingering := false } else x } }

/-- A new session with its own window (R273). -/
def newSession (c : Connection) (p : Packet) (s : State) : State × U32 :=
  let i := newSessionId s
  let o : U32 := BitVec.ofNat 32 i
  let x : Session :=
    { originator := o, fingerprint := c.fingerprint, issuers := c.issuers, role := Role.ofCode (field p.body 0 1)
      lingering := false }
  (setWindow i {} { bumpFree s with batten := { s.batten with
      sessions := s.batten.sessions ++ [x], usedIds := i :: s.batten.usedIds } }, o)

/-- SESSION_OPEN on a management connection. -/
def sessionOpen (c : Connection) (p : Packet) (s : State) : State :=
  match openRefusal c p s with
  | some (st, r, a) => answerHere p 0 st r a [] s
  | none =>
    let (s, o) := if (liveSession p.originator s).isSome then (s, p.originator) else newSession c p s
    let h := (windowOf o.toNat s).highWater
    answerHere p 0 stOk 0 0 (le 4 o.toNat ++ zs 4 ++ le 8 h) (bindConnection c.id o s)

/-! ### Identity reads -/

/-- IDENTITY: the arithmetic generation is AG1 alone (00, "Binding statements" and R1). -/
def identityRun (_p : Packet) (s : State) : State × Ans :=
  (s, ok (padTo 24 (orderCode s) ++ padTo 16 s.ident.serial ++ le 2 s.ident.stepping.toNat ++ le 1 0x10 ++ le 1 1 ++ le 1 1))

def featuresRun (_p : Packet) (s : State) : State × Ans := (s, ok (le 4 (featureWord s) ++ zs 4))

def certReadRun (_p : Packet) (s : State) : State × Ans :=
  let cs := s.ident.certificates
  (s, ok (le 2 cs.length ++ zs 2 ++ cs.flatMap fun c => le 4 c.length ++ c))

/-! ### COMPLETION_READ (R261, R285, R286) -/

/-- A kept reply as a payload: its status block and its payload. -/
def keptBytes (r : Reply) : List Byte :=
  le 1 r.status.toNat ++ zs 3 ++ le 4 (r.reason.toNat * 65536 + r.arg.toNat) ++ r.payload

/-- What COMPLETION_READ answers for a sequence of a window. -/
def completionOf (q : Nat) (w : Window) : Ans :=
  let keptPayload := ((lookup w.kept q).map keptBytes).getD []
  match lookup w.marks q with
  | some (.executed _ _) =>
    if w.running.contains q || (lookup w.kept q).isNone then .done stAccepted 0 0 keptPayload else ok keptPayload
  | some (.held ..) => .done stAccepted 0 0 []
  | some .skipped => refuse stStale 0 0
  | none => if q = 0 || w.highWater < q then refuse stRange rNotSeen 0 else refuse stStale 0 0

/-- COMPLETION_READ: a reply that a quarantined Eave kept for its own refusal is read there. -/
def completionReadRun (p : Packet) (s : State) : State × Ans :=
  let q := field p.body 0 8
  let own := windowOf (windowKey p s) s
  (s, completionOf q (if (lookup own.kept q).isSome then own else windowOf p.originator.toNat s))

/-! ### SESSION_CLOSE and the role map -/

def sessionCloseRun (_p : Packet) (s : State) : State × Ans := (s, ok [])

/-- The session ends after its reply, with no linger. -/
def sessionCloseAfter (p : Packet) (s : State) : State := endSession p.originator s

def rolemapReadRun (_p : Packet) (s : State) : State × Ans :=
  (s, ok (le 2 s.batten.roleMap.length ++ zs 2 ++ roleMapBytes s.batten.roleMap))

/-- The entries that ROLEMAP_WRITE carries. -/
def roleEntries (body : List Byte) : List RoleEntry :=
  (List.range (field body 0 2)).map fun i =>
    let b := sub body (4 + 36 * i) 36
    { issuer := field b 0 1 = 1, role := Role.ofCode (field b 1 1), fingerprint := digestOf (sub b 4 32) }

/-- ROLEMAP_WRITE replaces the whole map, and the change is journalled (R269, R381). -/
def rolemapWriteRun (p : Packet) (s : State) : State × Ans :=
  let es := roleEntries p.body
  if !es.any (fun e => e.role = .admin) then (s, refuse stPrecond rLastAdmin 0)
  else
    let d := sha256 (roleMapBytes es)
    let s := { s with batten.roleMap := es }
    (journalFinial (paramBody 3 es.length p.originator.toNat (markTallyNat s) d s) s, ok (digestBytes d))

/-- Whether the role map still supports a session (R380). -/
def supported (x : Session) (s : State) : Bool :=
  (matching x.fingerprint x.issuers s).any fun e => Role.permits e.role x.role

/-- After the reply, a session that no entry supports ends, and every connection whose certificate matches no entry
closes, whether it belonged to such a session or to none (R380). -/
def rolemapWriteAfter (_p : Packet) (s : State) : State :=
  let s := (s.batten.sessions.filter fun x => !supported x s).foldl (fun t x => endSession x.originator t) s
  (s.batten.connections.filter fun c => c.session.isNone && (matching c.fingerprint c.issuers s).isEmpty).foldl
    (fun t c => closeConnection c t) s

end Sys2Proof.Machine
end

