-- ==== Sys2Proof/Machine/Front.lean ====
section
/-! DEFINITION. The reception of Batten packets (05): what every receiver checks and in which order, sequence
windows, the dispatch of an accepted command to its meaning, and the clock's tick. -/

namespace Sys2Proof.Machine

/-! ### Packets -/

/-- The code of a command's opcode. -/
def opcodeOf (c : Instr) : Nat :=
  match opRow c, c with
  | some r, _ => r.code
  | none, .unassignedOpcode op _ => op.toNat
  | none, _ => 0xFFFF

/-- The content digest (R258). -/
def contentDigest (c : Instr) (p : Packet) : Digest := sha256 (packetBytes (opcodeOf c) p)

/-- A packet with its CRC trailer (R245). -/
def wireBytes (c : Instr) (p : Packet) : List Byte :=
  let b := packetBytes (opcodeOf c) p
  b ++ le 4 (crc32c b).toNat

/-- Whether a command is SESSION_OPEN. -/
def isOpen : Instr → Bool
  | .sessionOpen _ => true
  | _ => false

/-- The path's packet limit (Table 5.4); originator 0 has one of its own. -/
def pathLimit (p : Packet) : Nat :=
  match p.path with
  | .management _ => if p.originator = 0 then 4132 else 1048612
  | .inBand _ _ => 512
  | .ridge _ => 65572
  | .finial => 4132

/-! ### Receivers and their counters (R307) -/

/-- The counter number of a receiver. -/
def unitIndex : Unit_ → Nat
  | .wafer => 0
  | .eave e => 1 + Eave.code e
  | .finial => 3
  | .coping => 4

/-- The counter number of an executing receiver. -/
def execIndex (r : Receiver) (s : State) : Nat :=
  match r with
  | .wafer => 0
  | .eaves => 1 + ((authority s).map Eave.code).getD 0
  | .finial => 3
  | .coping => 4

/-- The receiver that checks a packet: the Eave that terminates the connection, the wafer for an in-band
packet, the executing unit on the internal paths. -/
def receiverOf (c : Instr) (p : Packet) (s : State) : Nat :=
  match p.path with
  | .management n => 1 + ((connection n s).map fun k => Eave.code k.eave).getD 0
  | .inBand _ _ => 0
  | _ => match opRow c with
    | some r => execIndex r.exec s
    | none => 0

/-- Counts a Batten counter at the receiver of a packet. -/
def countAt (c : Instr) (p : Packet) (code : Nat) (s : State) : State := count (cBatten (receiverOf c p s) code) s

/-! ### Checks 1 to 7 (R287) -/

/-- Version and reserved fields (Table 5.5): the counter's code, the reason and the argument. -/
def headerFault (p : Packet) : Option (Nat × Nat × Nat) :=
  if p.version.toNat / 16 ≠ 1 then some (3, rVersion, 0)
  else if p.flags &&& 0xFFFD#16 ≠ 0 ∨ p.reserved27 ≠ 0 ∨ p.reserved30 ≠ 0 then some (4, rReserved, 0xFFFF)
  else none

/-- Whether an originator is permitted on the path of its packet (R249, R250, R253, R278, R312). -/
def originatorPermitted (c : Instr) (p : Packet) (s : State) : Bool :=
  let o := p.originator.toNat
  match p.path with
  | .management n =>
    if isOpen c then o = 0 || (0x10000 ≤ o && o < 0xFFFFFFFF)
    else o ≠ 0 && (connection n s).any fun k => k.session = some p.originator
  | .inBand q _ => !isOpen c && o = 0x100 + q
  | .ridge e => !isOpen c && o = 1 && eaveAdmitted e s && s.batten.ridgeOnly.all fun r => r = e
  | .finial => !isOpen c && o = 2

/-- The role that a packet acts with (Table 5.4, R279). -/
def roleOf (p : Packet) (s : State) : Role :=
  match p.path with
  | .management _ => ((liveSession p.originator s).map Session.role).getD .observer
  | .inBand _ _ => .operator
  | _ => .admin

/-- Check 3: the opcode is assigned, and the header names its target (R322). -/
def targetRefusal (c : Instr) (p : Packet) : Option Ans :=
  match opRow c with
  | none => some (refuse stUnknownOp 0 0)
  | some r => if r.target.names p.unit.toNat p.inst.toNat then none else some (refuse stRange rTarget 0)

/-- The opcodes of sessions, identity, TRAY_STATE, INVENTORY and update, which a quarantined Eave accepts
(R223). -/
def quarantineAccepts (code : Nat) : Bool := code ≤ 0x0F || code = 0x70 || code = 0x71 || (0x80 ≤ code && code ≤ 0x8F)

/-- The opcodes accepted in RECOVERY, and in HELD with cause UNTESTED or WAFER_BIST (Table 4.4, R217). -/
def rimAccepts (code : Nat) : Bool := quarantineAccepts code || code = 0x61 || code = 0x62

/-- Every slate is held in reset with the rim running (R211, R217). -/
def rimOnly (s : State) : Bool :=
  s.power.phase = .recovery ||
    (s.power.phase = .held && (s.power.cause.toNat = rUntested || s.power.cause.toNat = rWaferBist))

/-- Whether opcodes executed by the wafer are executed: slates run, or the rim runs with a control block (R217). -/
def waferExecutes (s : State) : Bool :=
  s.power.slatesRunning || (s.power.waferRunning && rimOnly s &&
    !(s.power.boot.rimFailures.contains 76 && s.power.boot.rimFailures.contains 77))

/-- The commands that skip the FAULTED and DISABLED steps for their own target (R325). -/
def skipsUnit : Instr → Bool
  | .portUp _ | .slateRestore _ | .reedEnable _ | .engineEnable _ => true
  | .bankSet p => p.body.head? = some 1
  | _ => false

/-- SLATE_RESTORE is answered by its phase while the wafer boots with a control block to reach (R343). -/
def answersPhase (c : Instr) (s : State) : Bool :=
  match c with
  | .slateRestore _ => s.power.waferRunning && (s.power.phase = .bist || s.power.phase = .firmware)
  | _ => false

/-- Check 6: ABSENT, FAULTED, DISABLED (R13, R217, R324, R331). -/
def unitRefusal (row : OpRow) (c : Instr) (p : Packet) (s : State) : Option Ans :=
  let inst := p.inst.toNat
  let st := match unitState p.unit.toNat inst s with
    | some x => if skipsUnit c && x != stAbsent then none else some x
    | none => none
  let st := if row.exec = .wafer && !waferExecutes s && st ≠ some stAbsent && !answersPhase c s then some stFaulted else st
  match st with
  | none => none
  | some x =>
    if x = stFaulted && p.unit = 0x11 && s.power.refusedCartridges.contains inst then some (refuse x rEpoch 4)
    else some (refuse x rUnit inst)

/-! ### The commands' meanings -/

/-- What a command does and answers once checks 1 to 7 have passed. -/
def run (c : Instr) (s : State) : State × Ans :=
  match c with
  | .identity p => identityRun p s
  | .features p => featuresRun p s
  | .certRead p => certReadRun p s
  | .fwIdentity p => fwIdentityRun p s
  | .completionRead p => completionReadRun p s
  | .sessionClose p => sessionCloseRun p s
  | .rolemapRead p => rolemapReadRun p s
  | .rolemapWrite p => rolemapWriteRun p s
  | .paramStage p => paramStageRun p s
  | .paramRead p => paramReadRun p s
  | .paramCommit p => paramCommitRun p s
  | .paramDiscard p => paramDiscardRun p s
  | .paramDescribe p => paramDescribeRun p s
  | .portStatus p => portStatusRun p s
  | .portUp p => portUpRun p s
  | .portDown p => portDownRun p s
  | .portAdapt p => portAdaptRun p s
  | .cablePlanLoad p => cablePlanLoadRun p s
  | .cablePlanRead p => cablePlanReadRun p s
  | .opticRead p => opticReadRun p s
  | .topologyRead p => topologyReadRun p s
  | .dormerStatus p => dormerStatusRun p s
  | .skylightRead p => skylightReadRun p s
  | .slateIsolate p => slateIsolateRun p s
  | .slateRestore p => slateRestoreRun p s
  | .groupDefine p => groupDefineRun p s
  | .groupDelete p => groupDeleteRun p s
  | .collectiveOpen p => collectiveOpenRun p s
  | .collectiveStatus p => collectiveStatusRun p s
  | .collectiveCancel p => collectiveCancelRun p s
  | .decisionOpen p => decisionOpenRun p s
  | .decisionClose p => decisionCloseRun p s
  | .reedDisable p => reedDisableRun p s
  | .reedEnable p => reedEnableRun p s
  | .engineDisable p => engineDisableRun p s
  | .engineEnable p => engineEnableRun p s
  | .regionAlloc p => regionAllocRun p s
  | .regionInfo p => regionInfoRun p s
  | .regionList p => regionListRun p s
  | .regionFind p => regionFindRun p s
  | .regionSeal p => regionSealRun p s
  | .regionFree p => regionFreeRun p s
  | .journalStatus p => journalStatusRun p s
  | .journalExport p => journalExportRun p s
  | .journalAck p => journalAckRun p s
  | .replayStart p => replayStartRun p s
  | .replayStatus p => replayStatusRun p s
  | .replayCancel p => replayCancelRun p s
  | .journalMark p => journalMarkRun p s
  | .bankSet p => bankSetRun p s
  | .trayState p => trayStateRun p s
  | .inventory p => inventoryRun p s
  | .tallyStatus p => tallyStatusRun p s
  | .tallyReacquire p => tallyReacquireRun p s
  | .senseRead p => senseReadRun p s
  | .counterSnap p => counterSnapRun p s
  | .counterRead p => counterReadRun p s
  | .senseSync p => senseSyncRun p s
  | .aoutWrite p => aoutWriteRun p s
  | .aoutRead p => aoutReadRun p s
  | .calRun p => calRunRun p s
  | .channelMask p => channelMaskRun p s
  | .modeSet p => modeSetRun p s
  | .roleSwap p => roleSwapRun p s
  | .latchWrite p => latchWriteRun p s
  | .controllerStatus p => controllerStatusRun p s
  | .imgDownload p => imgDownloadRun p s
  | .imgVerify p => imgVerifyRun p s
  | .imgActivate p => imgActivateRun p s
  | .imgConfirm p => imgConfirmRun p s
  | .imgStatus p => imgStatusRun p s
  | .manifestLoad p => manifestLoadRun p s
  | .manifestRead p => manifestReadRun p s
  | .freeze p => freezeRun p s
  | .freezeAt p => freezeAtRun p s
  | .thaw p => thawRun p s
  | .restart p => restartRun p s
  | .snapStart p => snapStartRun p s
  | .patrolStatus p => patrolStatusRun p s
  | _ => (s, refuse stUnknownOp 0 0)

/-- A refusal that check 7 makes in a command's own meaning: RANGE, or the entry of a set (R294). -/
def Ans.ofRange : Ans → Bool
  | .done st r _ _ => st = stRange || (r = rEntry && st ≠ stOk)
  | .accept _ => false

/-- Check 8 as far as it is the same for every command: the phase (R314) and the freeze (R327). -/
def stateRefusal (row : OpRow) (s : State) : Option Ans :=
  if rimOnly s && !rimAccepts row.code then some (refusePhase s)
  else if row.exec = .wafer && s.freezeUnit.frozen then some (refuse stPrecond rFrozen 0)
  else none

/-- Checks 3 to 8 as far as they come before a command's own preconditions (R287); a refusal that check 7 makes in the
command's meaning comes before check 8. `key` is that of the window which judged the packet. -/
def refusal (key : Nat) (c : Instr) (p : Packet) (s : State) : Option Ans :=
  match targetRefusal c p, opRow c with
  | some a, _ => some a
  | none, none => none
  | none, some row =>
    if key ≠ p.originator.toNat && !quarantineAccepts row.code then some (refuse stEpoch 0 0)
    else if !opcodeOnPath p.path row then some (refuse stDenied rPath 0)
    else if !row.need.admits (roleOf p s) then some (refuse stDenied rRole 0)
    else match unitRefusal row c p s with
      | some a => some a
      | none => match (layoutOf s c).refusal p.body with
        | some (r, a) => some (refuse stRange r a)
        | none => (stateRefusal row s).map fun a => let b := (run c s).2; if b.ofRange then b else a

/-- What a command goes on to do once its reply has been sent. -/
def follow (c : Instr) (s : State) : State :=
  match c with
  | .sessionClose p => sessionCloseAfter p s
  | .rolemapWrite p => rolemapWriteAfter p s
  | .portUp p => portUpAfter p s
  | .portDown p => portDownAfter p s
  | .portAdapt p => portAdaptAfter p s
  | .slateIsolate p => isolate p.inst.toNat rIsolateCmd .isolated s
  | .slateRestore p => slateRestoreAfter p s
  | .collectiveOpen p => collectiveOpenAfter p s
  | .reedDisable p => reedDisableAfter p s
  | .engineDisable p => engineDisableAfter p s
  | .bankSet p => bankSetAfter p s
  | .tallyReacquire p => tallyReacquireAfter p s
  | .calRun p => calRunAfter p s
  | .imgActivate p => imgActivateAfter p s
  | .restart p => restartAfter p s
  | _ => s

/-- A synchronous command is answered once, whatever its flags say (R282). -/
def syncFlags (c : Instr) (p : Packet) : Packet :=
  if (opRow c).all OpRow.async then p else { p with flags := 0 }

/-- Both Eaves forward a management command to the unit that executes it, which discards the second copy
(05, "Paths and originators", R257). -/
def forwardedTwice (row : OpRow) (p : Packet) (s : State) : Bool :=
  row.exec ≠ .eaves && eaveAdmitted .a s && eaveAdmitted .b s && match p.path with
    | .management _ => true
    | _ => false

/-- The executing unit takes a command's first copy. It counts the second of two forwarded ones; of a command that a
quarantined Eave passes on it marks the sequence, so that a copy from the other Eave is a duplicate. -/
def takeCopy (key : Nat) (c : Instr) (p : Packet) (s : State) : State :=
  if key ≠ p.originator.toNat then
    markExecuted p.originator.toNat p.sequence.toNat (contentDigest c p) p.path s
  else match opRow c with
    | some row => if forwardedTwice row p s then count (cBatten (execIndex row.exec s) 5) s else s
    | none => s

/-- Whether the command comes from an ADMIN session, whose executed commands hear the events before them (14,
before R831). -/
def fromAdmin (p : Packet) (s : State) : Bool :=
  match p.path with
  | .management _ => roleOf p s = .admin
  | _ => false

/-- A command of R965 or a command that fulfils R227 may be due after it. -/
def settleDue (s : State) : State := checkReady (if restartDue s then byFinial restartWafer s else s)

/-- A command that ran from `before` with result `s` is answered, and goes on to what follows its reply. -/
def conclude (c : Instr) (p : Packet) (before s : State) (a : Ans) : State :=
  let s := answer (syncFlags c p) (opcodeOf c) a s
  if a.executed then settleDue (follow c (if fromAdmin p before then hearBefore before.referee.nextEvent s else s)) else s

/-! ### Sequence windows (R255-R261, R1073) -/

/-- A copy of a sequence that its window remembers: a duplicate, or DIVERGED (R257, R262). -/
def again (c : Instr) (p : Packet) (first : Digest) (path : Path) (s : State) : State :=
  let d := contentDigest c p
  if first = d then countAt c p 5 s
  else
    emit (.diverged p.originator p.sequence first d path p.path)
      (answerHere p (opcodeOf c) stDiverged 0 0 [] (countAt c p 6 s))

/-- A sequence below its window, or skipped (Table 5.6). -/
def stale (c : Instr) (p : Packet) (s : State) : State :=
  answerUnrecorded p (opcodeOf c) stStale 0 0 (countAt c p 7 s)

/-- Table 5.6 for a sequence that a window does not execute or hold; none where it does. -/
def judged (key : Nat) (c : Instr) (p : Packet) (s : State) : Option State :=
  let q := p.sequence.toNat
  let w := windowOf key s
  match lookup w.marks q with
  | some (.executed x path) => some (again c p x path s)
  | some (.held x first _) => some (again c p x ((first.packet?.map Packet.path).getD p.path) s)
  | some .skipped => some (stale c p s)
  | none =>
    if q ≤ w.highWater then some (stale c p s)
    else if w.highWater + 256 < q then some (answerUnrecorded p (opcodeOf c) stBusy rWindow 0 (countAt c p 9 s))
    else none

/-- Records a sequence as executed (R257, R288). -/
def record (key : Nat) (c : Instr) (p : Packet) (s : State) : State :=
  let q := p.sequence.toNat
  let w := windowOf key s
  setWindow key
    (Window.prune { w with marks := put q (.executed (contentDigest c p) p.path) w.marks, highWater := q }) s

/-- A command passes its checks and runs. -/
def runNow (key : Nat) (c : Instr) (p : Packet) (s : State) : State :=
  let (t, a) := run c (takeCopy key c p s)
  conclude c p s t a

/-- Runs a command whose sequence has been recorded, and answers it. One that a quarantined Eave passes on is judged by
the executing unit too. -/
def perform (key : Nat) (c : Instr) (p : Packet) (s : State) : State :=
  match refusal key c p s with
  | some a => answerIn key p (opcodeOf c) a s
  | none =>
    if key = p.originator.toNat then runNow key c p s
    else (judged p.originator.toNat c p s).getD (runNow key c p s)

/-- Records a sequence, and runs its command. -/
def execute (key : Nat) (c : Instr) (p : Packet) (s : State) : State := perform key c p (record key c p s)

/-- The buffers of a BATTEN frame are free once its packet has been executed (Table 8.1, R414). -/
def freePacket (p : Packet) (s : State) : State :=
  match p.path with
  | .inBand q _ =>
    let k := packetCredits p
    returnCredits q 7 k (releaseShingles ((servingSite q s).getD 0) k s)
  | _ => s

/-- Advances a window, as long as it lives: held packets that follow are executed, and missing sequences below `target`
are skipped, counted at the receiver of the packet that waited (R257, R260). -/
def drain (key target receiver : Nat) : Nat → State → State
  | 0, s => s
  | fuel + 1, s =>
    match lookup s.batten.windows key with
    | none => s
    | some w =>
      let q := w.highWater + 1
      match lookup w.marks q with
      | some (.held _ c _) =>
        match c.packet? with
        | some p => drain key target receiver fuel (freePacket p (execute key c p s))
        | none => s
      | some _ => drain key target receiver fuel (setWindow key (Window.prune { w with highWater := q }) s)
      | none =>
        if q < target then
          let w' := Window.prune { w with marks := put q .skipped w.marks, highWater := q }
          drain key target receiver fuel (count (cBatten receiver 8) (setWindow key w' s))
        else s

/-- What follows in the window that judged a packet, and in that of its originator. -/
def drainAfter (key : Nat) (p : Packet) (s : State) : State :=
  let t := drain key 0 0 256 s
  if key = p.originator.toNat then t else drain p.originator.toNat 0 0 256 t

/-- Table 5.6. -/
def sequence (c : Instr) (p : Packet) (s : State) : State :=
  let key := windowKey p s
  let q := p.sequence.toNat
  let w := windowOf key s
  match judged key c p s with
  | some t => t
  | none =>
    if q = w.highWater + 1 then drainAfter key p (execute key c p s)
    else setWindow key { w with marks := put q (.held (contentDigest c p) c s.now) w.marks } s

/-- The first packet of an in-band originator anchors its window (R1073). -/
def anchor (p : Packet) (s : State) : State :=
  let o := p.originator.toNat
  let w := windowOf o s
  if w.anchored then s else setWindow o { w with anchored := true, highWater := p.sequence.toNat - 1 } s

/-- A packet that would anchor its window and that check 3 refuses leaves it unanchored (R1073). -/
def anchorAndSequence (c : Instr) (p : Packet) (s : State) : State :=
  match targetRefusal c p with
  | some (.done st r a _) =>
    if (windowOf p.originator.toNat s).anchored then sequence c p s else answerUnrecorded p (opcodeOf c) st r a s
  | _ => sequence c p (anchor p s)

/-! ### Reception -/

/-- A packet whose length its path carries: Table 5.5, then the originator, then its sequence. -/
def admitPacket (c : Instr) (p : Packet) (s : State) : State :=
  match headerFault p with
  | some (code, r, a) => answerHere p (opcodeOf c) stRange r a [] (countAt c p code s)
  | none =>
    if !originatorPermitted c p s then answerHere p (opcodeOf c) stDenied rPath 0 [] s
    else if isOpen c then
      match p.path with
      | .management n => match connection n s with
        | some k => sessionOpen k p s
        | none => s
      | _ => s
    else if p.sequence = 0 then answerUnrecorded p (opcodeOf c) stStale 0 0 (countAt c p 7 s)
    else anchorAndSequence c p s

/-- The BATTEN frame that carries a packet from an endpoint (R408). -/
def battenFrame (endpoint : U16) (bytes : List Byte) : RxFrame :=
  let h := { trayHeader 7 0x08 0 bytes.length 0xFFFF 0 0 0 with srcEndpoint := endpoint }
  { header := h, hcrc := crc32c (headerBytes60 h), payload := bytes, blocks := (bytes.length + 31) / 32
    lastValid := if bytes.isEmpty then 0 else (bytes.length - 1) % 32 + 1
    crc := crc32c (headerBytes h ++ bytes), eof := .good }

/-- A BATTEN frame on a port passes the checks of every frame (R404-R408), and is engine-held until its packet has been
executed (Table 8.1): the state, and whether the packet reaches the wafer's receiver. A frame that a check discards, or
that a re-homing discards, is as any other. -/
def battenIn (p : Nat) (endpoint : U16) (bytes : List Byte) (s : State) : State × Bool :=
  if !waferLive s then (s, false)
  else
    let f := battenFrame endpoint bytes
    let s := if (port p s).state = .up || (port p s).state = .draining then newSof p 7 s else s
    if frameCheck p f s ≠ .good || rehoming p s then (frameStart p f s, false)
    else
      let k := creditsOf bytes.length
      (holdShingles ((servingSite p s).getD 0) k (useCredits p 7 k (admitFrame p f s)), true)

/-- Whether a packet passes every check before its sequence window (R287, checks 1 and 2; R1073). -/
def reachesWindow (c : Instr) (p : Packet) (s : State) : Bool :=
  (headerFault p).isNone && originatorPermitted c p s && !isOpen c && p.sequence != 0 &&
    ((targetRefusal c p).isNone || (windowOf p.originator.toNat s).anchored)

/-- Whether a packet is next in its window: nothing has marked its sequence, which is H + 1 (Table 5.6). -/
def isNext (c : Instr) (p : Packet) (s : State) : Bool :=
  (judged (windowKey p s) c p s).isNone && p.sequence.toNat = (windowOf (windowKey p s) s).highWater + 1

/-- Whether a packet comes to wait in its window for the ones before it (Table 5.6). -/
def packetWaits (c : Instr) (p : Packet) (s : State) : Bool :=
  let t := anchor p s
  reachesWindow c p s && (judged (windowKey p t) c p t).isNone && !isNext c p t

/-- What the carrier of a packet does with it: the state, and whether the packet reaches its receiver
(R246-R250, R253, R272). -/
def carry (c : Instr) (p : Packet) (s : State) : State × Bool :=
  let tooLong := pathLimit p < 36 + p.body.length
  match p.path with
  | .management n => match connection n s with
    | none => (s, false)
    | some k =>
      if !eaveAnswers k.eave s then (s, false)
      else if tooLong then (closeConnection k (countAt c p 1 s), false)
      else if k.session.isNone && !isOpen c then (closeConnection k s, false)
      else (s, true)
  | .inBand q e =>
    let (s, good) := battenIn q e (wireBytes c p) s
    if !good then (s, false) else if 128 ≤ q then (freePacket p (countAt c p 1 s), false) else (s, true)
  | .ridge e => if !(eave e s).booted then (s, false) else if tooLong then (countAt c p 1 s, false) else (s, true)
  | .finial => if !s.referee.booted then (s, false) else if tooLong then (countAt c p 1 s, false) else (s, true)

/-- A packet arrives. Unless it comes to wait in its window, its buffers are free again. -/
def receive (c : Instr) (p : Packet) (s : State) : State :=
  let (s, good) := carry c p s
  if !good then s
  else
    let t := admitPacket c p s
    if packetWaits c p s then t else freePacket p t

/-- UNASSIGNED_OPCODE: answered UNKNOWN_OP at check 3 (R287). An opcode that the tables assign is no such
packet. -/
def execUnassignedOpcode (opcode : U16) (p : Packet) (s : State) : Host.Outcome State Fault Refusal :=
  if opcodeAssigned opcode.toNat then .next s else .next (receive (.unassignedOpcode opcode p) p s)

/-- The receivers of the ridge stream and of Finial's path (Table 5.4). -/
def hearsRidge : Unit_ → Bool
  | .wafer | .finial | .coping => true
  | .eave _ => false

def hearsFinial : Unit_ → Bool
  | .wafer | .eave _ | .coping => true
  | .finial => false

/-- Whether a receiver runs. -/
def unitRuns (u : Unit_) (s : State) : Bool :=
  match u with
  | .wafer => s.power.waferRunning
  | .eave e => (eave e s).booted
  | .finial => s.referee.booted
  | .coping => s.power.aonUp

/-- The counter number of a fault: batten.framing_err, batten.crc_err (R307). -/
def faultCode (f : PacketFault) : Nat :=
  match f.kind with
  | .framing => 1
  | .crc => 2

/-- MALFORMED_PACKET: wrong framing closes a TCP connection and is discarded elsewhere; a wrong CRC discards the
packet (Table 5.5). It is counted at the receiver that meets it. -/
def execMalformedPacket (path : Path) (fault : PacketFault) (bytes : List Byte) (s : State) :
    Host.Outcome State Fault Refusal :=
  let code := faultCode fault
  match path with
  | .management n => match connection n s with
    | none => .next s
    | some k =>
      if !eaveAnswers k.eave s then .next s
      else
        let s := count (cBatten (1 + Eave.code k.eave) code) s
        .next (if fault.kind = .framing then closeConnection k s else s)
  | .inBand q e =>
    let (s, good) := battenIn q e bytes s
    let k := creditsOf bytes.length
    .next (if good then returnCredits q 7 k (releaseShingles ((servingSite q s).getD 0) k
      (count (cBatten 0 (if 128 ≤ q then 1 else code)) s)) else s)
  | .ridge e =>
    .next (if (eave e s).booted && hearsRidge fault.unit && unitRuns fault.unit s then
      count (cBatten (unitIndex fault.unit) code) s else s)
  | .finial =>
    .next (if s.referee.booted && hearsFinial fault.unit && unitRuns fault.unit s then
      count (cBatten (unitIndex fault.unit) code) s else s)

/-- The held packet of a window that has waited longest, the lowest of equals: its sequence, and its command. -/
def oldestHeld (w : Window) : Option (Nat × Instr) :=
  (w.marks.foldl (fun (b : Option (Nat × Instr × Nat)) m =>
    match m.2, b with
    | .held _ c t, none => some (m.1, c, t)
    | .held _ c t, some (_, _, t') => if t < t' then some (m.1, c, t) else b
    | _, _ => b) none).map fun x => (x.1, x.2.1)

/-- The windows of an originator: its own, and those of quarantined Eaves. -/
def keysOf (o : Nat) : List Nat := [o, quarantineKey o .a, quarantineKey o .b]

/-- GAP_HOLD_EXPIRY: every missing sequence below the packet that has waited batten.gap_hold_us is skipped, and
the held packets are executed (R260). -/
def execGapHoldExpiry (originator : U32) (s : State) : Host.Outcome State Fault Refusal :=
  match (keysOf originator.toNat).findSome? fun k => (oldestHeld (windowOf k s)).map fun h => (k, h) with
  | some (key, q, c) => match c.packet? with
    | some p => .next (drain key q (receiverOf c p s) 512 s)
    | none => .next s
  | none => .next s

/-! ### The clock -/

/-- One tick of the block with no command waiting (assumption: a tick in place of idling). -/
def idleTick (s : State) : State := settleDue (settleResults (landAll (advance 1 s)))

/-! ### The Batten commands -/

def execSessionOpen (p : Packet) (s : State) : Host.Outcome State Fault Refusal := .next (receive (.sessionOpen p) p s)
def execIdentity (p : Packet) (s : State) : Host.Outcome State Fault Refusal := .next (receive (.identity p) p s)
def execFeatures (p : Packet) (s : State) : Host.Outcome State Fault Refusal := .next (receive (.features p) p s)
def execCertRead (p : Packet) (s : State) : Host.Outcome State Fault Refusal := .next (receive (.certRead p) p s)
def execFwIdentity (p : Packet) (s : State) : Host.Outcome State Fault Refusal := .next (receive (.fwIdentity p) p s)
def execCompletionRead (p : Packet) (s : State) : Host.Outcome State Fault Refusal := .next (receive (.completionRead p) p s)
def execSessionClose (p : Packet) (s : State) : Host.Outcome State Fault Refusal := .next (receive (.sessionClose p) p s)
def execRolemapRead (p : Packet) (s : State) : Host.Outcome State Fault Refusal := .next (receive (.rolemapRead p) p s)
def execRolemapWrite (p : Packet) (s : State) : Host.Outcome State Fault Refusal := .next (receive (.rolemapWrite p) p s)
def execParamStage (p : Packet) (s : State) : Host.Outcome State Fault Refusal := .next (receive (.paramStage p) p s)
def execParamRead (p : Packet) (s : State) : Host.Outcome State Fault Refusal := .next (receive (.paramRead p) p s)
def execParamCommit (p : Packet) (s : State) : Host.Outcome State Fault Refusal := .next (receive (.paramCommit p) p s)
def execParamDiscard (p : Packet) (s : State) : Host.Outcome State Fault Refusal := .next (receive (.paramDiscard p) p s)
def execParamDescribe (p : Packet) (s : State) : Host.Outcome State Fault Refusal := .next (receive (.paramDescribe p) p s)
def execPortStatus (p : Packet) (s : State) : Host.Outcome State Fault Refusal := .next (receive (.portStatus p) p s)
def execPortUp (p : Packet) (s : State) : Host.Outcome State Fault Refusal := .next (receive (.portUp p) p s)
def execPortDown (p : Packet) (s : State) : Host.Outcome State Fault Refusal := .next (receive (.portDown p) p s)
def execPortAdapt (p : Packet) (s : State) : Host.Outcome State Fault Refusal := .next (receive (.portAdapt p) p s)
def execCablePlanLoad (p : Packet) (s : State) : Host.Outcome State Fault Refusal := .next (receive (.cablePlanLoad p) p s)
def execCablePlanRead (p : Packet) (s : State) : Host.Outcome State Fault Refusal := .next (receive (.cablePlanRead p) p s)
def execOpticRead (p : Packet) (s : State) : Host.Outcome State Fault Refusal := .next (receive (.opticRead p) p s)
def execTopologyRead (p : Packet) (s : State) : Host.Outcome State Fault Refusal := .next (receive (.topologyRead p) p s)
def execDormerStatus (p : Packet) (s : State) : Host.Outcome State Fault Refusal := .next (receive (.dormerStatus p) p s)
def execSkylightRead (p : Packet) (s : State) : Host.Outcome State Fault Refusal := .next (receive (.skylightRead p) p s)
def execSlateIsolate (p : Packet) (s : State) : Host.Outcome State Fault Refusal := .next (receive (.slateIsolate p) p s)
def execSlateRestore (p : Packet) (s : State) : Host.Outcome State Fault Refusal := .next (receive (.slateRestore p) p s)
def execGroupDefine (p : Packet) (s : State) : Host.Outcome State Fault Refusal := .next (receive (.groupDefine p) p s)
def execGroupDelete (p : Packet) (s : State) : Host.Outcome State Fault Refusal := .next (receive (.groupDelete p) p s)
def execCollectiveOpen (p : Packet) (s : State) : Host.Outcome State Fault Refusal := .next (receive (.collectiveOpen p) p s)
def execCollectiveStatus (p : Packet) (s : State) : Host.Outcome State Fault Refusal := .next (receive (.collectiveStatus p) p s)
def execCollectiveCancel (p : Packet) (s : State) : Host.Outcome State Fault Refusal := .next (receive (.collectiveCancel p) p s)
def execDecisionOpen (p : Packet) (s : State) : Host.Outcome State Fault Refusal := .next (receive (.decisionOpen p) p s)
def execDecisionClose (p : Packet) (s : State) : Host.Outcome State Fault Refusal := .next (receive (.decisionClose p) p s)
def execReedDisable (p : Packet) (s : State) : Host.Outcome State Fault Refusal := .next (receive (.reedDisable p) p s)
def execReedEnable (p : Packet) (s : State) : Host.Outcome State Fault Refusal := .next (receive (.reedEnable p) p s)
def execEngineDisable (p : Packet) (s : State) : Host.Outcome State Fault Refusal := .next (receive (.engineDisable p) p s)
def execEngineEnable (p : Packet) (s : State) : Host.Outcome State Fault Refusal := .next (receive (.engineEnable p) p s)
def execRegionAlloc (p : Packet) (s : State) : Host.Outcome State Fault Refusal := .next (receive (.regionAlloc p) p s)
def execRegionInfo (p : Packet) (s : State) : Host.Outcome State Fault Refusal := .next (receive (.regionInfo p) p s)
def execRegionList (p : Packet) (s : State) : Host.Outcome State Fault Refusal := .next (receive (.regionList p) p s)
def execRegionFind (p : Packet) (s : State) : Host.Outcome State Fault Refusal := .next (receive (.regionFind p) p s)
def execRegionSeal (p : Packet) (s : State) : Host.Outcome State Fault Refusal := .next (receive (.regionSeal p) p s)
def execRegionFree (p : Packet) (s : State) : Host.Outcome State Fault Refusal := .next (receive (.regionFree p) p s)
def execJournalStatus (p : Packet) (s : State) : Host.Outcome State Fault Refusal := .next (receive (.journalStatus p) p s)
def execJournalExport (p : Packet) (s : State) : Host.Outcome State Fault Refusal := .next (receive (.journalExport p) p s)
def execJournalAck (p : Packet) (s : State) : Host.Outcome State Fault Refusal := .next (receive (.journalAck p) p s)
def execReplayStart (p : Packet) (s : State) : Host.Outcome State Fault Refusal := .next (receive (.replayStart p) p s)
def execReplayStatus (p : Packet) (s : State) : Host.Outcome State Fault Refusal := .next (receive (.replayStatus p) p s)
def execReplayCancel (p : Packet) (s : State) : Host.Outcome State Fault Refusal := .next (receive (.replayCancel p) p s)
def execJournalMark (p : Packet) (s : State) : Host.Outcome State Fault Refusal := .next (receive (.journalMark p) p s)
def execBankSet (p : Packet) (s : State) : Host.Outcome State Fault Refusal := .next (receive (.bankSet p) p s)
def execTrayState (p : Packet) (s : State) : Host.Outcome State Fault Refusal := .next (receive (.trayState p) p s)
def execInventory (p : Packet) (s : State) : Host.Outcome State Fault Refusal := .next (receive (.inventory p) p s)
def execTallyStatus (p : Packet) (s : State) : Host.Outcome State Fault Refusal := .next (receive (.tallyStatus p) p s)
def execTallyReacquire (p : Packet) (s : State) : Host.Outcome State Fault Refusal := .next (receive (.tallyReacquire p) p s)
def execSenseRead (p : Packet) (s : State) : Host.Outcome State Fault Refusal := .next (receive (.senseRead p) p s)
def execCounterSnap (p : Packet) (s : State) : Host.Outcome State Fault Refusal := .next (receive (.counterSnap p) p s)
def execCounterRead (p : Packet) (s : State) : Host.Outcome State Fault Refusal := .next (receive (.counterRead p) p s)
def execSenseSync (p : Packet) (s : State) : Host.Outcome State Fault Refusal := .next (receive (.senseSync p) p s)
def execAoutWrite (p : Packet) (s : State) : Host.Outcome State Fault Refusal := .next (receive (.aoutWrite p) p s)
def execAoutRead (p : Packet) (s : State) : Host.Outcome State Fault Refusal := .next (receive (.aoutRead p) p s)
def execCalRun (p : Packet) (s : State) : Host.Outcome State Fault Refusal := .next (receive (.calRun p) p s)
def execChannelMask (p : Packet) (s : State) : Host.Outcome State Fault Refusal := .next (receive (.channelMask p) p s)
def execModeSet (p : Packet) (s : State) : Host.Outcome State Fault Refusal := .next (receive (.modeSet p) p s)
def execRoleSwap (p : Packet) (s : State) : Host.Outcome State Fault Refusal := .next (receive (.roleSwap p) p s)
def execLatchWrite (p : Packet) (s : State) : Host.Outcome State Fault Refusal := .next (receive (.latchWrite p) p s)
def execControllerStatus (p : Packet) (s : State) : Host.Outcome State Fault Refusal := .next (receive (.controllerStatus p) p s)
def execImgDownload (p : Packet) (s : State) : Host.Outcome State Fault Refusal := .next (receive (.imgDownload p) p s)
def execImgVerify (p : Packet) (s : State) : Host.Outcome State Fault Refusal := .next (receive (.imgVerify p) p s)
def execImgActivate (p : Packet) (s : State) : Host.Outcome State Fault Refusal := .next (receive (.imgActivate p) p s)
def execImgConfirm (p : Packet) (s : State) : Host.Outcome State Fault Refusal := .next (receive (.imgConfirm p) p s)
def execImgStatus (p : Packet) (s : State) : Host.Outcome State Fault Refusal := .next (receive (.imgStatus p) p s)
def execManifestLoad (p : Packet) (s : State) : Host.Outcome State Fault Refusal := .next (receive (.manifestLoad p) p s)
def execManifestRead (p : Packet) (s : State) : Host.Outcome State Fault Refusal := .next (receive (.manifestRead p) p s)
def execFreeze (p : Packet) (s : State) : Host.Outcome State Fault Refusal := .next (receive (.freeze p) p s)
def execFreezeAt (p : Packet) (s : State) : Host.Outcome State Fault Refusal := .next (receive (.freezeAt p) p s)
def execThaw (p : Packet) (s : State) : Host.Outcome State Fault Refusal := .next (receive (.thaw p) p s)
def execRestart (p : Packet) (s : State) : Host.Outcome State Fault Refusal := .next (receive (.restart p) p s)
def execSnapStart (p : Packet) (s : State) : Host.Outcome State Fault Refusal := .next (receive (.snapStart p) p s)
def execPatrolStatus (p : Packet) (s : State) : Host.Outcome State Fault Refusal := .next (receive (.patrolStatus p) p s)

end Sys2Proof.Machine
end

