-- ==== Sys2Proof/Machine/Dispatch.lean ====
section
/-! DEFINITION. What each command does: one arm per constructor, each a direct call of its meaning. -/

namespace Sys2Proof.Machine

def exec (i : Instr) (s : State) : Host.Outcome State Fault Refusal :=
  match i with
  | .sessionOpen p => Sys2Proof.Machine.execSessionOpen p s
  | .identity p => Sys2Proof.Machine.execIdentity p s
  | .features p => Sys2Proof.Machine.execFeatures p s
  | .certRead p => Sys2Proof.Machine.execCertRead p s
  | .fwIdentity p => Sys2Proof.Machine.execFwIdentity p s
  | .completionRead p => Sys2Proof.Machine.execCompletionRead p s
  | .sessionClose p => Sys2Proof.Machine.execSessionClose p s
  | .rolemapRead p => Sys2Proof.Machine.execRolemapRead p s
  | .rolemapWrite p => Sys2Proof.Machine.execRolemapWrite p s
  | .paramStage p => Sys2Proof.Machine.execParamStage p s
  | .paramRead p => Sys2Proof.Machine.execParamRead p s
  | .paramCommit p => Sys2Proof.Machine.execParamCommit p s
  | .paramDiscard p => Sys2Proof.Machine.execParamDiscard p s
  | .paramDescribe p => Sys2Proof.Machine.execParamDescribe p s
  | .portStatus p => Sys2Proof.Machine.execPortStatus p s
  | .portUp p => Sys2Proof.Machine.execPortUp p s
  | .portDown p => Sys2Proof.Machine.execPortDown p s
  | .portAdapt p => Sys2Proof.Machine.execPortAdapt p s
  | .cablePlanLoad p => Sys2Proof.Machine.execCablePlanLoad p s
  | .cablePlanRead p => Sys2Proof.Machine.execCablePlanRead p s
  | .opticRead p => Sys2Proof.Machine.execOpticRead p s
  | .topologyRead p => Sys2Proof.Machine.execTopologyRead p s
  | .dormerStatus p => Sys2Proof.Machine.execDormerStatus p s
  | .skylightRead p => Sys2Proof.Machine.execSkylightRead p s
  | .slateIsolate p => Sys2Proof.Machine.execSlateIsolate p s
  | .slateRestore p => Sys2Proof.Machine.execSlateRestore p s
  | .groupDefine p => Sys2Proof.Machine.execGroupDefine p s
  | .groupDelete p => Sys2Proof.Machine.execGroupDelete p s
  | .collectiveOpen p => Sys2Proof.Machine.execCollectiveOpen p s
  | .collectiveStatus p => Sys2Proof.Machine.execCollectiveStatus p s
  | .collectiveCancel p => Sys2Proof.Machine.execCollectiveCancel p s
  | .decisionOpen p => Sys2Proof.Machine.execDecisionOpen p s
  | .decisionClose p => Sys2Proof.Machine.execDecisionClose p s
  | .reedDisable p => Sys2Proof.Machine.execReedDisable p s
  | .reedEnable p => Sys2Proof.Machine.execReedEnable p s
  | .engineDisable p => Sys2Proof.Machine.execEngineDisable p s
  | .engineEnable p => Sys2Proof.Machine.execEngineEnable p s
  | .regionAlloc p => Sys2Proof.Machine.execRegionAlloc p s
  | .regionInfo p => Sys2Proof.Machine.execRegionInfo p s
  | .regionList p => Sys2Proof.Machine.execRegionList p s
  | .regionFind p => Sys2Proof.Machine.execRegionFind p s
  | .regionSeal p => Sys2Proof.Machine.execRegionSeal p s
  | .regionFree p => Sys2Proof.Machine.execRegionFree p s
  | .journalStatus p => Sys2Proof.Machine.execJournalStatus p s
  | .journalExport p => Sys2Proof.Machine.execJournalExport p s
  | .journalAck p => Sys2Proof.Machine.execJournalAck p s
  | .replayStart p => Sys2Proof.Machine.execReplayStart p s
  | .replayStatus p => Sys2Proof.Machine.execReplayStatus p s
  | .replayCancel p => Sys2Proof.Machine.execReplayCancel p s
  | .journalMark p => Sys2Proof.Machine.execJournalMark p s
  | .bankSet p => Sys2Proof.Machine.execBankSet p s
  | .trayState p => Sys2Proof.Machine.execTrayState p s
  | .inventory p => Sys2Proof.Machine.execInventory p s
  | .tallyStatus p => Sys2Proof.Machine.execTallyStatus p s
  | .tallyReacquire p => Sys2Proof.Machine.execTallyReacquire p s
  | .senseRead p => Sys2Proof.Machine.execSenseRead p s
  | .counterSnap p => Sys2Proof.Machine.execCounterSnap p s
  | .counterRead p => Sys2Proof.Machine.execCounterRead p s
  | .senseSync p => Sys2Proof.Machine.execSenseSync p s
  | .aoutWrite p => Sys2Proof.Machine.execAoutWrite p s
  | .aoutRead p => Sys2Proof.Machine.execAoutRead p s
  | .calRun p => Sys2Proof.Machine.execCalRun p s
  | .channelMask p => Sys2Proof.Machine.execChannelMask p s
  | .modeSet p => Sys2Proof.Machine.execModeSet p s
  | .roleSwap p => Sys2Proof.Machine.execRoleSwap p s
  | .latchWrite p => Sys2Proof.Machine.execLatchWrite p s
  | .controllerStatus p => Sys2Proof.Machine.execControllerStatus p s
  | .imgDownload p => Sys2Proof.Machine.execImgDownload p s
  | .imgVerify p => Sys2Proof.Machine.execImgVerify p s
  | .imgActivate p => Sys2Proof.Machine.execImgActivate p s
  | .imgConfirm p => Sys2Proof.Machine.execImgConfirm p s
  | .imgStatus p => Sys2Proof.Machine.execImgStatus p s
  | .manifestLoad p => Sys2Proof.Machine.execManifestLoad p s
  | .manifestRead p => Sys2Proof.Machine.execManifestRead p s
  | .freeze p => Sys2Proof.Machine.execFreeze p s
  | .freezeAt p => Sys2Proof.Machine.execFreezeAt p s
  | .thaw p => Sys2Proof.Machine.execThaw p s
  | .restart p => Sys2Proof.Machine.execRestart p s
  | .snapStart p => Sys2Proof.Machine.execSnapStart p s
  | .patrolStatus p => Sys2Proof.Machine.execPatrolStatus p s
  | .tlsHandshake conn eave hello => Sys2Proof.Machine.execTlsHandshake conn eave hello s
  | .connectionClose conn => Sys2Proof.Machine.execConnectionClose conn s
  | .sessionLingerExpiry session => Sys2Proof.Machine.execSessionLingerExpiry session s
  | .gapHoldExpiry originator => Sys2Proof.Machine.execGapHoldExpiry originator s
  | .extest tap => Sys2Proof.Machine.execExtest tap s
  | .samplePreload tap => Sys2Proof.Machine.execSamplePreload tap s
  | .idcode tap => Sys2Proof.Machine.execIdcode tap s
  | .clamp tap => Sys2Proof.Machine.execClamp tap s
  | .highz tap => Sys2Proof.Machine.execHighz tap s
  | .extestPulse tap => Sys2Proof.Machine.execExtestPulse tap s
  | .extestTrain tap => Sys2Proof.Machine.execExtestTrain tap s
  | .descriptorRead tap => Sys2Proof.Machine.execDescriptorRead tap s
  | .slateSel tap value => Sys2Proof.Machine.execSlateSel tap value s
  | .scanDump tap => Sys2Proof.Machine.execScanDump tap s
  | .mbistRun tap => Sys2Proof.Machine.execMbistRun tap s
  | .tallyRead tap => Sys2Proof.Machine.execTallyRead tap s
  | .bypass tap => Sys2Proof.Machine.execBypass tap s
  | .tapReset => Sys2Proof.Machine.execTapReset s
  | .rackIdWrite value => Sys2Proof.Machine.execRackIdWrite value s
  | .rowPosWrite value => Sys2Proof.Machine.execRowPosWrite value s
  | .markerNextWrite value insideSpan => Sys2Proof.Machine.execMarkerNextWrite value insideSpan s
  | .eventAckWrite number => Sys2Proof.Machine.execEventAckWrite number s
  | .voteAnswerWrite value => Sys2Proof.Machine.execVoteAnswerWrite value s
  | .invSelWrite value => Sys2Proof.Machine.execInvSelWrite value s
  | .sidebandRegisterWrite address data broadcast => Sys2Proof.Machine.execSidebandRegisterWrite address data broadcast s
  | .aonPowerUp slotPins busMillivolts => Sys2Proof.Machine.execAonPowerUp slotPins busMillivolts s
  | .aonPowerLoss => Sys2Proof.Machine.execAonPowerLoss s
  | .finialBoot verified => Sys2Proof.Machine.execFinialBoot verified s
  | .eaveBoot eave epochEF epochEC epochEE => Sys2Proof.Machine.execEaveBoot eave epochEF epochEC epochEE s
  | .coolantGatePass => Sys2Proof.Machine.execCoolantGatePass s
  | .coolantGateAlert => Sys2Proof.Machine.execCoolantGateAlert s
  | .rimWaitExpiry => Sys2Proof.Machine.execRimWaitExpiry s
  | .slateRailEnable => Sys2Proof.Machine.execSlateRailEnable s
  | .waferResetRelease => Sys2Proof.Machine.execWaferResetRelease s
  | .fullBistDone result => Sys2Proof.Machine.execFullBistDone result s
  | .pushTimeout => Sys2Proof.Machine.execPushTimeout s
  | .firmwareLoadDone result => Sys2Proof.Machine.execFirmwareLoadDone result s
  | .thatchMount result => Sys2Proof.Machine.execThatchMount result s
  | .busbarPowerFail => Sys2Proof.Machine.execBusbarPowerFail s
  | .powerFailClear => Sys2Proof.Machine.execPowerFailClear s
  | .holdupExpiry => Sys2Proof.Machine.execHoldupExpiry s
  | .busbarOvervoltage => Sys2Proof.Machine.execBusbarOvervoltage s
  | .busRangeResume => Sys2Proof.Machine.execBusRangeResume s
  | .busbarLow => Sys2Proof.Machine.execBusbarLow s
  | .shelfFault => Sys2Proof.Machine.execShelfFault s
  | .slotIdChange pins => Sys2Proof.Machine.execSlotIdChange pins s
  | .frzNAssert => Sys2Proof.Machine.execFrzNAssert s
  | .freezeAtReached => Sys2Proof.Machine.execFreezeAtReached s
  | .freezeStop => Sys2Proof.Machine.execFreezeStop s
  | .autoThaw => Sys2Proof.Machine.execAutoThaw s
  | .snapReadoutStart => Sys2Proof.Machine.execSnapReadoutStart s
  | .snapDone durationMs => Sys2Proof.Machine.execSnapDone durationMs s
  | .tallyPllLock => Sys2Proof.Machine.execTallyPllLock s
  | .rackMarker capture => Sys2Proof.Machine.execRackMarker capture s
  | .tallySlewStep => Sys2Proof.Machine.execTallySlewStep s
  | .tallyMark => Sys2Proof.Machine.execTallyMark s
  | .tallySyncLoss => Sys2Proof.Machine.execTallySyncLoss s
  | .tallyFreqWindow ppmTenths => Sys2Proof.Machine.execTallyFreqWindow ppmTenths s
  | .holdoverExpiry => Sys2Proof.Machine.execHoldoverExpiry s
  | .tallySyncReturn => Sys2Proof.Machine.execTallySyncReturn s
  | .tallyRequest port t1 => Sys2Proof.Machine.execTallyRequest port t1 s
  | .tallyResponse port t1 t2 t3 t4 => Sys2Proof.Machine.execTallyResponse port t1 t2 t3 t4 s
  | .ptpMessage eave servo => Sys2Proof.Machine.execPtpMessage eave servo s
  | .paramSetApply => Sys2Proof.Machine.execParamSetApply s
  | .counterSnapshot => Sys2Proof.Machine.execCounterSnapshot s
  | .periodicSnapshot => Sys2Proof.Machine.execPeriodicSnapshot s
  | .portSignalDetect port => Sys2Proof.Machine.execPortSignalDetect port s
  | .linkTrainingDone port ownLanes farLanes farFecL => Sys2Proof.Machine.execLinkTrainingDone port ownLanes farLanes farFecL s
  | .trainingTimeout port => Sys2Proof.Machine.execTrainingTimeout port s
  | .portRetrainTimer port signal => Sys2Proof.Machine.execPortRetrainTimer port signal s
  | .berMeasureEnd port ownBer farBer => Sys2Proof.Machine.execBerMeasureEnd port ownBer farBer s
  | .fecSwitch port => Sys2Proof.Machine.execFecSwitch port s
  | .identityBlock port block => Sys2Proof.Machine.execIdentityBlock port block s
  | .identitySend port => Sys2Proof.Machine.execIdentitySend port s
  | .lstateBlock port block => Sys2Proof.Machine.execLstateBlock port block s
  | .lstateRefresh port => Sys2Proof.Machine.execLstateRefresh port s
  | .creditBlock port block => Sys2Proof.Machine.execCreditBlock port block s
  | .creditRefresh port => Sys2Proof.Machine.execCreditRefresh port s
  | .alignRound port good => Sys2Proof.Machine.execAlignRound port good s
  | .freezeIdleRx port => Sys2Proof.Machine.execFreezeIdleRx port s
  | .reservedBlock port code => Sys2Proof.Machine.execReservedBlock port code s
  | .expressPreemptSof port frame => Sys2Proof.Machine.execExpressPreemptSof port frame s
  | .contBlock port count cls => Sys2Proof.Machine.execContBlock port count cls s
  | .frameRxTimeout port => Sys2Proof.Machine.execFrameRxTimeout port s
  | .fecUncorrectable port lane => Sys2Proof.Machine.execFecUncorrectable port lane s
  | .laneSignalLoss port lane => Sys2Proof.Machine.execLaneSignalLoss port lane s
  | .fecLBerWindow port ber => Sys2Proof.Machine.execFecLBerWindow port ber s
  | .adaptAckTimeout port => Sys2Proof.Machine.execAdaptAckTimeout port s
  | .moduleReady port qualified offersApplication => Sys2Proof.Machine.execModuleReady port qualified offersApplication s
  | .moduleRemoval port => Sys2Proof.Machine.execModuleRemoval port s
  | .dataFrame port frame => Sys2Proof.Machine.execDataFrame port frame s
  | .egressGrant port => Sys2Proof.Machine.execEgressGrant port s
  | .frameResume port => Sys2Proof.Machine.execFrameResume port s
  | .portDrainEnd port => Sys2Proof.Machine.execPortDrainEnd port s
  | .auditTick site walk => Sys2Proof.Machine.execAuditTick site walk s
  | .fuseTrip site => Sys2Proof.Machine.execFuseTrip site s
  | .rehomeMapSwitch => Sys2Proof.Machine.execRehomeMapSwitch s
  | .slateBistDone site result => Sys2Proof.Machine.execSlateBistDone site result s
  | .lendStart site => Sys2Proof.Machine.execLendStart site s
  | .contribFrame port frame => Sys2Proof.Machine.execContribFrame port frame s
  | .contribEarlyHoldExpiry port => Sys2Proof.Machine.execContribEarlyHoldExpiry port s
  | .collectiveTimeout collective => Sys2Proof.Machine.execCollectiveTimeout collective s
  | .rampRelease => Sys2Proof.Machine.execRampRelease s
  | .loftRdFrame port frame => Sys2Proof.Machine.execLoftRdFrame port frame s
  | .loftWrFrame port frame => Sys2Proof.Machine.execLoftWrFrame port frame s
  | .loftAccessDone block ecc => Sys2Proof.Machine.execLoftAccessDone block ecc s
  | .loftScrubPass cartridge => Sys2Proof.Machine.execLoftScrubPass cartridge s
  | .regionSealDone => Sys2Proof.Machine.execRegionSealDone s
  | .resealDone handle => Sys2Proof.Machine.execResealDone handle s
  | .loftReinitDone => Sys2Proof.Machine.execLoftReinitDone s
  | .recordDurable => Sys2Proof.Machine.execRecordDurable s
  | .segmentSealTimeout => Sys2Proof.Machine.execSegmentSealTimeout s
  | .segmentSignDone r s_ => Sys2Proof.Machine.execSegmentSignDone r s_ s
  | .bankFault bank => Sys2Proof.Machine.execBankFault bank s
  | .bankResyncDone bank => Sys2Proof.Machine.execBankResyncDone bank s
  | .thatchPatrol bank read => Sys2Proof.Machine.execThatchPatrol bank read s
  | .journalExportDone => Sys2Proof.Machine.execJournalExportDone s
  | .replayCollectiveDone => Sys2Proof.Machine.execReplayCollectiveDone s
  | .heartbeat hb => Sys2Proof.Machine.execHeartbeat hb s
  | .heartbeatInterval => Sys2Proof.Machine.execHeartbeatInterval s
  | .divergedReport report => Sys2Proof.Machine.execDivergedReport report s
  | .selftestResult failA failB => Sys2Proof.Machine.execSelftestResult failA failB s
  | .voteTimeout => Sys2Proof.Machine.execVoteTimeout s
  | .eaveRestartRelease eave => Sys2Proof.Machine.execEaveRestartRelease eave s
  | .resyncDigestReport eave digest reference => Sys2Proof.Machine.execResyncDigestReport eave digest reference s
  | .roleSwapCheck => Sys2Proof.Machine.execRoleSwapCheck s
  | .roleSwapMarker => Sys2Proof.Machine.execRoleSwapMarker s
  | .roleSwapTimeout => Sys2Proof.Machine.execRoleSwapTimeout s
  | .finialWatchdogRestart reportA reportB => Sys2Proof.Machine.execFinialWatchdogRestart reportA reportB s
  | .inventoryWrite => Sys2Proof.Machine.execInventoryWrite s
  | .senseWord channel input => Sys2Proof.Machine.execSenseWord channel input s
  | .indeterminateTimeout channel => Sys2Proof.Machine.execIndeterminateTimeout channel s
  | .leakWindowExpiry channel => Sys2Proof.Machine.execLeakWindowExpiry channel s
  | .flowTrip => Sys2Proof.Machine.execFlowTrip s
  | .thermalTrip => Sys2Proof.Machine.execThermalTrip s
  | .calStartCheckEnd window => Sys2Proof.Machine.execCalStartCheckEnd window s
  | .calMeasurementEnd window => Sys2Proof.Machine.execCalMeasurementEnd window s
  | .calEndCheckEnd window => Sys2Proof.Machine.execCalEndCheckEnd window s
  | .aoutSelfCodeSwitch => Sys2Proof.Machine.execAoutSelfCodeSwitch s
  | .deglitchHoldEnd channel => Sys2Proof.Machine.execDeglitchHoldEnd channel s
  | .complianceFaultOnset channel cause => Sys2Proof.Machine.execComplianceFaultOnset channel cause s
  | .complianceFaultClear channel => Sys2Proof.Machine.execComplianceFaultClear channel s
  | .imgVerifyDone result => Sys2Proof.Machine.execImgVerifyDone result s
  | .rollSiteReady site => Sys2Proof.Machine.execRollSiteReady site s
  | .activationTimeout site => Sys2Proof.Machine.execActivationTimeout site s
  | .patrolCycleStart => Sys2Proof.Machine.execPatrolCycleStart s
  | .patrolSliceDue => Sys2Proof.Machine.execPatrolSliceDue s
  | .patrolNoticeEnd => Sys2Proof.Machine.execPatrolNoticeEnd s
  | .patrolSliceIsolate => Sys2Proof.Machine.execPatrolSliceIsolate s
  | .patrolDrainTimeout => Sys2Proof.Machine.execPatrolDrainTimeout s
  | .patrolTestDone pass => Sys2Proof.Machine.execPatrolTestDone pass s
  | .busbarRangeReturn => Sys2Proof.Machine.execBusbarRangeReturn s
  | .frzNRelease => Sys2Proof.Machine.execFrzNRelease s
  | .shelfOkReturn => Sys2Proof.Machine.execShelfOkReturn s
  | .gableCoreFault site => Sys2Proof.Machine.execGableCoreFault site s
  | .cartridgeFault cartridge => Sys2Proof.Machine.execCartridgeFault cartridge s
  | .scrubUncorrectable address => Sys2Proof.Machine.execScrubUncorrectable address s
  | .crossingQueueOverrun port => Sys2Proof.Machine.execCrossingQueueOverrun port s
  | .strayBlock port kind => Sys2Proof.Machine.execStrayBlock port kind s
  | .frameTypeError port frame => Sys2Proof.Machine.execFrameTypeError port frame s
  | .malformedPacket path fault bytes => Sys2Proof.Machine.execMalformedPacket path fault bytes s
  | .unassignedOpcode opcode p => Sys2Proof.Machine.execUnassignedOpcode opcode p s
  | .cartridgeMcuReady target => Sys2Proof.Machine.execCartridgeMcuReady target s

end Sys2Proof.Machine
end

