-- ==== Sys2Proof/Safety.lean ====
section
/-! DEFINITION. What the claims about the block speak of: a command that completes, a Batten packet that its
receiver accepts, the state in which it runs, the state after its reply, and the invariants of the block. -/

namespace Sys2Proof.Machine

/-! ### Batten packets that are next in their window (R287, Table 5.6) -/

/-- The state once a packet has reached its receiver and its originator's window is anchored (R1073). -/
def arrived (c : Instr) (p : Packet) (s : State) : State := anchor p (carry c p s).1

/-- A packet that reaches its receiver and passes every check before its window (R287, checks 1 and 2). -/
def reached (c : Instr) (p : Packet) (s : State) : Bool := (carry c p s).2 && reachesWindow c p (carry c p s).1

/-- The window that judges a packet: its originator's, or that of the quarantined Eave it comes through. -/
def keyOf (c : Instr) (p : Packet) (s : State) : Nat := windowKey p (arrived c p s)

/-- A packet that reaches its window with sequence H + 1, which nothing has marked. -/
def inTurn (c : Instr) (p : Packet) (s : State) : Bool := reached c p s && isNext c p (arrived c p s)

/-- The state once the sequence has been recorded (R257): checks 3 to 8 are made in it. -/
def recorded (c : Instr) (p : Packet) (s : State) : State := record (keyOf c p s) c p (arrived c p s)

/-- A packet in turn that passes checks 3 to 8 as far as they come before the command's own meaning, and whose sequence
is new to the unit that executes it too. -/
def accepted (c : Instr) (p : Packet) (s : State) : Bool :=
  inTurn c p s && (refusal (keyOf c p s) c p (recorded c p s)).isNone &&
    (keyOf c p s = p.originator.toNat || (judged p.originator.toNat c p (recorded c p s)).isNone)

/-- The state in which an accepted command runs: its sequence recorded, and its copies taken note of. -/
def base (c : Instr) (p : Packet) (s : State) : State := takeCopy (keyOf c p s) c p (recorded c p s)

/-- What follows a command that has run: the packets that waited for it in its windows, and its own buffers freed. -/
def followed (c : Instr) (p : Packet) (s t : State) : State := freePacket p (drainAfter (keyOf c p s) p t)

/-- The state `t` after the command's answer `a` has been kept and sent, and an ADMIN session's command has heard
the events before it. -/
def replied (c : Instr) (p : Packet) (s t : State) (a : Ans) : State :=
  let u := answer (syncFlags c p) (opcodeOf c) a t
  if fromAdmin p (recorded c p s) then hearBefore (recorded c p s).referee.nextEvent u else u

/-- The command runs to the state `t`, answers `a`, does `after` once the answer is sent, and held packets that
follow in its window run after it. -/
def Completes (c : Instr) (p : Packet) (s t : State) (a : Ans) (after : State → State) : Prop :=
  exec c s = .next (followed c p s (settleDue (after (replied c p s t a))))

/-- The command answers `a` and changes nothing but what every executed command changes. -/
def Reads (c : Instr) (p : Packet) (s : State) (a : Ans) : Prop := Completes c p s (base c p s) a id

/-- The command runs to the state `t` and answers the refusal `a`; nothing follows but held packets. -/
def Refuses (c : Instr) (p : Packet) (s t : State) (a : Ans) : Prop :=
  exec c s = .next (followed c p s (answer (syncFlags c p) (opcodeOf c) a t))

/-! ### Commands by what they act on -/

/-- Events of a port's link, and of what its output serves. -/
def portEvent : Instr → Bool
  | .portSignalDetect .. | .linkTrainingDone .. | .trainingTimeout .. | .portRetrainTimer .. | .berMeasureEnd ..
  | .fecSwitch .. | .identityBlock .. | .identitySend .. | .lstateBlock .. | .lstateRefresh .. | .creditBlock ..
  | .creditRefresh .. | .alignRound .. | .freezeIdleRx .. | .reservedBlock .. | .expressPreemptSof .. | .contBlock ..
  | .frameRxTimeout .. | .fecUncorrectable .. | .laneSignalLoss .. | .fecLBerWindow .. | .adaptAckTimeout ..
  | .moduleReady .. | .moduleRemoval .. | .egressGrant .. | .frameResume .. | .portDrainEnd ..
  | .crossingQueueOverrun .. | .strayBlock .. => true
  | _ => false

/-- The journal's own events. -/
def journalEvent_ : Instr → Bool
  | .recordDurable | .segmentSealTimeout | .segmentSignDone .. | .bankFault .. | .bankResyncDone .. | .thatchPatrol ..
  | .journalExportDone => true
  | _ => false

/-- Boundary-scan instructions. -/
def scanEvent : Instr → Bool
  | .extest .. | .samplePreload .. | .idcode .. | .clamp .. | .highz .. | .extestPulse .. | .extestTrain ..
  | .descriptorRead .. | .slateSel .. | .scanDump .. | .mbistRun .. | .tallyRead .. | .bypass .. | .tapReset => true
  | _ => false

/-- Timers of one analogue output. -/
def analogueTimer : Instr → Bool
  | .deglitchHoldEnd .. | .complianceFaultClear .. | .aoutSelfCodeSwitch | .calMeasurementEnd .. => true
  | _ => false

/-- Events of the shelf, its pins, the gate's alert and the Loft's re-initialisation. -/
def pinEvent : Instr → Bool
  | .busbarLow | .shelfFault | .shelfOkReturn | .slotIdChange .. | .coolantGateAlert | .loftReinitDone => true
  | _ => false

/-- Events of the tally that move no time. -/
def tallyEvent : Instr → Bool
  | .tallyPllLock | .tallySyncReturn | .ptpMessage .. | .markerNextWrite .. | .tallyRequest .. | .tallyResponse .. => true
  | _ => false

/-- What a port's receiver and its ordered sets do without losing the link. -/
def receiverEvent : Instr → Bool
  | .expressPreemptSof .. | .contBlock .. | .frameRxTimeout .. | .freezeIdleRx .. | .reservedBlock .. | .strayBlock ..
  | .creditBlock .. | .creditRefresh .. | .lstateBlock .. | .lstateRefresh .. | .identitySend .. | .moduleReady .. => true
  | _ => false

/-- Writes of the sideband bus other than RACK_ID, MARKER_NEXT and VOTE_ANSWER. -/
def sidebandEvent : Instr → Bool
  | .rowPosWrite .. | .eventAckWrite .. | .invSelWrite .. | .sidebandRegisterWrite .. => true
  | _ => false

/-- What happens to connections and sessions. -/
def connectionEvent : Instr → Bool
  | .tlsHandshake .. | .connectionClose .. | .sessionLingerExpiry .. => true
  | _ => false

/-- Events at which only time passes and counters are copied. -/
def clockEvent : Instr → Bool
  | .tallySlewStep | .counterSnapshot | .periodicSnapshot => true
  | _ => false

/-! ### Invariants -/

/-- The Loft's bytes are in their canonical form. -/
def LoftCanonical (s : State) : Prop := Memory.wf s.loft.cells = true

/-- Every tray has 160 ports, 36 sites and 36 roles of sites, 16 SENSE channels and 8 AOUT channels (02, 15, 16). -/
def Shaped (s : State) : Prop :=
  s.ports.length = 160 ∧ s.sites.length = 36 ∧ s.coping.sense.length = 16 ∧ s.coping.aout.length = 8

/-- A block that goes on: it answers a next state. -/
def Runs (o : Host.Outcome State Fault Refusal) : Prop := ∃ t, o = .next t

end Sys2Proof.Machine
end

