-- ==== Sys2Proof/Certificates/Slice0/Obligations.lean ====
section
/-! DEFINITION. The statements about the tray: what each family of commands does, the invariants of its state, and
the frames. -/

open Sys2Proof Sys2Proof.Machine

/-! ### Sessions, identity and parameters (Tables 6.5 and 6.6) -/

/-- Table 6.5, R261, R285, R286: each identity and session read, accepted, changes nothing of its own and answers OK
with the payload of its row; COMPLETION_READ answers an executed sequence with its kept reply, ACCEPTED while it runs
or waits, STALE for a skipped or forgotten sequence and RANGE with NOT_SEEN for one above H; a reply that a quarantined
Eave kept is read there. Choices and readings of the model in it: log entries 15, 18. -/
def Obligations.SessionReadsAnswer : Prop :=
  (∀ p s, accepted (.identity p) p s = true → let b := base (.identity p) p s
    Reads (.identity p) p s (ok (padTo 24 (orderCode b) ++ padTo 16 b.ident.serial ++ le 2 b.ident.stepping.toNat ++
      [0x10, 1, 1]))) ∧
  (∀ p s, accepted (.features p) p s = true →
    Reads (.features p) p s (ok (le 4 (featureWord (base (.features p) p s)) ++ zs 4))) ∧
  (∀ p s, accepted (.certRead p) p s = true → let cs := (base (.certRead p) p s).ident.certificates
    Reads (.certRead p) p s (ok (le 2 cs.length ++ zs 2 ++ cs.flatMap fun c => le 4 c.length ++ c))) ∧
  (∀ p s, accepted (.rolemapRead p) p s = true → let b := base (.rolemapRead p) p s
    Reads (.rolemapRead p) p s (ok (le 2 b.batten.roleMap.length ++ zs 2 ++ roleMapBytes b.batten.roleMap))) ∧
  (∀ (p : Packet) (s : State), accepted (.completionRead p) p s = true →
    let c : Instr := .completionRead p
    let b := base c p s
    let q := field p.body 0 8
    let own := windowOf (windowKey p b) b
    let w := if (lookup own.kept q).isSome then own else windowOf p.originator.toNat b
    (∀ d x r, lookup w.marks q = some (.executed d x) → w.running.contains q = false → lookup w.kept q = some r →
      Reads c p s (ok (keptBytes r))) ∧
    (∀ d x, lookup w.marks q = some (.executed d x) → w.running.contains q = true ∨ lookup w.kept q = none →
      Reads c p s (.done stAccepted 0 0 (((lookup w.kept q).map keptBytes).getD []))) ∧
    (∀ d i t, lookup w.marks q = some (.held d i t) → Reads c p s (.done stAccepted 0 0 [])) ∧
    (lookup w.marks q = some .skipped → Refuses c p s b (refuse stStale 0 0)) ∧
    (lookup w.marks q = none → w.highWater < q → Refuses c p s b (refuse stRange rNotSeen 0)) ∧
    (lookup w.marks q = none → 0 < q → q ≤ w.highWater → Refuses c p s b (refuse stStale 0 0)))

/-- R256, R273, R274: SESSION_OPEN on a connection whose certificate the role map lets have the role opens a new
session with an ID that no session has had and H = 0, or rejoins a live one and answers its H, on every connection of
the session; nothing else of the tray changes. Choices and readings of the model in it: log entries 8, 32. -/
def Obligations.SessionOpenBindsConnection : Prop :=
  ∀ (n : Nat) (k : Connection) (p : Packet) (s : State),
    p.path = .management n → connection n s = some k → eaveAnswers k.eave s = true →
    36 + p.body.length ≤ pathLimit p → headerFault p = none →
    originatorPermitted (.sessionOpen p) p s = true → openRefusal k p s = none →
    ((liveSession p.originator s).isSome = true →
      exec (.sessionOpen p) s = .next (answerHere p 0 stOk 0 0
        (le 4 p.originator.toNat ++ zs 4 ++ le 8 (windowOf p.originator.toNat s).highWater)
        (bindConnection n p.originator s))) ∧
    ((liveSession p.originator s).isSome = false →
      exec (.sessionOpen p) s = .next (answerHere p 0 stOk 0 0 (le 4 (newSessionId s) ++ zs 4 ++ le 8 0)
        (bindConnection n (BitVec.ofNat 32 (newSessionId s)) (newSession k p s).1)) ∧
      newSessionId s ∉ s.batten.usedIds ∧ 0x10000 ≤ newSessionId s ∧ newSessionId s ≤ 0xFFFFFFFE)

/-- R265-R267, R270, R272, R276, R280, R380: the TLS handshake (an offer that does not suit, or a client that the role
map does not know, is refused; the Eave presents its certificate to any offer that suits), a connection that closes, a
session that ends, and a new role map. Choices and readings of the model in it: log entries 16, 19. -/
def Obligations.SessionsBeginAndEnd : Prop :=
  (∀ conn e hello s, eaveAnswers e s = true → connection conn s = none →
    let t := emit (.serverCertificate conn (serverChain e s)) s
    (helloSuits hello = true → matching hello.fingerprint hello.issuers s ≠ [] →
      exec (.tlsHandshake conn e hello) s = .next { t with batten.connections := s.batten.connections ++
        [{ id := conn, eave := e, fingerprint := hello.fingerprint, issuers := hello.issuers, session := none }] }) ∧
    (helloSuits hello = true → matching hello.fingerprint hello.issuers s = [] →
      exec (.tlsHandshake conn e hello) s = .next (emit (.refusedHandshake conn) t)) ∧
    (helloSuits hello = false →
      exec (.tlsHandshake conn e hello) s = .next (emit (.refusedHandshake conn) s))) ∧
  (∀ conn k s, connection conn s = some k → exec (.connectionClose conn) s = .next (dropConnection k s)) ∧
  (∀ o x s, liveSession o s = some x → x.lingering = true →
    exec (.sessionLingerExpiry o) s = .next (endSession o s)) ∧
  (∀ p s, accepted (.sessionClose p) p s = true →
    Completes (.sessionClose p) p s (base (.sessionClose p) p s) (ok []) (endSession p.originator)) ∧
  (∀ p s, accepted (.rolemapWrite p) p s = true →
    let c : Instr := .rolemapWrite p
    let b := base c p s
    let es := roleEntries p.body
    let d := sha256 (roleMapBytes es)
    let t := { b with batten.roleMap := es }
    (es.any (fun e => e.role = .admin) = true →
      Completes c p s (journalFinial (paramBody 3 es.length p.originator.toNat (markTallyNat t) d t) t) (ok (digestBytes d))
        (rolemapWriteAfter p)) ∧
    (es.any (fun e => e.role = .admin) = false → Refuses c p s b (refuse stPrecond rLastAdmin 0)))

/-- R143, R149, R293-R303: staging, committing, discarding, reading and describing parameters; the sets of the earliest
tick take force together, after the snapshots of that tick (R151); at a tally mark the always-on units capture their
counters and apply what waits. Choices and readings of the model in it: log entries 7, 34, 98, 99. -/
def Obligations.ParametersStagedAndApplied : Prop :=
  (∀ p s, accepted (.paramStage p) p s = true →
    let c : Instr := .paramStage p
    let b := base c p s
    let es := stageEntries p.body
    let staged := es.foldl (fun m e => put e.1 e.2 m) (stagedOf p.originator b)
    ((∀ e ∈ es, entryFault e.1 e.2 b = none) →
      (staged.length ≤ 1024 →
        Completes c p s { b with batten.staged := put p.originator.toNat staged b.batten.staged }
          (ok (le 2 staged.length ++ zs 6)) id) ∧
      (1024 < staged.length → Refuses c p s b (refuse stBusy rSetFull 0))) ∧
    (∀ i st, (h : i < es.length) → (∀ j, (g : j < i) → entryFault es[j].1 es[j].2 b = none) →
      entryFault es[i].1 es[i].2 b = some st → Refuses c p s b (refuse st rEntry i))) ∧
  (∀ p s, accepted (.paramRead p) p s = true →
    let c : Instr := .paramRead p
    let b := base c p s
    let ids := (List.range (field p.body 0 2)).map fun i => field p.body (4 + 4 * i) 4
    (∀ i ∈ ids, unreadable i b = none) →
      Reads c p s (ok (ids.flatMap fun i => readEntry i (stagedOf p.originator b) b))) ∧
  (∀ p s i, accepted (.paramDescribe p) p s = true →
    let b := base (.paramDescribe p) p s
    paramInfo b (field p.body 0 4) = some i → paramAbsent (field p.body 0 4) b = false →
      Reads (.paramDescribe p) p s (ok (le 1 (bit i.signed) ++ [2] ++ le 1 (bit i.retained) ++ zs 5 ++ le 8 i.min ++
        le 8 i.max ++ le 8 i.default))) ∧
  (∀ p s, accepted (.paramCommit p) p s = true →
    let c : Instr := .paramCommit p
    let b := base c p s
    let o := p.originator.toNat
    let tick := tickUsed (field p.body 0 8) b
    let set := stagedOf p.originator b
    field p.body 0 8 ≤ tallyNat b + 2 ^ 40 → set ≠ [] → setFault set b = none →
    (∀ x ∈ b.batten.scheduled, x.originator ≠ p.originator) → conflicts p.originator tick set b = false →
      Completes c p s { bumpFree b with batten := { b.batten with
          staged := erase o b.batten.staged
          scheduled := b.batten.scheduled ++ [{ originator := p.originator, tick := tick, entries := set }]
          appliedBy := b.batten.appliedBy.filter (· != o) } } (ok (le 8 tick)) id) ∧
  (∀ p s, accepted (.paramDiscard p) p s = true →
    let c : Instr := .paramDiscard p
    let b := base c p s
    let o := p.originator.toNat
    let had := b.batten.scheduled.any fun x => x.originator = p.originator
    stagedOf p.originator b ≠ [] ∨ had = true ∨ b.batten.appliedBy.contains o = false →
      Completes c p s { b with batten := { b.batten with
          staged := erase o b.batten.staged
          scheduled := b.batten.scheduled.filter fun x => x.originator != p.originator
          appliedBy := if had then b.batten.appliedBy.filter (· != o) else b.batten.appliedBy } }
        (ok (le 2 (stagedOf p.originator b).length ++ le 1 (bit had) ++ zs 5)) id) ∧
  (∀ s t, marksSent s = true → earliest s = some t →
    let u := snapsBefore (if t < tallyNat s then tallyNat s + 1 else t) s
    exec .paramSetApply s = .next ((sortBy (fun a b => a.tick ≤ b.tick)
      (u.batten.scheduled.filter fun x => x.tick ≤ tallyNat u)).foldl (fun v x => applySet x v) u)) ∧
  (∀ id v s i, paramInfo s id = some i → (setParam id v s).params =
    if v = i.default then erase id s.params else put id v s.params) ∧
  (∀ s, marksSent s = true →
    let m := nextMark s
    let u := captureOthers (emit (.tallyMark m) (advanceTo m { s with tally.lastMark := some m }))
    let v := (u.coping.pendingParams.filter fun x => x.2.2 ≤ m).foldl (fun t x => applyMarked x.1 x.2.1 t)
      { u with coping.pendingParams := u.coping.pendingParams.filter fun x => m < x.2.2 }
    exec .tallyMark s = .next (activationMark (if v.coping.syncPending then syncAll v else v)))

/-! ### Ports and links (Table 6.7, 07) -/

/-- Table 6.7, R440, R491, R519, R520: reading the ports, the plan and an optical module, and loading a plan; PORT_UP,
PORT_DOWN and PORT_ADAPT are admitted, and the port starts, drains, aborts or asks its partner once the ACCEPTED reply
is out. Choices and readings of the model in it: log entries 37, 39, 40, 107, 119. -/
def Obligations.PortCommands : Prop :=
  (∀ p s, accepted (.portStatus p) p s = true →
    let b := base (.portStatus p) p s
    let l := listReply p.path 8 16 160 ((portTargets p b).map fun n => portEntry n b)
    Reads (.portStatus p) p s (ok (le 2 l.1.length ++ le 1 (bit l.2) ++ zs 5 ++ l.1.flatten))) ∧
  (∀ p s, accepted (.cablePlanRead p) p s = true →
    let b := base (.cablePlanRead p) p s
    let l := listReply p.path 48 24 160 ((portTargets p b).map fun n => planEntry n b)
    Reads (.cablePlanRead p) p s (ok (le 1 (bit b.planLoaded) ++ le 1 (param pPlanPolicy b) ++ zs 6 ++
      digestBytes (planDigest b) ++ le 2 l.1.length ++ le 1 (bit l.2) ++ zs 5 ++ l.1.flatten))) ∧
  (∀ p s, accepted (.opticRead p) p s = true →
    let c : Instr := .opticRead p
    let b := base c p s
    let cage := 128 + 8 * (p.inst.toNat - 16) + field p.body 0 1
    let off := field p.body 3 1
    let len := field p.body 4 1
    ((port cage b).moduleReady = true →
      Completes c p s (bumpFree b) (ok ((List.range len).map fun i =>
        Config.moduleByte b.freeCount ((cage * 256 + field p.body 2 1) * 256 + off + i))) id) ∧
    ((port cage b).moduleReady = false → Refuses c p s b (refuse stPrecond rNoModule 0))) ∧
  (∀ p s, accepted (.cablePlanLoad p) p s = true →
    let c : Instr := .cablePlanLoad p
    let b := base c p s
    let es := planEntries p.body
    planFault es b = none → ¬(param pPlanPolicy b = 1 ∧ b.mode = .ledger) →
      let t := { b with plan := es, planLoaded := true }
      let t := journalWafer (paramBody 2 160 p.originator.toNat (tallyNat t) (planDigest t) t) t
      let t := if param pPlanPolicy t = 1 then t else forEach (List.range 160) recheckPort t
      Completes c p s t (ok (digestBytes (planDigest t))) id) ∧
  (∀ p s, accepted (.portUp p) p s = true →
    Completes (.portUp p) p s (startOp (.portUp p.inst.toNat) p 0x21 (base (.portUp p) p s)) (.accept [])
      (portUpAfter p)) ∧
  (∀ p s, accepted (.portDown p) p s = true →
    Completes (.portDown p) p s
      (startOp (.portDown p.inst.toNat (field p.body 0 1 = 1)) p 0x22 (base (.portDown p) p s)) (.accept [])
      (portDownAfter p)) ∧
  (∀ p s, accepted (.portAdapt p) p s = true → let b := base (.portAdapt p) p s
    ((port p.inst.toNat b).state = .up →
      Completes (.portAdapt p) p s (startOp (.portAdapt p.inst.toNat) p 0x23 b) (.accept []) (portAdaptAfter p)) ∧
    ((port p.inst.toNat b).state ≠ .up → Refuses (.portAdapt p) p s b (refuse stPrecond rNoPartner 0))) ∧
  (∀ p s, ((port p.inst.toNat s).state = .disabled ∨ (port p.inst.toNat s).state = .down) →
    portHold p.inst.toNat s = none →
    portUpAfter p s = portTo p.inst.toNat .down 0 (setPort p.inst.toNat Port.untrained s)) ∧
  (∀ p s, (port p.inst.toNat s).state = .up → (port p.inst.toNat s).adapt = .none →
    portAdaptAfter p s = sendLstate p.inst.toNat 1 0 (setPort p.inst.toNat (fun q => { q with adapt := .asked }) s))

/-- Table 7.11, R108-R111, R113, R130, R388, R429, R430, R436, R438: how a port trains, and the width and FEC that it
takes, a lane that it lost staying out of use; three identical IDENTITY blocks settle the far identity; a port in
IDENTITY is then MISWIRED for a duplicate peer, for no plan or for a mismatch, and goes on to WAITING for a match.
Choices and readings of the model in it: log entries 38, 40, 107. -/
def Obligations.PortsTrainAndCheckPlan : Prop :=
  (∀ n s, (port n s).state = .down → mayTrain s = true → portFitted n s = true → portHold n s = none →
    exec (.portSignalDetect n) s =
      .next (portTo n .training 0 (setPort n (fun q => { q.untrained with step := 1, round := q.round }) s)) ∧
    exec (.portRetrainTimer n true) s =
      .next (portTo n .training 0 (setPort n (fun q => { q.untrained with step := 1, round := q.round }) s)) ∧
    exec (.portRetrainTimer n false) s = .next (settlePortUp n (portTo n .down rNoPartner s))) ∧
  (∀ n own far fecL s, mayTrain s = true → (port n s).state = .training → (port n s).step < 3 →
    let own' := own &&& ~~~(port n s).lostLanes
    (own' &&& far ≠ 0 →
      exec (.linkTrainingDone n own far fecL) s = .next (sendLstate n 0 0 (setPort n (fun q => { q with
        width := (widthOf (own' &&& far)).1, lanes := (widthOf (own' &&& far)).2, ownLanes := own', farFecL := fecL
        fecL := false, step := 3 }) s))) ∧
    (own' &&& far = 0 → exec (.linkTrainingDone n own far fecL) s = .next (trainingFailed n s))) ∧
  (∀ n s, mayTrain s = true → (port n s).state = .training →
    exec (.trainingTimeout n) s = .next (settlePortUp n (adaptFailed n (portOff n rNoPartner s)))) ∧
  (∀ n own far s, mayTrain s = true → (port n s).state = .training → (port n s).step = 3 →
    (port n s).farSelectBad = false →
    let t := setPort n (fun q => { q with ownBer := own, farBer := far }) s
    (selectsFecL n own far t = true → exec (.berMeasureEnd n own far) s =
      .next (sendLstate n 3 ((port n s).round + 1).toNat
        (setPort n (fun q => { q with step := 5, switchRound := (port n s).round + 1 }) t))) ∧
    (selectsFecL n own far t = false → exec (.berMeasureEnd n own far) s = .next (enterIdentity n t))) ∧
  (∀ n s, mayTrain s = true → (port n s).state = .training → (port n s).step = 5 → (port n s).farSelectBad = false →
    exec (.fecSwitch n) s = .next (enterIdentity n (setPort n (fun q => { q with fecL := true }) s))) ∧
  (∀ n (blk : IdentityBlock) s, waferLive s = true → trained n s = true → (port n s).state ≠ .training →
    blk.kind.toNat < 2 →
    let k := if (port n s).idBlock = some blk then (port n s).idCount + 1 else 1
    let t := setPort n (fun q => { q with idBlock := some blk, idCount := min k 3, freezeIdle := false }) s
    (k < 3 → exec (.identityBlock n blk) s = .next t) ∧
    (3 ≤ k → exec (.identityBlock n blk) s = .next (identityKnown n blk t))) ∧
  (∀ n blk s,
    (∀ q, sameIdentity n blk s = some q →
      planCheck n blk s = enterMiswired n rDuplicatePeer (enterMiswired q rDuplicatePeer s)) ∧
    (sameIdentity n blk s = none → param pPlanPolicy s ≠ 1 →
      (s.planLoaded = false → planCheck n blk s = enterMiswired n rNoPlan s) ∧
      (s.planLoaded = true → planMatches (s.plan.getD n 0) blk = false → planCheck n blk s = enterMiswired n 0 s) ∧
      (s.planLoaded = true → planMatches (s.plan.getD n 0) blk = true → planCheck n blk s = enterWaiting n s)) ∧
    ((port n s).state = .identity →
      (port n (enterMiswired n 0 s)).state = .miswired ∧
      (s.tally.state ≠ .acquiring → (port n (enterWaiting n s)).state = .up) ∧
      (s.tally.state = .acquiring → (port n (enterWaiting n s)).state = .waiting)))

/-- R388: after its training a port has the widest of all four lanes, lanes 0-1, lanes 2-3 and one lane that both ends
can use (a lane that the port lost is not usable until R438 lets it be); at width 2 it prefers lanes 0-1, and at width
1 the lowest usable lane. -/
def Obligations.WidthIsWidest : Prop :=
  ∀ (n : Nat) (own far : BitVec 4) (fecL : Bool) (s t : State), n < s.ports.length → mayTrain s = true →
    (port n s).state = .training → (port n s).step < 3 → own &&& ~~~(port n s).lostLanes &&& far ≠ 0 →
    exec (.linkTrainingDone n own far fecL) s = .next t →
    let q := port n t
    let usable := own &&& ~~~(port n s).lostLanes &&& far
    let lanes (v : BitVec 4) := ((List.range 4).filter fun i => v.getLsbD i).length
    q.width = lanes q.lanes ∧ q.lanes &&& usable = q.lanes ∧ q.lanes ∈ [15#4, 3#4, 12#4, 1#4, 2#4, 4#4, 8#4] ∧
    (∀ v ∈ [15#4, 3#4, 12#4, 1#4, 2#4, 4#4, 8#4], v &&& usable = v → lanes v ≤ q.width) ∧
    (q.width = 2 → 3#4 &&& usable = 3#4 → q.lanes = 3#4) ∧
    (q.width = 1 → ∀ v ∈ [1#4, 2#4, 4#4, 8#4], v &&& usable = v → q.lanes.toNat ≤ v.toNat)

/-- Tables 7.7-7.9: the ordered sets that a port sends when their refresh is due, and what it takes from the far end's.
Choices and readings of the model in it: log entry 38. -/
def Obligations.OrderedSetsOfPorts : Prop :=
  (∀ n s, waferLive s = true →
    ((port n s).state = .identity ∧ rackIdValid s = true ∨ (port n s).state = .waiting ∨ (port n s).state = .up) →
    exec (.identitySend n) s = .next (emit (.identity n (ownIdentity n s)) s)) ∧
  (∀ n s, waferLive s = true → trained n s = true →
    let q := port n s
    (q.adapt = .asked → exec (.lstateRefresh n) s = .next (emit (.lstate n (lstateOf n 1 0 s)) s)) ∧
    (q.adapt ≠ .asked → q.state = .training → q.step = 5 →
      exec (.lstateRefresh n) s = .next (emit (.lstate n (lstateOf n 3 q.switchRound.toNat s)) s)) ∧
    (q.adapt ≠ .asked → ¬(q.state = .training ∧ q.step = 5) →
      exec (.lstateRefresh n) s = .next (emit (.lstate n (lstateOf n 0 0 s)) s))) ∧
  (∀ n s, waferLive s = true → (port n s).state = .up →
    exec (.creditRefresh n) s = .next (emit (.credit n (creditBlockOf (port n s))) s)) ∧
  (∀ n (b : LstateBlock) s, waferLive s = true → trained n s = true →
    let t := setPort n (fun q => { q with
      farFecL := b.fecOffer.getLsbD 1, farBer := b.ber, farSelectBad := decide (2 ≤ b.fecSelect.toNat)
      freezeIdle := false }) s
    ((port n s).state ≠ .up → exec (.lstateBlock n b) s = .next t) ∧
    ((port n s).state = .up → b.request = 1 → n < s.ports.length →
      exec (.lstateBlock n b) s = .next (adaptDrain n (sendLstate n 2 0 t))) ∧
    ((port n s).state = .up → b.request = 2 → (port n s).adapt = .asked → n < s.ports.length →
      exec (.lstateBlock n b) s = .next (adaptDrain n t))) ∧
  (∀ n (b : CreditBlock) s, waferLive s = true → ((port n s).state = .up ∨ (port n s).state = .draining) →
    exec (.creditBlock n b) s = .next (takeGrant n 7 b.c7.toNat (takeGrant n 3 b.c3.toNat (takeGrant n 2 b.c2.toNat
      (takeGrant n 1 b.c1.toNat (takeGrant n 0 b.c0.toNat (setPort n
        (fun q => { q with holdIn := b.hold.truncate 5, freezeIdle := false }) s))))))) ∧
  (∀ n s, waferLive s = true → (port n s).adapt = .asked →
    exec (.adaptAckTimeout n) s = .next (finishAll (isAdaptOp n) stPrecond rNoPartner 0 []
      (setPort n (fun q => { q with adapt := .none }) s)))

/-- R456: a grant that would leave more than 32,767 credits outstanding is cut to 32,767 and counted. -/
def Obligations.GrantNeverExceedsLimit : Prop :=
  ∀ n cls g s, n < s.ports.length → cls ∈ [0, 1, 2, 3, 7] → g < 65536 →
    let t := takeGrant n cls g s
    (((port n t).grantIn.get cls + 65536 - (port n t).usedOut.get cls) % 65536 ≤ 32767) ∧
    (port n t).usedOut = (port n s).usedOut ∧
    ((g + 65536 - (port n s).usedOut.get cls) % 65536 ≤ 32767 →
      (port n t).grantIn.get cls = g ∧ t.counters = s.counters) ∧
    (32767 < (g + 65536 - (port n s).usedOut.get cls) % 65536 →
      ((port n t).grantIn.get cls + 65536 - (port n t).usedOut.get cls) % 65536 = 32767 ∧
      counter (cPort n 0x0F) t = (counter (cPort n 0x0F) s + 1) % 2 ^ 64)

/-- R397-R399, R437, R139, R444-R448: what loses a link: the second bad ALIGN round in a row, an active lane's signal,
FEC-L above 1e-6, a crossing-queue overrun and four uncorrectable codewords in a row; a module that becomes ready is
told its application, where it offers it, and lets its port train, and one that is removed loses the link and leaves
the cage empty. Choices and readings of the model in it: log entries 37, 38, 119, 121. -/
def Obligations.LinksAreLost : Prop :=
  (∀ n good s, waferLive s = true → trained n s = true →
    let t := sendAlign n s
    (good = true → exec (.alignRound n good) s = .next (setPort n (fun q => { q with
      badAligns := 0, freezeIdle := false }) t)) ∧
    (good = false → (port n s).freezeIdle = true → exec (.alignRound n good) s = .next t) ∧
    (good = false → (port n s).freezeIdle = false → (port n s).badAligns = 0 →
      exec (.alignRound n good) s = .next (setPort n (fun q => { q with badAligns := 1 }) t)) ∧
    (good = false → (port n s).freezeIdle = false → 1 ≤ (port n s).badAligns →
      exec (.alignRound n good) s = .next (linkLost n 0 t))) ∧
  (∀ n lane s, waferLive s = true → trained n s = true → (port n s).lanes.getLsbD lane = true →
    exec (.laneSignalLoss n lane) s = .next (linkLost n 0
      (setPort n (fun q => { q with lostLanes := q.lostLanes ||| (1#4 <<< lane) }) s))) ∧
  (∀ n (ber : U32) s, waferLive s = true → trained n s = true → (port n s).fecL = true → 1000000 < ber.toNat →
    exec (.fecLBerWindow n ber) s = .next (linkLost n 0 (setPort n (fun q => { q with fecSOnly := true }) s))) ∧
  (∀ n s, waferLive s = true → trained n s = true →
    exec (.crossingQueueOverrun n) s = .next (linkLost n rClockFault (count (cPort n 0x11) s))) ∧
  (∀ n (x : LaneFault) s, waferLive s = true → trained n s = true → (port n s).lanes.getLsbD x.lane = true →
    let t := errorClass 5 (count (cPort n 0x0C) (discardParked n (discardOpen n s)))
    (4 ≤ x.consecutive → exec (.fecUncorrectable n x) s = .next (linkLost n 0 t)) ∧
    (x.consecutive < 4 → exec (.fecUncorrectable n x) s = .next t)) ∧
  (∀ n q o s, 128 ≤ n → portFitted n s = true → opticalRail s = true →
    exec (.moduleReady n q o) s = .next (tryTrain n (refreshHold n (setPort n (fun x => { x with
      moduleReady := true, moduleQualified := q, moduleOffers := o })
        (if o then emit (.moduleSelect n 0 4 212500) s else s))))) ∧
  (∀ n s, 128 ≤ n → portFitted n s = true →
    let t := setPort n (fun x => { x with moduleReady := false, moduleQualified := false, moduleOffers := false }) s
    exec (.moduleRemoval n) s = .next (refreshHold n (if waferLive t && trained n t then linkLost n 0 t
      else if (port n t).state = .training then trainingFailed n t else t)))

/-- Table 7.8a, R419-R421, R453: the receiver's cases: preemption, resumption, FREEZE_IDLE, reserved and stray blocks,
and a frame that does not end. Choices and readings of the model in it: log entry 38. -/
def Obligations.ReceiverCases : Prop :=
  (∀ n f s, receives n s = true → (port n s).parked = none → (∀ o, (port n s).openRx = some o → o.cls ≠ 7) →
    let o := (preempted n f s).1
    let t := (preempted n f s).2
    (4 ≤ o.blocksSeen → 2 ≤ o.payloadLeft → exec (.expressPreemptSof n f) s =
      .next (count (cPort n 0x19) (setPort n (fun q => { q with openRx := none, parked := some o }) t))) ∧
    ((o.blocksSeen < 4 ∨ o.payloadLeft < 2) → exec (.expressPreemptSof n f) s =
      .next (errorClass 4 (count (cPort n 7)
        (discardOpen n (setPort n (fun q => { q with openRx := some o }) t)))))) ∧
  (∀ n (k : BitVec 2) (cls : Byte) o s, receives n s = true → (port n s).openRx = none → (port n s).parked = some o →
    (k.toNat = (o.fragment + 1) % 4 → cls.toNat = o.cls → exec (.contBlock n k cls) s =
      .next (setPort n (fun q => { q with parked := none, openRx := some { o with fragment := k.toNat } }) s)) ∧
    (¬(k.toNat = (o.fragment + 1) % 4 ∧ cls.toNat = o.cls) → exec (.contBlock n k cls) s =
      .next (errorClass 4 (count (cPort n 6) (discardParked n s))))) ∧
  (∀ n s, receives n s = true →
    let t := count (cPort n 0x10) s
    exec (.frameRxTimeout n) s =
      .next (if (port n t).openRx.isSome then discardOpen n t else discardParked n t)) ∧
  (∀ n s, waferLive s = true → trained n s = true → exec (.freezeIdleRx n) s =
    .next (countBy (cPort n 0x16) (bit (port n s).openRx.isSome + bit (port n s).parked.isSome)
      (setPort n (fun q => { q with freezeIdle := true, discarding := false })
        (discardParked n (discardOpen n s))))) ∧
  (∀ n (code : Byte) s, waferLive s = true → trained n s = true → knownBlock code.toNat = false →
    let t := setPort n (fun q => { q with freezeIdle := false }) (count (cPort n 0x0F) s)
    exec (.reservedBlock n code) s =
      .next (if (port n t).openRx.isSome then discardOpen n (count (cPort n 0x14) t) else t)) ∧
  (∀ n kind s, waferLive s = true → trained n s = true → (port n s).openRx = none →
    ((port n s).parked.isSome = true →
      exec (.strayBlock n kind) s = .next (setPort n (fun q => { q with discarding := decide (kind = .data ∨ kind = .cont) })
        (errorClass 4 (count (cPort n 6) (discardParked n s))))) ∧
    ((port n s).parked = none → kind = .idle → exec (.strayBlock n kind) s =
      .next (setPort n (fun q => { q with discarding := false }) s)) ∧
    ((port n s).parked = none → kind ≠ .idle → (port n s).discarding = false →
      exec (.strayBlock n kind) s = .next (count (cPort n 0x17) s)) ∧
    ((port n s).parked = none → kind ≠ .idle → (port n s).discarding = true → exec (.strayBlock n kind) s =
      .next (setPort n (fun q => { q with discarding := decide (kind ≠ .eof) }) s)))

/-! ### Switch core (Table 6.8, 08) -/

/-- Table 6.8, R91, R99, R342, R343, R497-R502, R584, R836: TOPOLOGY_READ, DORMER_STATUS and SKYLIGHT_READ;
SLATE_ISOLATE isolates a serving slate once it is admitted (a roll in progress goes on without it) and refuses any
other; SLATE_RESTORE is taken up in LINKS and READY alone; the leaked-buffer audit, a tripped fuse and an essential
fault of a slate isolate it. Choices and readings of the model in it: log entries 28, 29, 49, 50, 108. -/
def Obligations.SlatesAndSwitchCore : Prop :=
  (∀ p s, accepted (.topologyRead p) p s = true →
    let b := base (.topologyRead p) p s
    let ds := detoursInUse b
    Reads (.topologyRead p) p s (ok ((List.range 36).flatMap (fun n => siteEntry n b) ++
      (List.range 160).flatMap (fun q => byteOr (if portFitted q b then servingSite q b else none)) ++
      le 2 ds.length ++ zs 2 ++ ds.flatMap fun d => le 1 d.1 ++ le 1 d.2.1 ++ le 1 d.2.2 ++ zs 1))) ∧
  (∀ p s, accepted (.dormerStatus p) p s = true →
    let b := base (.dormerStatus p) p s
    Reads (.dormerStatus p) p s (ok ((List.range 8).flatMap fun n =>
      le 1 n ++ le 1 (param (pDormer n 0) b) ++ le 2 (param (pDormer n 5) b) ++
        le 8 (b.switch.dormers.getD n {}).copies ++ le 8 (b.switch.dormers.getD n {}).dropped))) ∧
  (∀ p s, accepted (.skylightRead p) p s = true →
    let b := base (.skylightRead p) p s
    let l := listReply p.path 8 144 (field p.body 0 2) ((site p.inst.toNat b).ring.map sampleEntry)
    Reads (.skylightRead p) p s (ok (le 2 l.1.length ++ le 1 (bit l.2) ++ zs 5 ++ l.1.flatten))) ∧
  (∀ p s, accepted (.slateIsolate p) p s = true →
    let c : Instr := .slateIsolate p
    let b := base c p s
    (isServing p.inst.toNat b = true →
      Completes c p s (startOp (.slateIsolate p.inst.toNat) p 0x3C b) (.accept [])
        (isolate p.inst.toNat rIsolateCmd .isolated)) ∧
    (isServing p.inst.toNat b = false → Refuses c p s b (refuse stPrecond rNotServing 0))) ∧
  (∀ p s, accepted (.slateRestore p) p s = true →
    let c : Instr := .slateRestore p
    let b := base c p s
    (b.power.phase = .links ∨ b.power.phase = .ready →
      Completes c p s (startOp (.slateRestore p.inst.toNat) p 0x3D b) (.accept []) (tryRestore p.inst.toNat)) ∧
    (b.power.phase ≠ .links → b.power.phase ≠ .ready → Refuses c p s b (refusePhase b))) ∧
  (∀ n s, hasOp (isRestoreOp n) s = true → defective n s = false → trippedTwice n s = false →
    restoreWaits n s = false → forwards n s = false →
    tryRestore n s = slateRailOn n (setSite n (fun t => { t with restoreWaiting := false, bistRunning := true })
      (leaveRoll n s))) ∧
  (∀ n s, slateRail n s = true →
    exec (.fuseTrip n) s = .next (isolate n rFuseTrip (if s.power.banksMounted then .isolated else .failed) (count (cFinial 6)
      (setSite n (fun t => { t with fuseTrips := t.fuseTrips ++ [s.now], bistPassed := false }) s)))) ∧
  (∀ n s, waferLive s = true → forwards n s = true →
    exec (.gableCoreFault n) s = .next (isolate n rCoreFault .isolated s)) ∧
  (∀ n s, waferLive s = true → forwards n s = true → auditMismatch n s = true ∨ (site n s).walkPending = true →
    exec (.auditTick n .doubleReference) s = .next (isolate n rAudit .isolated (errorClass 2 s)) ∧
    (∀ cand, (site n s).walkPending = true → (site n s).prevCandidates = cand →
      exec (.auditTick n (.candidates cand)) s = .next (count (cSlate n 8) (countBy (cSlate n 9) cand.length
        (setSite n (fun t => { t with free := t.free + cand.length, walkPending := false, prevCandidates := [] })
          (errorClass 2 s))))) ∧
    (∀ cand, ¬((site n s).walkPending = true ∧ (site n s).prevCandidates = cand) →
      exec (.auditTick n (.candidates cand)) s = .next (count (cSlate n 8)
        (setSite n (fun t => { t with prevCandidates := cand, walkPending := !cand.isEmpty }) (errorClass 2 s))))) ∧
  (∀ n s, waferLive s = true → forwards n s = true → auditMismatch n s = false → (site n s).walkPending = false →
    ∀ w, exec (.auditTick n w) s = .next s) ∧
  (∀ n cause st s, (s.firmware.activation = none → isolate n cause st s = isolateSite n cause st s) ∧
    (s.firmware.activation ≠ none → isolate n cause st s = settleActivations (rollNext (isolateSite n cause st s))))

/-- R404-R407, R413, R414, R417, R424, R462-R464, R473, Table 7.8a: a frame opens on a port when its header passes, and
only one whose end passes too goes on; the first check that it fails decides its counter, its credits are used and
returned, and it goes no further; the rest of a frame that has come in part ends the frame that the port has open, is
absorbed, or is stray; a DATA frame for an output that carries traffic is queued on the slate that serves its input,
for any other output it goes to the gutter, and a lossy frame above its limit is dropped at the tail. Choices and
readings of the model in it: log entries 38, 120. -/
def Obligations.FramesScreenedAndQueued : Prop :=
  (∀ n f s, waferLive s = true →
    let t := if (port n s).state = .up ∨ (port n s).state = .draining then newSof n (f.header.cls.toNat % 8) s else s
    let u := if f.rest then frameRest n f s else frameStart n f t
    exec (.dataFrame n f) s = .next u ∧ exec (.loftRdFrame n f) s = .next u ∧ exec (.loftWrFrame n f) s = .next u ∧
      exec (.frameTypeError n f) s = .next u ∧ exec (.contribFrame n f) s = .next (settleResults u)) ∧
  (∀ n f s,
    (∀ o, (port n s).openRx = some o →
      frameRest n f s = frameEnd n f o (setPort n (fun q => { q with openRx := none }) s)) ∧
    ((port n s).openRx = none → (port n s).discarding = true →
      frameRest n f s = setPort n (fun q => { q with discarding := false }) s) ∧
    ((port n s).openRx = none → (port n s).discarding = false → frameRest n f s = count (cPort n 0x17) s)) ∧
  (∀ n f s, f.eof ≠ .pending →
    let c := f.header.cls.toNat % 8
    let k := creditsOf f.header.length.toNat
    let absorb (t : State) : State := setPort n (fun q => { q with discarding := q.discarding || false }) t
    (headerCheck n f s = .notUp → frameStart n f s = count (cPort n 0x17) s) ∧
    (headerCheck n f s = .header → frameStart n f s = absorb (count (cPort n 0x13) s)) ∧
    (headerCheck n f s = .framing → frameStart n f s = absorb (discardFrame n 0x14 c k (admitFrame n f s))) ∧
    (headerCheck n f s = .type → frameStart n f s = absorb (discardFrame n 0x0E c k (admitFrame n f s))) ∧
    (headerCheck n f s = .credit →
      frameStart n f s = errorClass 3 (absorb (discardFrame n 0x0D c k (admitFrame n f s)))) ∧
    (headerCheck n f s = .good → let t := useCredits n c k s
      let d := dataQFrame n ((servingSite n t).getD 0) f.header f.payload
      (goesCut n d (lossyRoom n d t) = false → frameStart n f s = frameEnd n f (openOf n f t) t) ∧
      (goesCut n d (lossyRoom n d t) = true →
        frameStart n f s = frameEnd n f (openOf n f t) (startCut d (lossyRoom n d t))))) ∧
  (∀ n f s, f.eof = .pending → headerCheck n f s = .good →
    let t := useCredits n (f.header.cls.toNat % 8) (creditsOf f.header.length.toNat) s
    let d := dataQFrame n ((servingSite n t).getD 0) f.header f.payload
    frameStart n f s = setPort n (fun q => { q with openRx := some (openOf n f t) })
      (if goesCut n d (lossyRoom n d t) then startCut d (lossyRoom n d t) else t)) ∧
  (∀ n f (o : OpenFrame) s, let t := admitFrame n f s
    let gone (code : Nat) : State := dropOpen n { o with frame := none } (count (cPort n code) t)
    (endCheck f = .good → o.cutTo = none → frameEnd n f o s = dispatch n f t) ∧
    (∀ out, endCheck f = .good → o.cutTo = some out →
      frameEnd n f o s = completeSend out (dataQFrame n ((servingSite n t).getD 0) f.header f.payload) t) ∧
    (endCheck f = .stomp → frameEnd n f o s = gone 9) ∧
    (endCheck f = .crc → frameEnd n f o s = gone (if o.cls = 7 then 8 else 5)) ∧
    (endCheck f = .framing → frameEnd n f o s = gone 0x14)) ∧
  (∀ n c k code (s : State), n < s.ports.length → n < 160 → (port n s).state = .up → rehoming n s = false →
    credited c = true → (port n s).stale.get c = 0 →
    ((port n (discardFrame n code c k s)).grantOut.get c + 65536 -
        (port n (discardFrame n code c k s)).usedIn.get c) % 65536 =
      ((port n s).grantOut.get c + 65536 - (port n s).usedIn.get c) % 65536) ∧
  (∀ n (h : FrameHeader) payload s,
    let at_ := (servingSite n s).getD 0
    let f := dataQFrame n at_ h payload
    let t := lossyRoom n f s
    ((port f.output s).state ≠ .up → (port f.output s).state ≠ .draining →
      dataIn n h payload s = discardArrival at_ n f.output f.cls (port f.output s).cause.toNat h.srcEndpoint.toNat
        h.tag.toNat f.shingles s) ∧
    (((port f.output s).state = .up ∨ (port f.output s).state = .draining) → f.cls < 4 ∨ f.cls = 7 →
      dataIn n h payload s = enqueue f (count (cSlate at_ 0x0D) (count (cSlate at_ 1) s)) ∧
      (dataIn n h payload s).switch.queue = s.switch.queue ++ [f]) ∧
    (((port f.output s).state = .up ∨ (port f.output s).state = .draining) → 4 ≤ f.cls → f.cls ≤ 6 →
      (dropsTail n f t = true →
        dataIn n h payload s = count (cTriple n f.output f.cls 0x88) (count (cSlate at_ 3) t)) ∧
      (dropsTail n f t = false →
        dataIn n h payload s = enqueue f (count (cSlate at_ 0x0D) (count (cSlate at_ 1) t)))))

/-- R477-R481, R421, R441, R491: an output that may serve sends the frame that its scheduler chooses; a suspended frame
resumes once no express head is ready; a drain ends in DISABLED, or in training for an adaptation; only an eligible
head is granted: no hold lies on its class, its credits suffice, and the mesh offers a path to the slate that serves
its output; an output whose crossing queue to the transmitter is full (Table 3.2, R138) is not granted. Choices and
readings of the model in it: log entries 48, 114. -/
def Obligations.OutputsServeEligibleHeads : Prop :=
  (∀ n f ds turn s, outputServes n s = true → choose n s = some (f, ds, turn) →
    exec (.egressGrant n) s = .next (settleResults (sendFrame n f ds turn s))) ∧
  (∀ n s, outputServes n s = false ∨ choose n s = none → exec (.egressGrant n) s = .next s) ∧
  (∀ n f s, nextHead n 7 s = some f → choose n s = some (f, (port n s).deficits, (port n s).turn)) ∧
  (∀ n t s, (port n s).suspended = some t → outputServes n s = true → nextHead n 7 s = none →
    exec (.frameResume n) s = .next (settleResults (emit (.cont n t.frame.cls ((t.fragment + 1) % 4))
      (setPort n (fun q => { q with
        suspended := none, sending := some { t with fragment := (t.fragment + 1) % 4, since := s.now } }) s)))) ∧
  (∀ n s, waferLive s = true → (port n s).state = .draining →
    ((port n s).adapt = .none → exec (.portDrainEnd n) s = .next (portFlushed n 0 rAdminDown s)) ∧
    ((port n s).adapt ≠ .none → exec (.portDrainEnd n) s = .next (startTraining n 0 (setPort n
      (fun q => { q with adapt := .retraining, fecSOnly := false, lostLanes := 0 })
      (stopPort n .draining 0 rAdminDown 0 s))))) ∧
  (∀ n cls s f, nextHead n cls s = some f →
    f ∈ s.switch.queue ∧ f.output = n ∧ f.cls = cls ∧
    (credited cls = true → (port n s).holdIn.getLsbD (holdIndex cls) = false ∧
      f.shingles ≤ ((port n s).grantIn.get cls + 65536 - (port n s).usedOut.get cls) % 65536) ∧
    ∃ m path, servingSite f.output s = some m ∧ meshPath f.site m s = some path) ∧
  (∀ n s, crossingFull .fabToPtx n s = true → expressSuspends n s = false → exec (.egressGrant n) s = .next s)

/-- R84: a path that the mesh gives a frame begins at its slate, each hop is between neighbours over an open link, and
every site inside it forwards; where a minimal path is clear, the path ends at the target after the fewest hops.
Choices and readings of the model in it: log entry 47. -/
def Obligations.MeshPathsAreClear : Prop :=
  ∀ a b s path, a < 36 → b < 36 → meshPath a b s = some path →
    path.head? = some a ∧ (∀ n ∈ path.tail.dropLast, forwards n s = true) ∧ linksOpen s path = true ∧
    (∀ i, (h : i + 1 < path.length) → path[i + 1] ∈ neighbours path[i]) ∧
    (pathClear (xyPath a b) s = true ∨ pathClear (yxPath a b) s = true →
      path.getLast? = some b ∧ path.length = manhattan a b + 1)

/-! ### Patrol and boundary scan (18) -/

/-- Table 18.2, R990-R995, R1022, R1023: a cycle begins, a slice is given notice, drained, isolated and tested, or
skipped; PATROL_STATUS reads the cycle. Choices and readings of the model in it: log entry 64. -/
def Obligations.PatrolCyclesAndSlices : Prop :=
  (∀ s, waferLive s = true → s.patrol.started = true →
    let start := if s.patrol.period = 0 then s.patrol.cycleStart else s.patrol.cycleStart + s.patrol.period
    let u := advanceTo start s
    let sites := (List.range 36).filter fun n => patrolled n u
    let links := (List.range 60).filter fun l => sites.contains (linkEnds l).1 && sites.contains (linkEnds l).2
    let n := 569 * sites.length + links.length
    let period := param pPatrolCycle u * 1125000000000
    exec .patrolCycleStart s = .next (count (cPatrol 4) { u with patrol := { u.patrol with
      cycleStart := start, sites := sites, links := links, count := n, next := 0, done := 0, period := period
      interval := period / max 1 n, noticeMs := param pPatrolNotice u } })) ∧
  (∀ s x, waferLive s = true → s.patrol.current = none → s.patrol.next < s.patrol.count →
    sliceAt s.patrol.next s = some x →
    let u := advanceTo (s.patrol.cycleStart + s.patrol.next * s.patrol.interval)
      { s with patrol.next := s.patrol.next + 1 }
    (param pPatrolEnable u = 0 ∨ listed x u = false → exec .patrolSliceDue s = .next u) ∧
    (param pPatrolEnable u ≠ 0 → listed x u = true → skipped x u = true →
      exec .patrolSliceDue s = .next (count (cPatrol 2) u)) ∧
    (param pPatrolEnable u ≠ 0 → listed x u = true → skipped x u = false →
      (∀ l, x = .link l → exec .patrolSliceDue s = .next { u with
        patrol.current := some (x, .notice), patrol.noticeAt := tallyNat u + s.patrol.noticeMs * tkPerMs }) ∧
      (∀ n k, x = .unit n k → exec .patrolSliceDue s = .next { u with
        reduction.underNotice :=
          if k < 512 then u.reduction.underNotice ++ [(n, k)] else u.reduction.underNotice
        patrol.current := some (x, .notice), patrol.noticeAt := tallyNat u + s.patrol.noticeMs * tkPerMs }))) ∧
  (∀ s x, waferLive s = true → listed x s = true →
    (s.patrol.current = some (x, .notice) → exec .patrolNoticeEnd s =
      .next (advanceTo s.patrol.noticeAt { s with patrol.current := some (x, .drainWait) })) ∧
    (s.patrol.current = some (x, .drainWait) → sliceDrained x s ≠ some false →
      (∀ l, x = .link l →
        exec .patrolSliceIsolate s = .next { s with patrol.current := some (x, .testing) }) ∧
      (∀ n k, x = .unit n k → exec .patrolSliceIsolate s = .next
        (if 552 ≤ k then swapRam n (k - 552) { s with patrol.current := some (x, .testing) }
         else { s with patrol.current := some (x, .testing) }))) ∧
    (s.patrol.current = some (x, .drainWait) → sliceDrained x s ≠ some true →
      exec .patrolDrainTimeout s = .next (count (cPatrol 2) (endSlice x s))) ∧
    (s.patrol.current = some (x, .testing) → ∀ pass,
      let u := count (cPatrol 1) (endSlice x s)
      let u := { u with patrol.done := u.patrol.done + 1 }
      exec (.patrolTestDone pass) s = .next (if pass then u else failSlice x (count (cPatrol 3) u)))) ∧
  (∀ p s, accepted (.patrolStatus p) p s = true →
    let b := base (.patrolStatus p) p s
    Reads (.patrolStatus p) p s (ok (le 8 b.patrol.cycleStart ++ le 4 b.patrol.done ++ le 4 b.patrol.count ++
      le 4 (isolatedSlices b) ++ zs 4)))

/-- Tables 18.3-18.6, R1011, R1012, R1017, R1018: what each instruction of a TAP that is present loads, reads and
captures, outside a snapshot (a boundary or scan register captures a free value); a destructive instruction that is not
permitted is refused and counted, and the TAP takes BYPASS; on the wafer of a frozen tray a permitted one marks the
freeze as destructive. Choices and readings of the model in it: log entries 66, 67. -/
def Obligations.TapInstructions : Prop :=
  (∀ t s, tapAccepts t s = true →
    exec (.samplePreload t) s = .next (bumpFree (loadTap t 0x01 (Config.scanData s.freeCount) s)) ∧
    exec (.idcode t) s = .next (loadTap t 0x02 (tapIdcode t s) s) ∧
    exec (.bypass t) s = .next (loadTap t 0xFF 0 s) ∧
    (tapPermits t s = true → ¬(t = .wafer ∧ s.freezeUnit.frozen = true) →
      exec (.extest t) s = .next (bumpFree (loadTap t 0x00 (Config.scanData s.freeCount) s)) ∧
      exec (.clamp t) s = .next (loadTap t 0x03 0 s) ∧
      exec (.highz t) s = .next (loadTap t 0x04 0 s) ∧
      (t ≠ .coping →
        exec (.extestPulse t) s = .next (bumpFree (loadTap t 0x08 (Config.scanData s.freeCount) s)) ∧
        exec (.extestTrain t) s = .next (bumpFree (loadTap t 0x09 (Config.scanData s.freeCount) s))))) ∧
  (∀ s, tapAccepts .wafer s = true →
    exec (.descriptorRead .wafer) s = .next (loadTap .wafer 0x20 (descriptorBits s) s) ∧
    exec (.tallyRead .wafer) s = .next (loadTap .wafer 0x24 (tallyNat s) s) ∧
    (∀ v : Byte, exec (.slateSel .wafer v) s = .next (loadTap .wafer 0x21 v.toNat { s with
      patrol.selected := if v.toNat < 36 then some v.toNat else none })) ∧
    (∀ n, s.patrol.selected = some n → tapPermits .wafer s = true → s.freezeUnit.frozen = false →
      exec (.scanDump .wafer) s = .next (bumpFree (loadTap .wafer 0x22 (Config.scanData s.freeCount) s)) ∧
      (s.patrol.mbistSite = none → (site n s).bistRunning = false →
        exec (.mbistRun .wafer) s = .next (setSite n Site.underBist
          (loadTap .wafer 0x23 0 { s with patrol := { s.patrol with
            mbistSite := some n, mbistWait := false, mbistDone := false } }))))) ∧
  (∀ s, s.power.aonUp = true → s.referee.booted = true → rimRail s = true →
    exec .tapReset s = .next (loadTap .wafer 0x02 (tapIdcode .wafer s) (loadTap .eaveB 0x02 0x20E01A6F
      (loadTap .eaveA 0x02 0x20E01A6F (loadTap .coping 0x02 0x10C01A6F s))))) ∧
  (∀ t s, tapAccepts t s = true →
    (tapPermits t s = false → ∀ c ∈ [Instr.extest t, Instr.clamp t, Instr.highz t],
      exec c s = .next (setTap t { ir := 0xFF, refused := true, dr := 0 } (count (cPatrol 0x10) s))) ∧
    (t = .wafer → s.freezeUnit.frozen = true → ∀ c ∈ [Instr.extest t, Instr.clamp t, Instr.highz t], ∀ u,
      exec c s = .next u → u.freezeUnit.destructive = true ∧ u.freezeUnit.frozen = true))

/-! ### Reduction (Table 6.9, 09) -/

/-- Table 6.9, R345, R347, R534-R537, R571-R580, R683: a group is defined and deleted; a decision is opened over sealed
regions and closed once no collective of it is in flight; reeds and engines are switched off and on; with a LOCKED
tally and a journal that accepts records, COLLECTIVE_OPEN admits a collective for which a yealm is eligible,
COLLECTIVE_STATUS reads it, and COLLECTIVE_CANCEL of one that nothing is about to release aborts it. Choices and
readings of the model in it: log entries 33, 51, 54, 106. -/
def Obligations.ReductionCommands : Prop :=
  (∀ p s, accepted (.groupDefine p) p s = true →
    let c : Instr := .groupDefine p
    let b := base c p s
    let ms := groupMembers p.body
    let g : Group := { id := field p.body 0 4, members := ms, powerHeavy := decide (field p.body 6 1 % 2 = 1)
                       stepW := field p.body 8 4, record := 0 }
    (∀ r, badMember ms b = some r → Refuses c p s b (refuse stRange rEntry r)) ∧
    (badMember ms b = none → (∃ x ∈ b.reduction.groups, x.id = g.id) → Refuses c p s b (refuse stPrecond rExists 0)) ∧
    (badMember ms b = none → (∀ x ∈ b.reduction.groups, x.id ≠ g.id) → b.reduction.groups.length < 4096 →
      Completes c p s (journalChain (commandBuilder p.path b) (groupBody g 0 :: memberParts g)
        { b with reduction.groups := b.reduction.groups ++ [g] }) (ok []) id)) ∧
  (∀ p s g, accepted (.groupDelete p) p s = true →
    let c : Instr := .groupDelete p
    let b := base c p s
    (b.reduction.groups.find? fun x => x.id = field p.body 0 4) = some g →
    ((∀ x ∈ b.reduction.collectives, x.group.id ≠ g.id) →
      Completes c p s (journalCommand p (groupBody g 1)
        { b with reduction.groups := b.reduction.groups.filter fun x => x.id != g.id }) (ok []) id) ∧
    ((∃ x ∈ b.reduction.collectives, x.group.id = g.id) →
      Refuses c p s b (refuse stBusy rInFlight
        (sat 16 (b.reduction.collectives.filter fun x => x.group.id = g.id).length)))) ∧
  (∀ p s, accepted (.decisionOpen p) p s = true →
    let c : Instr := .decisionOpen p
    let b := base c p s
    let hs := (List.range (field p.body 8 2)).map fun i => field p.body (16 + 4 * i) 4
    let rs := hs.filterMap fun h => sealedRegion h b
    let d : Decision := { id := field p.body 0 8, regions := rs.map fun r => (r.handle, r.digest), forced := false
                          poisoned := rs.any Region.poisonSeen, record := 0 }
    (∀ h ∈ hs, (sealedRegion h b).isSome = true) → (∀ x ∈ b.reduction.decisions, x.id ≠ d.id) →
      Completes c p s (journalChain (commandBuilder p.path b) (decisionBody d 0 0 :: regionParts d)
        { b with reduction.decisions := b.reduction.decisions ++ [d] }) (ok []) id) ∧
  (∀ p s d, accepted (.decisionClose p) p s = true →
    let c : Instr := .decisionClose p
    let b := base c p s
    (b.reduction.decisions.find? fun x => x.id = field p.body 0 8) = some d →
    ((∀ x ∈ b.reduction.collectives, x.decision ≠ d.id) →
      Completes c p s (journalCommand p (decisionBody d 1 0)
        { b with reduction.decisions := b.reduction.decisions.filter fun x => x.id != d.id }) (ok []) id) ∧
    ((∃ x ∈ b.reduction.collectives, x.decision = d.id) →
      Refuses c p s b (refuse stPrecond rInFlight
        (sat 16 (b.reduction.collectives.filter fun x => x.decision = d.id).length)))) ∧
  (∀ p s, accepted (.reedDisable p) p s = true →
    Completes (.reedDisable p) p s (startOp (.reedDisable p.inst.toNat 0) p 0x48
      (setSite p.inst.toNat (fun t => { t with reedsGrace := true }) (base (.reedDisable p) p s))) (.accept [])
      (reedDisableAfter p)) ∧
  (∀ p s, accepted (.reedEnable p) p s = true →
    Completes (.reedEnable p) p s (setSite p.inst.toNat (fun t => { t with reedsDisabled := false, reedsGrace := false })
      (finishAll (isReedOp p.inst.toNat) stAborted 0 0 [] (base (.reedEnable p) p s))) (ok []) id) ∧
  (∀ p s, accepted (.engineDisable p) p s = true →
    Completes (.engineDisable p) p s (startOp (.engineDisable p.inst.toNat) p 0x4A
      (setEngine p.inst.toNat (fun e => { e with disabled := true }) (base (.engineDisable p) p s))) (.accept [])
      (engineDisableAfter p)) ∧
  (∀ p s, accepted (.engineEnable p) p s = true →
    Completes (.engineEnable p) p s
      (setEngine p.inst.toNat (fun e => { e with disabled := false }) (base (.engineEnable p) p s)) (ok []) id) ∧
  (∀ p s g, accepted (.collectiveOpen p) p s = true →
    let c : Instr := .collectiveOpen p
    let b := base c p s
    let d := describeCollective p.body g b
    let ys := assignYealms g d.elements d.op d.canonical d.input b
    (b.reduction.groups.find? fun x => x.id = field p.body 16 4) = some g → d.decision = 0 →
    (∀ x ∈ b.reduction.collectives, x.id ≠ d.id) → b.tally.state = .locked → b.power.powerFail = false →
    b.power.quiesced = false → ledgerHalt b = none → g.powerHeavy = false → b.reduction.collectives.length < 65536 →
    ys ≠ [] →
      Runs (exec c s) ∧
      Completes c p s (matchTrigger d.id 0 (startOp (.collective d.id) p 0x42
        { b with reduction.collectives :=
          b.reduction.collectives ++ [{ d with yealms := ys, home := (ys.head?.map Prod.fst).getD 0 }] }))
        (.accept (le 2 ys.length ++ zs 6)) (collectiveOpenAfter p)) ∧
  (∀ p s d, accepted (.collectiveStatus p) p s = true →
    let b := base (.collectiveStatus p) p s
    ((b.reduction.collectives ++ b.reduction.done).find? fun x => x.id = field p.body 0 8) = some d →
      Runs (exec (.collectiveStatus p) s) ∧
      Reads (.collectiveStatus p) p s (ok (le 1 d.state.code ++ le 1 d.flags.toNat ++ le 2 d.classes.length ++ zs 4 ++
        le 8 d.admission))) ∧
  (∀ p s, accepted (.collectiveCancel p) p s = true →
    let b := base (.collectiveCancel p) p s
    b.reduction.rampQueue = [] → (∀ x ∈ b.reduction.collectives, x.lastWaiting = []) →
    (findCollective (field p.body 0 8) b).isSome = true →
      Runs (exec (.collectiveCancel p) s) ∧
      Completes (.collectiveCancel p) p s (abortCollective (field p.body 0 8) 1 0 0 b) (ok []) id)

/-- R541, R543, R548, R564, R683, R714, R832: a collective that passes its checks is admitted with the yealms chosen
for it, and one that fails them is refused in their order; its status, and its cancellation, which meets a release that
is due at its tick as already made (R377). Choices and readings of the model in it: log entries 53, 54, 106. -/
def Obligations.CollectivesAdmitted : Prop :=
  (∀ p s g ys, accepted (.collectiveOpen p) p s = true →
    let c : Instr := .collectiveOpen p
    let b := base c p s
    let d := describeCollective p.body g b
    let d' := { d with yealms := ys, home := (ys.head?.map Prod.fst).getD 0 }
    (b.reduction.groups.find? fun x => x.id = field p.body 16 4) = some g →
    (field p.body 8 8 = 0 ∨ ∃ x ∈ b.reduction.decisions, x.id = field p.body 8 8) →
    admission d b = .inr ys →
      Completes c p s (matchTrigger d.id 0 (startOp (.collective d.id) p 0x42
        { b with reduction.collectives := b.reduction.collectives ++ [d'] })) (.accept (le 2 ys.length ++ zs 6))
        fun t => takeEarly d.id (takeFlushed d.id t)) ∧
  (∀ p s d, accepted (.collectiveStatus p) p s = true →
    let b := base (.collectiveStatus p) p s
    ((b.reduction.collectives ++ b.reduction.done).find? fun x => x.id = field p.body 0 8) = some d →
      Reads (.collectiveStatus p) p s (ok (le 1 d.state.code ++ le 1 d.flags.toNat ++ le 2 d.classes.length ++ zs 4 ++
        le 8 d.admission))) ∧
  (∀ p s, accepted (.collectiveCancel p) p s = true →
    let c : Instr := .collectiveCancel p
    let b := base c p s
    let n := field p.body 0 8
    let t := settleResults (rampLoop b.reduction.rampQueue.length b)
    ((findCollective n t).isSome = true → Completes c p s (abortCollective n 1 0 0 t) (ok []) id) ∧
    (findCollective n t = none → (∃ x ∈ t.reduction.done, x.id = n ∧ x.state = .released) →
      Refuses c p s t (refuse stPrecond rReleased 0)) ∧
    (findCollective n t = none → (∀ x ∈ t.reduction.done, x.id = n → x.state ≠ .released) →
      Refuses c p s t (refuse stRange rNotFound 0))) ∧
  (∀ (c : Collective) (s : State),
    ((∃ d ∈ s.reduction.collectives, d.id = c.id) → admission c s = .inl (refuse stPrecond rExists 0)) ∧
    ((∀ d ∈ s.reduction.collectives, d.id ≠ c.id) →
      (tallyForbids s = true → admission c s = .inl (refuse stPrecond rTally s.tally.state.code)) ∧
      (tallyForbids s = false → s.power.powerFail = true ∨ s.power.quiesced = true →
        admission c s = .inl (refusePhase s)) ∧
      (tallyForbids s = false → s.power.powerFail = false → s.power.quiesced = false →
        (∀ r, ledgerHalt s = some r → admission c s = .inl (refuse stLedgerHalt r 0)) ∧
        (ledgerHalt s = none → c.group.powerHeavy = true → param pHold s * 1048576 < c.elements * c.output.bytes →
          admission c s = .inl (refuse stBusy rNoSpace 0)))) ∧
    (∀ ys, admission c s = .inr ys → ys ≠ [] ∧ ys.length ≤ param pMaxYealms s ∧
      ∀ y ∈ ys, siteEligible y.1 c.op c.canonical s = true ∧ yealmEligible y.1 y.2 (param pDepth s) s = true))

/-- R117-R121, R552, R570, R576: an early frame that waited too long, a collective that timed out, the ramp governor,
and a site that begins to lend. Choices and readings of the model in it: log entry 53. -/
def Obligations.ReductionEvents : Prop :=
  (∀ n s e, waferLive s = true → (s.reduction.early.find? fun x => x.port = n) = some e →
    exec (.contribEarlyHoldExpiry n) s = .next (count (cReed e.site 2)
      (returnCredits e.port (e.header.cls.toNat % 8) (creditsOf e.payload.length)
        { s with reduction.early := s.reduction.early.erase e }))) ∧
  (∀ (n : U64) s c, waferLive s = true → findCollective n.toNat s = some c → param pTimeout s ≠ 0 →
    exec (.collectiveTimeout n) s = .next (abortCollective c.id 9 0 0 (count (cReed c.home 9)
      (advanceTo (c.admission + param pTimeout s * tkPerMs) s)))) ∧
  (∀ s n c, waferLive s = true → s.reduction.rampQueue = [n] → findCollective n s = some c →
    let need := min (c.group.stepW * 1000000000) (param pRampBurst s * 1000000000000)
    (param pRampEnable s ≠ 0 → need ≤ s.reduction.tokens →
      exec .rampRelease s = .next (releaseHeld n { s with reduction := { s.reduction with
        tokens := s.reduction.tokens - need, rampQueue := [] } })) ∧
    (param pRampEnable s ≠ 0 → s.reduction.tokens < need → exec .rampRelease s = .next s) ∧
    (param pRampEnable s = 0 → exec .rampRelease s = .next (releaseHeld n { s with reduction.rampQueue := [] }))) ∧
  (∀ n s, waferLive s = true → param pLend s = 1 → s.mode = .openMode → (site n s).state = .idle →
    isFree n s = true → rolling s = false → hasReeds s = true →
    exec (.lendStart n) s = .next (setSite n (fun t => { t with state := .lending }) s))

/-- R18, R24, R46: the result of an element depends neither on the order in which its members' contributions arrive nor
on how the register takes them: any two arrival orders of the same contributions, one per rank, round to the same
result and flags, in every operation, format and mode. -/
def Obligations.ReductionIgnoresArrivalOrder : Prop :=
  ∀ (op : ReduceOp) (canon : Bool) (fi fo : Format) (n i : Nat) (cs ds : List (Nat × Nat)),
    cs.Perm ds → (cs.map Prod.fst).Nodup →
    let take (xs : List (Nat × Nat)) := xs.foldl (fun r x => contribute op canon fi x.1 x.2 r) { index := i }
    registerResult op canon fi fo n (take cs) = registerResult op canon fi fo n (take ds)

/-- R24, R25: the long register is exact: after at most 512 finite contributions of one format it holds their sum in
steps of 2^-149, with no overflow. -/
def Obligations.LongRegisterIsExact : Prop :=
  ∀ (f : Format) (i : Nat) (xs : List Nat), xs.length ≤ 512 →
    (∀ x ∈ xs, ∃ s m e, decode f x = .finite s m e) →
    let value (x : Nat) : Int := match decode f x with
      | .finite s m e => (if s then -1 else 1) * (m * 2 ^ (e + 149).toNat)
      | _ => 0
    accInt (xs.foldl (fun r x => accumulate f x r) { index := i }) = (xs.map value).sum

/-! ### Loft (Table 6.10, 10) -/

/-- Table 6.10, R351, R611-R617, R622, R626: regions are allocated at the lowest free base and zero-filled, listed, and
found by digest; a region is sealed or freed once nothing refers to it, and a forced free does not wait. Choices and
readings of the model in it: log entry 55. -/
def Obligations.RegionCommands : Prop :=
  (∀ p s a, accepted (.regionAlloc p) p s = true →
    let c : Instr := .regionAlloc p
    let b := base c p s
    let size := field p.body 0 8
    let h := b.loft.nextHandle
    loftRail b = true → b.power.loftReady = true → b.loft.regions.length < 16384 → h < 2 ^ 32 →
    freeBase size b = some a →
      let t := clearRange a size b
      Completes c p s { t with loft := { t.loft with
        regions := t.loft.regions ++ [{ handle := h, kind := .working, base := a, size := size, digest := 0
                                        poisonSeen := false, resealing := false }], nextHandle := h + 1 } }
        (ok (le 4 h ++ zs 4 ++ le 8 a)) id) ∧
  (∀ p s r, accepted (.regionInfo p) p s = true →
    let b := base (.regionInfo p) p s
    findRegion (field p.body 0 4) b = some r → Reads (.regionInfo p) p s (ok (regionEntry r b))) ∧
  (∀ p s, accepted (.regionList p) p s = true →
    let b := base (.regionList p) p s
    let rs := sortBy (fun x y => x.handle ≤ y.handle) (b.loft.regions.filter fun r => field p.body 0 4 ≤ r.handle)
    let l := listReply p.path 8 64 (field p.body 4 2) (rs.map fun r => regionEntry r b)
    Reads (.regionList p) p s (ok (le 2 l.1.length ++ le 1 (bit l.2) ++ zs 5 ++ l.1.flatten))) ∧
  (∀ p s r, accepted (.regionFind p) p s = true →
    let b := base (.regionFind p) p s
    let d := digestOf (sub p.body 0 32)
    r ∈ b.loft.regions → r.kind = .isSealed → r.digest = d →
    (∀ x ∈ b.loft.regions, x.kind = .isSealed → x.digest = d → r.handle ≤ x.handle) →
      Reads (.regionFind p) p s (ok (le 4 r.handle ++ zs 4))) ∧
  (∀ p s r, accepted (.regionSeal p) p s = true →
    let c : Instr := .regionSeal p
    let b := base c p s
    findRegion (field p.body 0 4) b = some r →
    (r.kind ≠ .working → Refuses c p s b (refuse stPrecond rNotWorking 0)) ∧
    (r.kind = .working → refCount r.handle b ≠ 0 →
      Refuses c p s b (refuse stBusy rRefcount (sat 16 (refCount r.handle b)))) ∧
    (r.kind = .working → refCount r.handle b = 0 →
      let t := storeRegion { r with kind := .sealing } b
      Completes c p s (startOp (.seal r.handle) p 0x58 { t with loft.seals := t.loft.seals ++ [r.handle] })
        (.accept []) id)) ∧
  (∀ p s r, accepted (.regionFree p) p s = true →
    let c : Instr := .regionFree p
    let b := base c p s
    let force := field p.body 4 1 % 2 = 1
    findRegion (field p.body 0 4) b = some r →
    (r.kind = .sealing ∨ (¬force ∧ refCount r.handle b ≠ 0) →
      Refuses c p s b (refuse stBusy rRefcount (sat 16 (refCount r.handle b)))) ∧
    (r.kind ≠ .sealing → force ∨ refCount r.handle b = 0 → Completes c p s (freeRegion r force b) (ok []) id))

/-- R611-R613, R627: a range that is allocated lies in the Loft on a 128 KiB boundary, overlaps no region, and reads as
zero bytes with no poison. Choices and readings of the model in it: log entry 55. -/
def Obligations.AllocatedRangeIsFreshAndDisjoint : Prop :=
  (∀ size s a, freeBase size s = some a →
    a % 131072 = 0 ∧ a + size ≤ loftSize s ∧
    (∀ r ∈ s.loft.regions, a + size ≤ r.base ∨ r.base + r.size ≤ a) ∧
    (∀ a', a' % 131072 = 0 → a' + size ≤ loftSize s →
      (∀ r ∈ s.loft.regions, a' + size ≤ r.base ∨ r.base + r.size ≤ a') → a ≤ a')) ∧
  (∀ a size s, LoftCanonical s →
    LoftCanonical (clearRange a size s) ∧
    (∀ i, a ≤ i → i < a + size → readByte i (clearRange a size s).loft.cells = 0) ∧
    (∀ i, i < a ∨ a + size ≤ i → readByte i (clearRange a size s).loft.cells = readByte i s.loft.cells))

/-- R605-R608, R628-R633, R642, R647, Table 3.2: what a Loft block, its scrub and its seals finish, and the Loft after
its rail has come back; an access that completes lets the refused requests behind it be answered and the requests that
wait for its block in. Choices and readings of the model in it: log entries 58, 114, 116. -/
def Obligations.LoftEvents : Prop :=
  (∀ n ecc r s, waferLive s = true → (s.loft.requests.find? fun q => q.block = n && !q.refused) = some r →
    let t := match ecc with
      | .clean => s
      | .corrected => count (cLoft n 4) s
      | .uncorrectable line => poisonLine line s
    let t := returnCredits r.port (r.header.cls.toNat % 8) (creditsOf r.header.length.toNat)
      { t with loft.requests := t.loft.requests.erase r }
    let t := if r.write then finishWrite r t else finishRead r t
    exec (.loftAccessDone n ecc) s = .next (pumpLoft n t.loft.waiting.length (answerRefused [] t.loft.requests t))) ∧
  (∀ n s, waferLive s = true → loftCartFaulted n s = false →
    exec (.loftScrubPass n) s = .next (count (cLoft n 8) s)) ∧
  (∀ a s, waferLive s = true → a < loftSize s → loftCartFaulted (cartOf a) s = false →
    exec (.scrubUncorrectable a) s = .next (poisonLine (a / 64 * 64) s)) ∧
  (∀ h rest r s, waferLive s = true → s.loft.seals = h :: rest → findRegion h s = some r →
    let d := regionDigest r s
    let done : Region := { r with kind := .isSealed, digest := d, poisonSeen := r.poisonSeen || regionPoisoned r s }
    let t := storeRegion done { s with loft.seals := rest }
    let t := journalRegion done 0 1 0 (engineWork (digestSite (cartOf r.base) t) 2 r.size t)
    exec .regionSealDone s = .next (finishAll (isSealOp h) stOk 0 0 (digestBytes d)
      ((poisonedLines r t).foldl (fun u l => journalRegion done 3 2 l u) t))) ∧
  (∀ (h : U32) r s, waferLive s = true → findRegion h.toNat s = some r → r.resealing = true →
    let d := regionDigest r s
    (d = r.digest → exec (.resealDone h) s = .next (journalRegion { r with kind := .isSealed, resealing := false } 4 1 0
      (storeRegion { r with kind := .isSealed, resealing := false } s))) ∧
    (d ≠ r.digest → exec (.resealDone h) s = .next (journalRegion
      { r with kind := .isSealed, resealing := false, poisonSeen := true, digest := d } 5 1 0
      (poisonDecisions r.handle (storeRegion { r with kind := .isSealed, resealing := false, poisonSeen := true } s))))) ∧
  (∀ s, loftRail s = true → hasLoft s = true →
    exec .loftReinitDone s = .next { s with power.loftReady := true })

/-- R604, R606: a write that completes stores its bytes at its address and nowhere else, and a whole line that it
covers is poisoned no more; one that a forced free or a failed cartridge overtook stores nothing. Choices and readings
of the model in it: log entry 56. -/
def Obligations.LoftWritesLandOnlyInRange : Prop :=
  ∀ (r : LoftRequest) (s : State),
    let t := finishWrite r s
    (r.forced = true ∨ r.lost = true → t.loft.cells = s.loft.cells ∧ t.loft.poisonLines = s.loft.poisonLines) ∧
    (r.forced = false → r.lost = false →
      (LoftCanonical s → LoftCanonical t ∧
        (∀ i, (h : i < r.data.length) → readByte (r.address + i) t.loft.cells = r.data[i]) ∧
        (∀ a, a < r.address ∨ r.address + r.data.length ≤ a → readByte a t.loft.cells = readByte a s.loft.cells)) ∧
      (∀ l, l ∈ t.loft.poisonLines ↔
        l ∈ s.loft.poisonLines ∧ ¬(l ∈ linesOf r.address r.length ∧ r.address ≤ l ∧ l + 64 ≤ r.address + r.length)))

/-! ### Journal and replay (Table 6.11, 12) -/

/-- Table 6.11: JOURNAL_STATUS, JOURNAL_EXPORT, JOURNAL_ACK, JOURNAL_MARK and BANK_SET, and the admission, the status
and the cancellation of a replay. Choices and readings of the model in it: log entries 70, 71, 72, 118. -/
def Obligations.JournalCommands : Prop :=
  (∀ p s, accepted (.journalStatus p) p s = true →
    let b := base (.journalStatus p) p s
    Reads (.journalStatus p) p s (ok (bankEntry 0 b ++ bankEntry 1 b ++ le 8 (lastWritten b).1 ++
      digestBytes (lastWritten b).2))) ∧
  (∀ p s n, accepted (.journalExport p) p s = true →
    let c : Instr := .journalExport p
    let b := base c p s
    let mine := (b.batten.ops.filter fun o => isExport o.kind && o.originator = p.originator).length
    exportTarget (field p.body 0 8) b = .inl n →
    (mine < 16 → Completes c p s (startOp (.journalExport n (decide (field p.body 8 1 = 1))) p 0x61 b) (.accept []) id) ∧
    (16 ≤ mine → Refuses c p s b (refuse stBusy rOutstanding 0))) ∧
  (∀ p s g, accepted (.journalAck p) p s = true →
    let c : Instr := .journalAck p
    let b := base c p s
    let d := sha256 (segmentImage g b)
    findSegment (field p.body 0 8) b = some g → g.signed = true → g.reclaimed = false → g.acked = false →
    (digestOf (sub p.body 8 32) ≠ d → Refuses c p s b (refuse stPrecond rDigest 0)) ∧
    (digestOf (sub p.body 8 32) = d →
      let t := onAccepting (fun n t => count (cThatch n 3) t) (storeSegment { g with acked := true } b)
      Completes c p s (settleJournal (journalWafer (.control 6 4 0 0 0 (tallyNat t) g.number p.originator.toNat (fill t) d
        (sha256 (p.body.drop 48))) t)) (ok []) id)) ∧
  (∀ p s, accepted (.journalMark p) p s = true →
    let c : Instr := .journalMark p
    let b := base c p s
    (∀ d, ledgerHalt b = some d → Refuses c p s b (refuse stLedgerHalt d 0)) ∧
    (ledgerHalt b = none → b.mode = .ledger ∨ (bankAccepts b = true ∧ unjournalled b = false) →
      Completes c p s (journalCommand p (.mark 0 (field p.body 0 8) p.originator.toNat (sub p.body 8 32) (tallyNat b)
        (tallyNat b)) b) (ok (le 8 (b.journal.next + b.journal.frozenNotes.length))) id) ∧
    (b.mode = .openMode → bankAccepts b = false ∨ unjournalled b = true →
      Completes c p s (countUnjournalled b) (ok (le 8 0)) id)) ∧
  (∀ p s, accepted (.bankSet p) p s = true →
    let c : Instr := .bankSet p
    let b := base c p s
    let n := p.inst.toNat
    let last := field p.body 0 1 = 0 ∧ b.mode = .ledger ∧ (bank n b).accepts = true ∧ (bank (1 - n) b).accepts = false
    (last → Refuses c p s b (refuse stPrecond rLastBank 0)) ∧
    (¬last → Completes c p s (startOp (.bankOnline n) p 0x69 b) (.accept []) (bankSetAfter p))) ∧
  (∀ p s r ds, accepted (.replayStart p) p s = true →
    let c : Instr := .replayStart p
    let b := base c p s
    let d := field p.body 0 8
    let g := readLoft r.base r.size b
    let rs := (replayImages g).flatMap imageRecords
    let cs := decisionCollectives rs d
    findRegion (field p.body 8 4) b = some r → r.kind = .isSealed → replayHeaderGood g r.size d = true →
    Config.chainVerifies (sub g 64 (field g 24 4)) = true →
    imagesGood (sub g 64 (field g 24 4)) none (replayImages g) = true → decisionDigests rs d = some ds →
    cs ≠ [] → cs.length ≤ 65535 →
    (∀ x ∈ rs, field x 0 1 = 1 → field x 88 8 = d → listsGeneration (field x 5 1) b = true) →
    (∀ y ∈ ds, ∃ q ∈ b.loft.regions, q.kind = .isSealed ∧ q.digest = y) →
    (∀ x ∈ cs, x.2.abortCause = 0 → (replayData g x).isSome = true ∧ replayYealms x.2 b ≠ []) →
    ledgerHalt b = none → (∀ x ∈ b.journal.replays, x.state ≠ 0) →
      Runs (exec c s) ∧ ∃ t, Completes c p s t (.accept (le 4 b.journal.nextReplay ++ le 2 cs.length ++ zs 2)) id ∧
        t.journal.nextReplay = b.journal.nextReplay + 1 ∧ t.journal.replays.length = b.journal.replays.length + 1) ∧
  (∀ p s r, accepted (.replayStatus p) p s = true →
    let b := base (.replayStatus p) p s
    (b.journal.replays.find? fun x => x.id = field p.body 0 4) = some r →
      Runs (exec (.replayStatus p) s) ∧
      Reads (.replayStatus p) p s (ok (le 1 r.state ++ zs 1 ++ le 2 r.outcomes.length ++
        le 2 (r.outcomes.length + r.plan.length) ++ zs 2))) ∧
  (∀ p s, accepted (.replayCancel p) p s = true →
    let b := base (.replayCancel p) p s
    (∃ x ∈ b.journal.replays, x.id = field p.body 0 4) →
      Runs (exec (.replayCancel p) s) ∧
      Completes (.replayCancel p) p s (endReplay (field p.body 0 4) 2 b) (ok []) id)

/-- R72, R728-R734: replays are started, read and cancelled; a REPLAY_START whose region is not sealed, whose header
does not check out, or with a record of an arithmetic generation that the running wafer image does not list, is
refused. Choices and readings of the model in it: log entries 72, 118. -/
def Obligations.ReplayCommands : Prop :=
  (∀ p s r, accepted (.replayStart p) p s = true →
    let c : Instr := .replayStart p
    let b := base c p s
    let d := field p.body 0 8
    let g := readLoft r.base r.size b
    let chain := sub g 64 (field g 24 4)
    let rs := (replayImages g).flatMap imageRecords
    let cs := decisionCollectives rs d
    findRegion (field p.body 8 4) b = some r →
    (r.kind ≠ .isSealed → Refuses c p s b (refuse stPrecond rNotSealed 0)) ∧
    (r.kind = .isSealed → replayHeaderGood g r.size d = false → Refuses c p s b (refuse stRange rField 8)) ∧
    (∀ ds x, r.kind = .isSealed → replayHeaderGood g r.size d = true → Config.chainVerifies chain = true →
      imagesGood chain none (replayImages g) = true → decisionDigests rs d = some ds → cs ≠ [] → cs.length ≤ 65535 →
      ((rs.filter fun x => field x 0 1 = 1 && field x 88 8 = d).find? fun x => !listsGeneration (field x 5 1) b) = some x →
      Refuses c p s b (refuse stPrecond rAg (field x 5 1))) ∧
    (∀ ds, r.kind = .isSealed → replayHeaderGood g r.size d = true → Config.chainVerifies chain = true →
      imagesGood chain none (replayImages g) = true → decisionDigests rs d = some ds → cs ≠ [] → cs.length ≤ 65535 →
      (∀ x ∈ rs, field x 0 1 = 1 → field x 88 8 = d → listsGeneration (field x 5 1) b = true) →
      (∀ y ∈ ds, ∃ q ∈ b.loft.regions, q.kind = .isSealed ∧ q.digest = y) →
      (∀ x ∈ cs, x.2.abortCause = 0 → (replayData g x).isSome = true ∧ replayYealms x.2 b ≠ []) →
      ledgerHalt b = none → (∀ x ∈ b.journal.replays, x.state ≠ 0) →
      let n := b.journal.nextReplay
      let rep : Replay :=
        { id := n, decision := d, input := field p.body 8 4
          regions := ds.filterMap fun y => (b.loft.regions.find? fun q => q.kind = .isSealed && q.digest = y).map Region.handle
          plan := cs.map fun x => (x.2, (replayData g x).getD (0, 0)), outcomes := [], state := 0 }
      Completes c p s (startReplayed n (startOp (.replay n) p 0x64 { b with journal := { b.journal with
        replays := b.journal.replays ++ [rep], nextReplay := n + 1 } }))
        (.accept (le 4 n ++ le 2 cs.length ++ zs 2)) id)) ∧
  (∀ p s r, accepted (.replayStatus p) p s = true →
    let b := base (.replayStatus p) p s
    (b.journal.replays.find? fun x => x.id = field p.body 0 4) = some r →
      Reads (.replayStatus p) p s (ok (le 1 r.state ++ zs 1 ++ le 2 r.outcomes.length ++
        le 2 (r.outcomes.length + r.plan.length) ++ zs 2))) ∧
  (∀ p s, accepted (.replayCancel p) p s = true →
    let c : Instr := .replayCancel p
    let b := base c p s
    let n := field p.body 0 4
    ((∃ x ∈ b.journal.replays, x.id = n) → Completes c p s (endReplay n 2 b) (ok []) id) ∧
    ((∀ x ∈ b.journal.replays, x.id ≠ n) → Refuses c p s b (refuse stRange rNotFound 0)))

/-- R690-R693, R698-R703, R709-R711, R721, R732: the journal's own events; in Ledger mode the journal halts at 98 %
fill, and only a fill below 97 % or Open mode ends the halt; an event while no record is built, or while the building
waits for room, waits, and one that finds no place is counted; programming and patrol go on while the tray is frozen.
Choices and readings of the model in it: log entries 69, 70, 96, 104. -/
def Obligations.JournalEvents : Prop :=
  (∀ s, s.power.banksMounted = true → s.journal.waiting ≠ [] →
    exec .recordDurable s = .next (settleJournal (makeDurable s))) ∧
  (∀ s, let used := (s.journal.next - 1 + s.journal.frozenNotes.length) % 4096
    buildsRecords s = true → used ≠ 0 → bankAccepts s = true →
    let k := 4096 - used
    let t := onAccepting (fun n t => countBy (cThatch n 4) k t) s
    exec .segmentSealTimeout s = .next { (List.range k).foldl
      (fun u _ => journalWafer (.mark 2 0 0 [] (tallyNat t) (tallyNat t)) u) t with journal.openSince := none }) ∧
  (∀ r q g s, s.referee.booted = true → (s.journal.segments.find? fun x => !x.signed) = some g →
    let g1 := { g with prev := if s.journal.head.segment + 1 = g.number then s.journal.head.segmentDigest else 0 }
    let g2 := { g1 with signed := true, sealTally := tallyNat s, sigR := r, sigS := q, digest := sha256 (segmentBody g1 s) }
    let last := (segmentRecords g.number s).getLast?
    let t := onAccepting (fun n t => count (cThatch n 2) t) s
    exec (.segmentSignDone r q) s = .next (storeSegment g2 { t with journal.head :=
      { segment := g.number, segmentDigest := g2.digest, record := (last.map Record.number).getD 0
        recordHash := (last.map fun x => sha256 (recordBytes x)).getD 0 } })) ∧
  (∀ n s, (bank n s).accepts = true →
    exec (.bankFault n) s = .next (bankOffline n (setBank n (fun b => { b with faulted := true }) s))) ∧
  (∀ n s, (bank n s).accepts = false → (bank n s).state ≠ .absent →
    exec (.bankFault n) s = .next (setBank n (fun b => { b with faulted := true }) s)) ∧
  (∀ n s, waferLive s = true → (bank n s).state = .resyncing →
    exec (.bankResyncDone n) s = .next (settleJournal (resyncDone n s))) ∧
  (∀ n s, s.power.banksMounted = true → (bank n s).accepts = true →
    (∀ w, exec (.thatchPatrol n (.clean w)) s = .next (if param pRefreshBits (countBy (cThatch n 7) w s) < w
      then count (cThatch n 0x0C) (countBy (cThatch n 7) w s) else countBy (cThatch n 7) w s)) ∧
    exec (.thatchPatrol n .passComplete) s = .next (count (cThatch n 0x0D) s)) ∧
  (∀ o n g s, waferLive s = true → (s.batten.ops.find? fun x => isExport x.kind) = some o →
    o.kind = .journalExport n false → findSegment n s = some g → g.lost = false →
    s.journal.bankA.state = .primary ∨ s.journal.bankB.state = .primary →
    exec .journalExportDone s = .next (settleJournal (finishOp o stOk 0 0 (le 8 n ++
      le 4 (segmentImage g s).length ++ le 1 0 ++ zs 3 ++ segmentImage g s) s))) ∧
  (∀ r c off len s, waferLive s = true → (s.journal.replays.find? fun x => x.state = 0) = some r →
    r.plan = [(c, off, len)] → c.abortCause ≠ 0 →
    exec .replayCollectiveDone s = .next (endReplay r.id 1 { s with journal.replays := s.journal.replays.map fun x =>
      if x.id = r.id then { x with plan := [], outcomes := x.outcomes ++ [(c.collective, 2)] } else x })) ∧
  (∀ s : State,
    (s.mode = .ledger → s.journal.halted = false → 98 ≤ fill s → (settleHalt s).journal.halted = true) ∧
    (s.mode = .ledger → s.journal.halted = true → 97 ≤ fill s → settleHalt s = s) ∧
    (s.journal.halted = true → fill s < 97 → (settleHalt s).journal.halted = false) ∧
    (s.mode = .openMode → (settleHalt s).journal.halted = false)) ∧
  (∀ body builder extra s,
    (buildsRecords s = false ∨ buildingWaits s = true →
      journalWith body builder extra s =
        { s with journal.frozenNotes := s.journal.frozenNotes ++ [(body, builder, extra)] }) ∧
    (buildsRecords s = true → buildingWaits s = false → unjournalled s = true →
      (journalWith body builder extra s).journal.waiting = s.journal.waiting ∧
      (journalWith body builder extra s).journal.unjournalled = s.journal.unjournalled + 1))

/-- R686, R687: records are numbered from 1, one number each; a record has 192 bytes, carries the hash of the record
before it (32 zero bytes for record 1), and its own hash chains the next. -/
def Obligations.RecordsAreChained : Prop :=
  State.reset.journal.next = 1 ∧ State.reset.journal.lastHash = 0 ∧ (∀ r, (recordBytes r).length = 192) ∧
  (∀ body builder extra s, buildsRecords s = true → buildingWaits s = false → unjournalled s = false →
      let t := journalWith body builder extra s
      ∃ r : Record, t.journal.waiting = s.journal.waiting ++ [r] ∧ r.body = body ∧ r.number = s.journal.next ∧
        r.prev = s.journal.lastHash ∧ (builder ≠ 0xFF → r.tally = tallyNat s) ∧
        (builder = 0xFF → r.tally = markTallyNat s) ∧ r.mode = s.mode.code ∧
        t.journal.lastHash = sha256 (recordBytes r) ∧ t.journal.next = s.journal.next + 1 ∧
        t.journal.durable = s.journal.durable)

/-! ### Tally and counters (03, 05) -/

/-- Tables 3.4a and 3.5, R156-R168: the PLL locks, an announced marker loads the value, two markers at multiples of
2^16 lock it; TALLY_REACQUIRE starts the procedure again; an error of at most 1 tk keeps or makes the tally LOCKED, up
to 65,536 tk slews it, beyond that a late tally is loaded forward and an early one becomes UNLOCKED with TALLY_AHEAD.
Choices and readings of the model in it: log entry 42. -/
def Obligations.TallyIsAcquired : Prop :=
  (∀ s, waferLive s = true → s.tally.syncPresent = true → s.tally.acquire = .waitPll →
    exec .tallyPllLock s =
      .next { s with tally := { s.tally with pllLocked := true, acquire := .waitAnnounce, announced := none } }) ∧
  (∀ s m, (s.tally.acquire = .waitAnnounce ∨ s.tally.acquire = .waitMarker) → s.tally.announced = some m →
    (markTally s).tally.value = BitVec.ofNat 64 m ∧ (markTally s).tally.counting = true ∧
      (markTally s).tally.acquire = .checkMarkers 2) ∧
  (∀ s k, s.tally.acquire = .checkMarkers (k + 2) → tallyNat s % 65536 = 0 →
    (markTally s).tally.acquire = .checkMarkers (k + 1) ∧ (markTally s).tally.value = s.tally.value) ∧
  (∀ s k, s.tally.acquire = .checkMarkers k → tallyNat s % 65536 ≠ 0 →
    (markTally s).tally.acquire = .waitAnnounce ∧
      counter (cTally 1) (markTally s) = (counter (cTally 1) s + 1) % 2 ^ 64) ∧
  (∀ p s, accepted (.tallyReacquire p) p s = true →
    Completes (.tallyReacquire p) p s
      (startOp (.reacquire (tallyNat (base (.tallyReacquire p) p s))) p 0x73 (base (.tallyReacquire p) p s)) (.accept [])
      (tallyReacquireAfter p)) ∧
  (∀ p s, accepted (.tallyStatus p) p s = true →
    let b := base (.tallyStatus p) p s
    Reads (.tallyStatus p) p s (ok (le 1 b.tally.state.code ++ le 1 (utcQuality (tallyNat b) b) ++
      le 2 b.tally.cause.toNat ++ errorField b.tally.lastError ++ le 8 (tallyNat b) ++ le 4 (tallyOffset b).toNat ++ zs 4))) ∧
  (∀ (e : Int) (v : Nat) (s : State),
    (e.natAbs ≤ 1 → (handleError e v s).tally.state = .locked ∧ (handleError e v s).tally.slewLeft = e ∧
      (handleError e v s).tally.value = s.tally.value) ∧
    (1 < e.natAbs → e.natAbs ≤ 65536 → (handleError e v s).tally.state = .slewing ∧
      (handleError e v s).tally.slewLeft = e ∧ (handleError e v s).tally.value = s.tally.value) ∧
    (e < -65536 → (handleError e v s).tally.state = .slewing ∧ (handleError e v s).tally.slewLeft = 0 ∧
      (handleError e v s).tally.value = BitVec.ofNat 64 v) ∧
    (65536 < e → (handleError e v s).tally.state = .unlocked ∧ (handleError e v s).tally.cause = 0x4C#16 ∧
      (handleError e v s).tally.slewLeft = 0 ∧ (handleError e v s).tally.value = s.tally.value) ∧
    (handleError e v s).tally.lastError = e)

/-- R128, R158, R163-R166, R169-R173, R178, R757: markers, slew steps, loss and return of TALLY_SYNC, holdover's end,
the exchanges with other trays and the servos, which PTP messages of the tray's domain and transport alone move (R177);
the tally counts each tick that passes while it counts and the tray is not frozen, and a frozen tally does not move;
time itself changes no port, no Loft byte and no record. Choices and readings of the model in it: log entries 1, 43,
44, 94, 95, 100, 101. -/
def Obligations.TallyEvents : Prop :=
  (∀ cap s, waferLive s = true → s.tally.syncPresent = true → s.tally.pllLocked = true →
    let t := markTally (toMarker s)
    exec (.rackMarker cap) s = .next (activationMarker (swapRecord (broadcastTally (anchorAt cap
      { t with tally.lastMarker := some t.now, switch.severed := []
               ports := t.ports.map fun q => { q with requestAnswered := false } })))) ) ∧
  (∀ s, waferLive s = true → s.tally.counting = true →
    (0 < s.tally.slewLeft → exec .tallySlewStep s =
      .next (rampRefill 1 { s with now := s.now + 1, tally.slewLeft := s.tally.slewLeft - 1 })) ∧
    (s.tally.slewLeft < 0 → exec .tallySlewStep s =
      .next { advance 1 s with tally := { (advance 1 s).tally with
        value := s.tally.value + 2, slewLeft := s.tally.slewLeft + 1, skipped := some (tallyNat s + 1) } })) ∧
  (∀ s, s.tally.syncPresent = true →
    exec .tallySyncLoss s = .next (syncLost s) ∧
    (∀ e : Int, 1000 < e.natAbs → exec (.tallyFreqWindow e) s = .next (syncLost s)) ∧
    (∀ e : Int, e.natAbs ≤ 800 → exec (.tallyFreqWindow e) s = .next s) ∧
    (syncLost s).tally.syncPresent = false ∧
    (waferLive s = true → s.tally.state = .locked ∨ s.tally.state = .slewing →
      (syncLost s).tally.state = .holdover)) ∧
  (∀ s, s.tally.syncPresent = false →
    let waits := decide (s.tally.state ≠ .acquiring)
    exec .tallySyncReturn s = .next { s with tally := { s.tally with
      syncPresent := true, pllLocked := waits, awaitAnnounced := waits, announced := none } }) ∧
  (∀ s, waferLive s = true → s.tally.state = .holdover →
    exec .holdoverExpiry s = .next (cancelArm (tallyTo .unlocked 0 s))) ∧
  (∀ n (t1 : U64) s, waferLive s = true → (port n s).state = .up →
    ((port n s).requestAnswered = false → exec (.tallyRequest n t1) s =
      .next (emit (.tally n .response s.tally.state.code 0 (stamp16 (fraction (bumpFree s)) s) (stamp16 (fraction s) s) t1)
        (setPort n (fun q => { q with requestAnswered := true }) (bumpFree (bumpFree s))))) ∧
    ((port n s).requestAnswered = true → exec (.tallyRequest n t1) s = .next (count (cPort n 0x15) s))) ∧
  (∀ n (t1 t2 t3 t4 : U64) s, waferLive s = true → (rowUplinks s).contains n = true →
    exec (.tallyResponse n t1 t2 t3 t4) s = .next (setPort n
      (fun q => { q with exchanges := (((t2 - t1).toInt - (t4 - t3).toInt) :: q.exchanges).take 16 }) s)) ∧
  (∀ (v : PtpMessage) s,
    (v.domain = param pPtpDomain s → v.transport = param pPtpTransport s →
      (s.referee.a.booted = true → exec (.ptpMessage .a v) s = .next { s with tally.servoA := v.servo }) ∧
      (s.referee.b.booted = true → exec (.ptpMessage .b v) s = .next { s with tally.servoB := v.servo })) ∧
    (v.domain ≠ param pPtpDomain s ∨ v.transport ≠ param pPtpTransport s →
      ∀ e, exec (.ptpMessage e v) s = .next s)) ∧
  (∀ k s, (advance k s).now = s.now + k ∧
    (s.tally.counting = true → s.freezeUnit.frozen = false →
      (advance k s).tally.value = s.tally.value + BitVec.ofNat 64 k) ∧
    (s.freezeUnit.frozen = true ∨ s.tally.counting = false → (advance k s).tally = s.tally) ∧
    (advance k s).ports = s.ports ∧ (advance k s).loft = s.loft ∧ (advance k s).journal = s.journal)

/-- R147-R154, R367: COUNTER_SNAP arms a snapshot at the tick it answers, the snapshot copies the wafer's counters when
that tick comes (a mark captures the others' with them), a periodic snapshot is taken at each multiple of the period,
and COUNTER_READ reads the copy in ascending ID. Choices and readings of the model in it: log entries 7, 45, 115. -/
def Obligations.CountersSnapAndRead : Prop :=
  (∀ p s, accepted (.counterSnap p) p s = true →
    let c : Instr := .counterSnap p
    let b := base c p s
    let t := field p.body 0 8
    let there := arrival 3125 b
    let tick := if t = 0 ∨ t ≤ there then (there / 1024 + 1) * 1024 else t
    Completes c p s { bumpFree b with
        counters.armed := some (b.counters.nextId, tick), counters.nextId := b.counters.nextId + 1 }
      (ok (le 8 tick ++ le 4 b.counters.nextId ++ zs 4)) id) ∧
  (∀ p s, accepted (.counterRead p) p s = true →
    let b := base (.counterRead p) p s
    let most := min (field p.body 4 2) ((replyRoom p.path - 24) / 16)
    let ids := countersFrom b (most + 1) (field p.body 0 4)
    Reads (.counterRead p) p s (ok (le 4 b.counters.shadowId ++ zs 4 ++ le 8 b.counters.shadowTally ++
      le 2 (ids.take most).length ++ le 1 (bit (decide (most < ids.length))) ++ zs 5 ++
      (ids.take most).flatMap fun i => le 4 i ++ zs 4 ++ le 8 ((lookup b.counters.shadow i).getD 0)))) ∧
  (∀ s n tick, marksSent s = true → s.counters.armed = some (n, tick) →
    let u := capture n (advanceTo tick { s with counters.armed := none })
    exec .counterSnapshot s = .next (if atMark u then captureOthers u else u)) ∧
  (∀ s, marksSent s = true → param pSnapPeriod s ≠ 0 →
    let p := param pSnapPeriod s
    let take (m : Nat) (t : State) : State := let u := capture t.counters.nextId { t with
      counters.nextId := t.counters.nextId + 1, counters.lastPeriodic := some m }
      if atMark u then captureOthers u else u
    (∀ m, snapHere p s = some m → exec .periodicSnapshot s = .next (take m s)) ∧
    (snapHere p s = none → let m := (tallyNat s / p + 1) * p
      exec .periodicSnapshot s = .next (take m (advanceTo m s)))) ∧
  (∀ n s i, (s.counters.shadow.map Prod.fst).Nodup → waferCounter i = false →
    lookup (capture n s).counters.shadow i = lookup s.counters.shadow i)

/-- R150: a counter is 64 bits wide and wraps; counting one leaves every other counter as it was, and no snapshot
changes a running counter. -/
def Obligations.CountersWrapAndAreApart : Prop :=
  (∀ i n s, counter i (countBy i n s) = (counter i s + n) % 2 ^ 64 ∧
    (∀ j, j ≠ i → counter j (countBy i n s) = counter j s) ∧
    (countBy i n s).counters.shadow = s.counters.shadow ∧ (countBy i n s).counters.armed = s.counters.armed) ∧
  (∀ c s t, c = .counterSnapshot ∨ c = .periodicSnapshot → exec c s = .next t → ∀ i, counter i t = counter i s) ∧
  (∀ s i, counter i (captureOthers s) = counter i s)

/-! ### Sensing, coolant and analogue outputs (15, 16) -/

/-- Table 6.12, R368: SENSE_READ, SENSE_SYNC, CHANNEL_MASK, AOUT_WRITE, AOUT_READ and CAL_RUN, whose type is FIELD 0
where the channel has no such calibration. Choices and readings of the model in it: log entries 62, 63. -/
def Obligations.CopingCommands : Prop :=
  (∀ p s, accepted (.senseRead p) p s = true →
    let b := base (.senseRead p) p s
    Reads (.senseRead p) p s (ok (((List.range 16).filter fun ch => (field p.body 0 2).testBit ch).flatMap
      fun ch => senseEntry ch b))) ∧
  (∀ p s, accepted (.senseSync p) p s = true →
    let c : Instr := .senseSync p
    let b := base c p s
    (marksSent b = true → Completes c p s { b with coping.syncPending := true } (ok (le 8 (nextMark b))) id) ∧
    (marksSent b = false → Completes c p s (syncAll b) (ok (le 8 0)) id)) ∧
  (∀ p s, accepted (.channelMask p) p s = true →
    let c : Instr := .channelMask p
    let b := base c p s
    let new : BitVec 16 := (b.coping.masks ||| BitVec.ofNat 16 (field p.body 0 2)) &&&
      ~~~(BitVec.ofNat 16 (field p.body 2 2))
    let old := b.coping.masks
    let t := { b with coping.masks := new }
    let t := journalEave (paramBody 4 1 p.originator.toNat (tallyNat t) 0 t) t
    let t := forEach (List.range 16) (fun ch u =>
      if old.getLsbD ch && !new.getLsbD ch && (sense ch u).comparator = .alarm then enterTrigger ch u
      else if new.getLsbD ch then setSense ch (fun c => { c with responsePending := false }) u else u) t
    (new = old → Reads c p s (ok (le 2 new.toNat ++ zs 6))) ∧
    (new ≠ old → Completes c p s (settleFlow t) (ok (le 2 new.toNat ++ zs 6)) id)) ∧
  (∀ p s, accepted (.aoutWrite p) p s = true →
    let c : Instr := .aoutWrite p
    let t := writeAout p.inst.toNat (BitVec.ofNat 16 (field p.body 0 2)) (base c p s)
    Completes c p s t (ok (le 1 (aoutFlags p.inst.toNat t % 8) ++ zs 7)) id) ∧
  (∀ p s, accepted (.aoutRead p) p s = true →
    let b := base (.aoutRead p) p s
    Reads (.aoutRead p) p s (ok ((List.range 8).flatMap fun ch =>
      le 1 ch ++ le 1 (aout ch b).span ++ le 1 (aoutFlags ch b) ++ zs 1 ++ le 2 (aout ch b).code.toNat ++
        le 2 (param (pAout ch 4) b)))) ∧
  (∀ p s, accepted (.calRun p) p s = true →
    let c : Instr := .calRun p
    let b := base c p s
    Completes c p s (startOp (.calibration p.inst.toNat) p 0x7A b) (.accept []) (calRunAfter p)) ∧
  (∀ p s, p.body.length = 8 → (3 < field p.body 0 1 ∨ calMatches (field p.body 0 1) p.unit.toNat p.inst.toNat = false) →
    (layoutOf s (.calRun p)).refusal p.body = some (rField, 0))

/-- Tables 14.6 and 15.6, R831, R834, R859-R870, R879-R883: a settling word is not valid and moves no comparator; a
valid word is clamped, and a comparator leaves NORMAL or ALARM only after its debounce count of words in a row; a leak
that nobody heard, a flow alarm and an over-temperature switch their zone off, and a leak that was heard, undone or
masked does not; a flow trip at the tick at which zone W went off only writes its record (R894); after zone W is off
none of its rails is on and the phase is COOLANT_GATE; a leak or float before READY switches every slate rail and the
rim-and-mesh rail off at once (R229). Choices and readings of the model in it: log entries 26, 60, 104, 105. -/
def Obligations.SensingAndCoolant : Prop :=
  (∀ ch x s, s.power.aonUp = true → 0 < (sense ch s).settling →
    exec (.senseWord ch x) s = .next (setSense ch (fun c => { c with
      settling := c.settling - 1, raw := -8388608, valid := false }) (count (cSense ch 2) (count (cSense ch 1) s)))) ∧
  (∀ ch x s, s.power.aonUp = true → (sense ch s).settling = 0 →
    let t := count (cSense ch 1) s
    let t := if clampWord x = x then t else count (cSense ch 6) t
    let t := if senseType ch < 2 ∧ (x * 3000 < 450 * rawScale ∨ 2625 * rawScale < x * 3000) then count (cSense ch 4) t else t
    let t := if senseType ch = 2 ∧ 3800 * rawScale < x * 12000 then count (cSense ch 5) t else t
    let raw := clampWord (corrected ch (clampWord x) t)
    let r := compare_ ch raw (sense ch s) t
    exec (.senseWord ch x) s = .next (settleFlow (setSense ch (fun c => { c with run := r.2 })
      (comparatorTo ch r.1 (noteFlow ch raw
        (setSense ch (fun c => { c with raw := raw, last := some raw, valid := true }) t)))))) ∧
  (∀ ch raw c s, c.comparator = .normal →
    ((compare_ ch raw c s).1 = .alarm ↔ entersAlarm ch raw s = true ∧ param (pSense ch 10) s ≤ c.run + 1)) ∧
  (∀ ch raw c s, c.comparator = .alarm →
    ((compare_ ch raw c s).1 = .normal ↔ leavesAlarm ch raw s = true ∧ param (pSense ch 10) s ≤ c.run + 1)) ∧
  (∀ ch raw s, entersAlarm ch raw s = true → leavesAlarm ch raw s = false) ∧
  (∀ ch s, (sense ch s).comparator = .indeterminate →
    exec (.indeterminateTimeout ch) s =
      .next (comparatorTo ch (if wets ch || param (pSense ch 6) s = 1 then .alarm else .normal) s)) ∧
  (∀ ch s, (sense ch s).responsePending = true →
    let t := setSense ch (fun c => { c with responsePending := false }) s
    (heard 1 ch s = true ∨ inAlarm ch s = false → exec (.leakWindowExpiry ch) s = .next t) ∧
    (heard 1 ch s = false → inAlarm ch s = true → noEave s = true →
      exec (.leakWindowExpiry ch) s = .next (finialAction ch t)) ∧
    (heard 1 ch s = false → inAlarm ch s = true → noEave s = false →
      exec (.leakWindowExpiry ch) s = .next (leakAction ch s))) ∧
  (∀ s, let ch := if masked 0 s then 1 else 0
    (s.coping.flowOff ≠ some s.now → s.coping.flowAlarm = true → flowAlarmed s = true →
      let t := postEvent 3 ch (count (cCoolant 1) { s with coping.flowAlarm := false })
      exec .flowTrip s = .next (if noEave t then finialAction ch t
        else byEaves zoneWOff (quiesce (journalAction 0xFE ch t)))) ∧
    (s.coping.flowOff = some s.now →
      let t := postEvent 3 ch (count (cCoolant 1) { s with coping.flowOff := none })
      exec .flowTrip s = .next (journalAction (if noEave t then 0xFF else 0xFE) ch t))) ∧
  (∀ s, inAlarm 8 s = true → zoneWOn s = true →
    exec .thermalTrip s = .next (finialAction 8 (postEvent 4 8 (count (cCoolant 2)
      (setSense 8 (fun c => { c with responsePending := false }) s))))) ∧
  (∀ s, zoneWOn s = true →
    zoneWOn (zoneWOff s) = false ∧ (zoneWOff s).power.latches.slateRstN = 0 ∧
      (zoneWOff s).power.latches.waferRstN = 0 ∧ (zoneWOff s).power.phase = .coolantGate ∧ (zoneWOff s).power.step = 6 ∧
      (zoneWOff s).power.waferRunning = false ∧ (zoneWOff s).freezeUnit.frozen = false) ∧
  (∀ ch s, masked ch s = false → wets ch = true →
    let t := postEvent (if ch = 15 then 2 else 1) ch s
    beforeReady t = true →
    enterTrigger ch s = (if noEave (gateLost t) then finialAction ch (gateLost t)
      else if ch = 15 then leakAction ch (gateLost t)
      else setSense ch (fun c => { c with responsePending := true }) (gateLost t)) ∧
    anySlateRail (gateLost t) = false ∧ rimRail (gateLost t) = false ∧
    (6 ≤ s.power.step → (gateLost t).power.phase = .coolantGate))

/-- R884-R888, R903-R913, R917-R919: while the deglitcher holds, a write changes the code and not the output, and at
its end the output takes the latest code; a compliance fault is counted at its onset and enters fallback, but not in
the cycle of a write, which ends fallback (R930); a calibration passes its start check, measures and passes its end
check, and a check that fails ends it with PRE_START or PRE_END and keeps every coefficient. Choices and readings of
the model in it: log entries 59, 62, 115. -/
def Obligations.OutputsAndCalibration : Prop :=
  (∀ ch s, (aout ch s).holding = true →
    exec (.deglitchHoldEnd ch) s =
      .next (setAout ch (fun c => { c with holding := false, output := c.code }) s)) ∧
  (∀ ch code s, ch < s.coping.aout.length →
    (aout ch (driveCode ch code s)).code = code ∧
    ((aout ch s).holding = true → (aout ch (driveCode ch code s)).output = (aout ch s).output) ∧
    ((aout ch s).holding = false → code >>> 12 = (aout ch s).output >>> 12 →
      (aout ch (driveCode ch code s)).output = code ∧ (aout ch (driveCode ch code s)).holding = false) ∧
    ((aout ch s).holding = false → code >>> 12 ≠ (aout ch s).output >>> 12 →
      (aout ch (driveCode ch code s)).output = (aout ch s).output ∧ (aout ch (driveCode ch code s)).holding = true)) ∧
  (∀ ch cause s, s.power.aonUp = true → complianceApplies ch cause s = true →
    param (pAout ch 3) s = 0 →
    exec (.complianceFaultOnset ch cause) s = .next (setAout ch (fun c => { c with fault := some cause })
      (if (aout ch s).fault.isNone then count (cAout ch 3) s else s))) ∧
  (∀ ch cause s, s.power.aonUp = true → complianceApplies ch cause s = true →
    let t := setAout ch (fun c => { c with fault := some cause })
      (if (aout ch s).fault.isNone then count (cAout ch 3) s else s)
    param (pAout ch 3) t = 1 → exec (.complianceFaultOnset ch cause) s = .next
      (if (aout ch t).fallback = false ∧ (aout ch t).written ≠ some (d9Cycle t) then enterFallback ch t else t)) ∧
  (∀ ch code s, ch < s.coping.aout.length → (aout ch (writeAout ch code s)).code = code ∧
    (aout ch (writeAout ch code s)).fallback = false) ∧
  (∀ ch s, exec (.complianceFaultClear ch) s = .next (setAout ch (fun c => { c with fault := none }) s)) ∧
  (∀ k w s, s.coping.calibration = some k → k.step = 1 →
    (w.held = true → calHolds k s = true → exec (.calStartCheckEnd w) s =
      .next (if k.kind = 2 then setAout k.channel (fun c => { c with output := 0x1000 })
          { s with coping.calibration := some { k with step := 2 } }
        else { s with coping.calibration := some { k with step := 2 } })) ∧
    ((w.held = false ∨ calHolds k s = false) →
      exec (.calStartCheckEnd w) s = .next (endCalibration stPrecond rPreStart [] s))) ∧
  (∀ k s, s.coping.calibration = some k → k.kind = 2 → k.step = 2 → k.failed = false →
    exec .aoutSelfCodeSwitch s = .next (setAout k.channel (fun c => { c with output := 0xF000 }) s)) ∧
  (∀ k w s, s.coping.calibration = some k → k.step = 2 →
    let t := { s with coping.calibration := some { k with
      step := 3, mean := w.mean, offset := w.offset, gain := w.gain, referencesBad := w.referencesBad } }
    exec (.calMeasurementEnd w) s = .next (if k.kind = 2 ∧ k.failed = false then
      setAout k.channel (fun c => { c with output := c.code }) t else t)) ∧
  (∀ k w s, s.coping.calibration = some k → k.step = 3 →
    ((k.failed = true ∨ w.held = false ∨ calHolds k s = false) →
      exec (.calEndCheckEnd w) s = .next (endCalibration stPrecond rPreEnd [] s)) ∧
    (k.failed = false → w.held = true → calHolds k s = true → ¬(k.kind = 3 ∧ k.referencesBad = true) →
      exec (.calEndCheckEnd w) s = .next (endCalibration stOk 0
        (leInt 4 (calResult k s).2.1 ++ leInt 4 (calResult k s).2.2) (calResult k s).1)) ∧
    (k.failed = false → w.held = true → calHolds k s = true → k.kind = 3 → k.referencesBad = true →
      exec (.calEndCheckEnd w) s =
        .next (endCalibration stFaulted 0 [] (setSense k.channel (fun c => { c with faulted := true }) s))))

/-! ### Firmware (Table 6.13, 17) -/

/-- Table 6.13, R939, R942-R952, R956, R959, R970, R978: what FW_IDENTITY, IMG_STATUS and MANIFEST_READ answer; a
manifest is replaced only when its format and seal verify (which seals verify is the model's uninterpreted
Config.manifestVerifies, as no key is in the spec); a download stores its chunk or is refused; a verification starts
from UNVERIFIED or VERIFIED; an activation is refused in R956's order or starts; a confirmation writes the pointer.
Choices and readings of the model in it: log entries 5, 83. -/
def Obligations.FirmwareCommands : Prop :=
  (∀ p s, accepted (.fwIdentity p) p s = true → let rs := runningOrder (base (.fwIdentity p) p s).firmware.running
    Reads (.fwIdentity p) p s (ok (le 2 rs.length ++ zs 2 ++ rs.flatMap runningBytes))) ∧
  (∀ p s, accepted (.imgStatus p) p s = true →
    let b := base (.imgStatus p) p s
    let kind := field p.body 0 1
    let target := field p.body 2 2
    let c := (pointerOf kind target b).inForce.getD {}
    Reads (.imgStatus p) p s (ok (slotEntry kind 0 target b ++ slotEntry kind 1 target b ++ le 4 c.generation ++
      le 1 c.slot ++ zs 3))) ∧
  (∀ p s, accepted (.manifestRead p) p s = true → let m := (base (.manifestRead p) p s).firmware.manifest
    Reads (.manifestRead p) p s (ok (le 4 m.length ++ zs 4 ++ m))) ∧
  (∀ p s, accepted (.manifestLoad p) p s = true →
    let c : Instr := .manifestLoad p
    let b := base c p s
    let m := p.body.drop 8
    let t := { b with firmware.manifest := m, firmware.manifestGood := true }
    (manifestGood m = true → Config.manifestVerifies m = true →
      Completes c p s (refreshTested (journalFinial
        (paramBody 5 (field m 10 2) p.originator.toNat (markTallyNat t) (sha256 m) t) t)) (ok (digestBytes (sha256 m))) id) ∧
    (manifestGood m = false ∨ Config.manifestVerifies m = false → Refuses c p s b (refuse stPrecond rSignature 0))) ∧
  (∀ p s, accepted (.imgDownload p) p s = true →
    let c : Instr := .imgDownload p
    let b := base c p s
    let (kind, slot, target) := imageName p.body
    let total := field p.body 8 8
    let off := field p.body 16 8
    let chunk := p.body.drop 32
    let x := slotOf kind slot target b
    let image := if off = 0 then chunk else x.image ++ chunk
    (total < 256 ∨ slotSize kind < total → Refuses c p s b (refuse stRange rField 8)) ∧
    (256 ≤ total → total ≤ slotSize kind → off ≠ 0 →
      (x.state ≠ .incomplete ∨ x.owner ≠ p.originator ∨ off ≠ x.image.length) →
      Refuses c p s b (refuse stRange rField 16)) ∧
    (256 ≤ total → total ≤ slotSize kind → off + chunk.length ≤ total → fieldFault p.body 28 4 .zero = none →
      (off ≠ 0 → x.state = .incomplete ∧ x.owner = p.originator ∧ off = x.image.length ∧ total = x.total) →
      (slotBusy kind slot target b = true → Refuses c p s b (refuse stPrecond rActiveSlot 0)) ∧
      (slotBusy kind slot target b = false →
        Completes c p s (storeSlot { x with
          state := if image.length = total then .unverified else .incomplete
          owner := p.originator, total := total, image := image } b) (ok (le 8 image.length)) id))) ∧
  (∀ p s, accepted (.imgVerify p) p s = true →
    let c : Instr := .imgVerify p
    let b := base c p s
    let (kind, slot, target) := imageName p.body
    let x := slotOf kind slot target b
    (x.state = .unverified ∨ x.state = .verified →
      Completes c p s (startOp (.imgVerify kind slot target) p 0x81 (storeSlot { x with busy := true } b)) (.accept [])
        id) ∧
    (x.state ≠ .unverified → x.state ≠ .verified → Refuses c p s b (refuse stPrecond rIncomplete 0))) ∧
  (∀ p s, accepted (.imgActivate p) p s = true →
    let c : Instr := .imgActivate p
    let b := base c p s
    let (kind, slot, target) := imageName p.body
    let x := slotOf kind slot target b
    (confirmedRunning kind slot target b = true ∨ activateRefusal kind slot target b = none →
      Completes c p s (startOp (.imgActivate kind slot target) p 0x82 b) (.accept []) (imgActivateAfter p)) ∧
    (confirmedRunning kind slot target b = false → x.state ≠ .verified →
      Refuses c p s b (refuse stPrecond rUnverified 0)) ∧
    (∀ i, confirmedRunning kind slot target b = false → x.state = .verified →
      clash (runningFrom x) x.factory b = some i → Refuses c p s b (refuse stPrecond rEpoch i)) ∧
    (confirmedRunning kind slot target b = false → x.state = .verified → clash (runningFrom x) x.factory b = none →
      let listed := x.factory || (imageSteppings x.image).contains b.ident.stepping.toNat
      (kind = 0 → listed = false → Refuses c p s b (refuse stPrecond rEpoch 0)) ∧
      ((kind = 0 → listed = true) → isLedger b = true → kind ≠ 6 →
        activationTested (withImage (runningFrom x) b) b = false → Refuses c p s b (refuse stPrecond rUntested 0)))) ∧
  (∀ p s, accepted (.imgConfirm p) p s = true →
    let c : Instr := .imgConfirm p
    let b := base c p s
    let (kind, slot, target) := imageName p.body
    let x := slotOf kind slot target b
    (x.state = .trial → x.busy = false →
      Completes c p s (journalFwset 2 0xFE (setSlotState kind slot target .active
        (setSlotState kind (1 - slot) target .verified (writePointer kind target slot false 0 b)))) (ok []) id) ∧
    (x.state ≠ .trial ∨ x.busy = true → Refuses c p s b (refuse stPrecond rNotTrial 0)))

/-- R953, R954, R960-R964, R98, R1008, R967-R969: a verification ends, a site of a roll is ready or late, a cartridge's
MCU answers, a slate's BIST ends and a re-homing's map switches; the pointer in force is the copy with the higher
generation, a write puts generation + 1 into the other copy, and a boot from a TRIAL pointer counts one trial boot or,
with none left, reverts to the other slot. Choices and readings of the model in it: log entry 84. -/
def Obligations.FirmwareEvents : Prop :=
  (∀ r s kind slot target rest, s.firmware.reverify = (kind, slot, target) :: rest →
    exec (.imgVerifyDone r) s =
      .next (verifyAgain (slotOf kind slot target s) r { s with firmware.reverify := rest })) ∧
  (∀ r s o kind slot target, s.firmware.reverify = [] →
    s.batten.ops.find? (fun o => match o.kind with | .imgVerify _ _ _ => true | _ => false) =
      some o → o.kind = .imgVerify kind slot target →
    let x := slotOf kind slot target s
    let busy := decide (1 < (s.batten.ops.filter fun q => q.kind = o.kind).length)
    ((x.factory = true ∨ imageGood x = true ∧ r.signatureGood = true) → exec (.imgVerifyDone r) s =
      .next (finishOp o stOk 0 0 (verifyPayload x) (storeSlot { x with state := .verified, busy := busy } s))) ∧
    (x.factory = false → (imageGood x = false ∨ r.signatureGood = false) → exec (.imgVerifyDone r) s =
      .next (finishOp o stFaulted rSignature 0 []
        (storeSlot { x with state := .unverified, busy := busy } (count (cUpdate 3) s))))) ∧
  (∀ n s a, s.firmware.activation = some a → waferLive s = true → a.kind = 0 → n ∈ a.loading →
    let left (t : State) : State := { t with firmware.activation := some { a with loading := a.loading.filter (· != n) } }
    (exec (.rollSiteReady n) s = .next (settleActivations (rollNext (left (setSite n (fun t => { t with
        state := .idle, cause := 0, bistPassed := true, bistRunning := false, newImage := !a.reverting }) s))))) ∧
    (a.reverting = false → exec (.activationTimeout n) s = .next (settleActivations (rollStop a n s))) ∧
    (a.reverting = true → exec (.activationTimeout n) s = .next (settleActivations (rollNext (left
      (setSite n (fun t => { t with state := .failed, cause := 0, bistRunning := false }) s))))) ∧
    (∀ r, (site n s).bistRunning = true → s.patrol.mbistSite = none → r.pass = false →
      exec (.slateBistDone n r) s = .next (settleActivations (rollBistFailed n r a s)))) ∧
  (∀ n s a, s.firmware.activation = some a → a.kind = 1 →
    exec (.activationTimeout n) s = .next (holdForSwitch a (eaveOf a.target) s)) ∧
  (∀ n s a, s.firmware.activation = some a → a.kind ≠ 0 → a.kind ≠ 1 →
    exec (.activationTimeout n) s = .next (restartTarget a s)) ∧
  (∀ n s a, s.firmware.activation = some a → a.kind = 4 ∨ a.kind = 5 → a.target = n →
    exec (.cartridgeMcuReady n) s = .next (checkCartridges (settleActivations (switchDone a s)))) ∧
  (∀ n r s, (site n s).bistRunning = true → waferLive s = true → s.patrol.mbistSite = none →
    s.firmware.activation = none → exec (.slateBistDone n r) s = .next (startMbist (restoreDone n r s))) ∧
  (∀ n r s, (site n s).bistRunning = true → s.patrol.mbistSite = some n → s.patrol.mbistDone = false →
    s.patrol.mbistWait = false → exec (.slateBistDone n r) s = .next (mbistEnds n r.pass s)) ∧
  (∀ s r, s.switch.rehomings = [r] → waferLive s = true → let t := landAll s
    (r.drain = true → drained r.site t = true) →
    exec .rehomeMapSwitch s = .next (settleActivations (rollNext (retryRestores (finishRehoming r t))))) ∧
  (∀ kind target slot trial left s, (pointerOf kind target (writePointer kind target slot trial left s)).inForce =
    some { valid := true, generation := ((pointerOf kind target s).inForce.map PointerCopy.generation).getD 0 + 1
           slot := slot, trial := trial, left := left }) ∧
  (∀ kind target s c, (pointerOf kind target s).inForce = some c →
    (c.trial = false → (bootTarget kind target s).2 = (some c.slot, false)) ∧
    (c.trial = true → 0 < c.left → (bootTarget kind target s).2 = (some c.slot, false) ∧
      ((pointerOf kind target (bootTarget kind target s).1).inForce.map PointerCopy.left) = some (c.left - 1)) ∧
    (c.trial = true → c.left = 0 → (bootTarget kind target s).2 = (some (1 - c.slot), true) ∧
      ((pointerOf kind target (bootTarget kind target s).1).inForce.map fun d => (d.slot, d.trial)) =
        some (1 - c.slot, false)))

/-! ### Freeze and snapshot (Table 6.14, 13) -/

/-- R748, R751, R757, R769, R777, R778, R782, R792: the commands of Table 6.14. FREEZE of a frozen tray answers F;
FREEZE_AT arms or disarms a tick; THAW inside its window resumes from F; RESTART starts and restarts the wafer once it
is accepted; SNAP_START waits for its readout; each is refused in the states that its rule names. Choices and readings
of the model in it: log entries 74, 75, 110. -/
def Obligations.FreezeCommands : Prop :=
  (∀ p s, accepted (.freeze p) p s = true →
    let c : Instr := .freeze p
    let b := base c p s
    (b.freezeUnit.frozen = true → Completes c p s (trigger 2 0 0 b) (ok (le 8 b.freezeUnit.freezeTally)) id) ∧
    (b.freezeUnit.frozen = false → triggerPhase b = true → Completes c p s (trigger 2 0 0 { b with
      batten.ops := b.batten.ops ++ [{ opOf .freeze p 0x90 with accepted := false }] }) (.accept []) id) ∧
    (b.freezeUnit.frozen = false → triggerPhase b = false → Refuses c p s b (refusePhase b))) ∧
  (∀ p s, accepted (.freezeAt p) p s = true →
    let c : Instr := .freezeAt p
    let b := base c p s
    let t := field p.body 0 8
    let locked := b.tally.state ≠ .acquiring ∧ b.tally.state ≠ .unlocked
    (t ≠ 0 → (t ≤ tallyNat b ∨ tallyNat b + 2 ^ 40 < t) → Refuses c p s b (refuse stRange rField 0)) ∧
    (tallyNat b < t → t ≤ tallyNat b + 2 ^ 40 → locked →
      Completes c p s (journalWafer (armBody 0 t b) { b with freezeUnit.armed := some t }) (ok (le 8 t)) id) ∧
    (t = 0 → locked → Completes c p s (cancelArm b) (ok (le 8 0)) id) ∧
    ((t = 0 ∨ tallyNat b < t ∧ t ≤ tallyNat b + 2 ^ 40) → ¬locked →
      Refuses c p s b (refuse stPrecond rTally b.tally.state.code))) ∧
  (∀ p s, accepted (.thaw p) p s = true →
    let c : Instr := .thaw p
    let b := base c p s
    (b.freezeUnit.frozen = true → mayThaw b = true →
      Completes c p s (thawNow b) (ok (le 8 b.freezeUnit.freezeTally)) id) ∧
    (b.freezeUnit.frozen = true → mayThaw b = false → Refuses c p s b (refuse stPrecond rThawWindow 0)) ∧
    (b.freezeUnit.frozen = false → Refuses c p s b (refuse stPrecond rNotFrozen 0))) ∧
  (∀ p s, accepted (.restart p) p s = true →
    let c : Instr := .restart p
    let b := base c p s
    (b.freezeUnit.frozen = true → b.freezeUnit.powerFail = false →
      Completes c p s (startOp .restart p 0x93 b) (.accept [])
        fun t => byFinial restartWafer (abortOutside (count (cFreeze 4) t))) ∧
    (b.freezeUnit.frozen = true → b.freezeUnit.powerFail = true → Refuses c p s b (refusePhase b)) ∧
    (b.freezeUnit.frozen = false → Refuses c p s b (refuse stPrecond rNotFrozen 0))) ∧
  (∀ p s, accepted (.snapStart p) p s = true →
    let c : Instr := .snapStart p
    let b := base c p s
    (b.freezeUnit.frozen = true →
      Completes c p s (startOp (.snapshot (decide (field p.body 0 1 = 1))) p 0x94
        { b with freezeUnit.snapRequested := true }) (.accept []) id) ∧
    (b.freezeUnit.frozen = false → Refuses c p s b (refuse stPrecond rNotFrozen 0)))

/-- R210, R748, R750, R757, R761, R779, R792: FRZ_N, the armed tick, the stop, the automatic thaw and the readout of a
snapshot (that F lies one tick after a request which is not FREEZE_AT is the model's choice); while the tray is frozen
or the wafer is not running, an event of the wafer's domains has no effect. Choices and readings of the model in it:
log entries 7, 74, 76, 102. -/
def Obligations.FreezeEvents : Prop :=
  (∀ s, s.freezeUnit.frzLow = false → let t := { s with freezeUnit.frzLow := true }
    (s.freezeUnit.frozen = true ∨ triggerPhase t = true → exec .frzNAssert s = .next (trigger 0 0 0 t)) ∧
    (s.freezeUnit.frozen = false → triggerPhase t = false → exec .frzNAssert s = .next (count (cFreeze 1) t))) ∧
  (∀ s, exec .frzNRelease s = .next { s with freezeUnit.frzLow := false }) ∧
  (∀ s t, s.freezeUnit.armed = some t → marksSent s = true → exec .freezeAtReached s =
    .next (trigger 1 0 0 (advanceTo t { s with freezeUnit.armed := none }))) ∧
  (∀ s, s.freezeUnit.frozen = false → s.freezeUnit.requests ≠ [] → s.power.waferRunning = true →
    exec .freezeStop s = .next (freezeNow (if s.freezeUnit.requests.any (fun r => r.code = 1) then s else advance 1 s))) ∧
  (∀ s, s.freezeUnit.frozen = true → param pAutoThaw s ≠ 0 → s.freezeUnit.snapRequested = false →
    let t := { s with now := max s.now (s.freezeUnit.notice + param pAutoThaw s * 3125 / 10) }
    (mayThaw t = true → exec .autoThaw s = .next (thawNow t)) ∧ (mayThaw t = false → exec .autoThaw s = .next t)) ∧
  (∀ s, s.freezeUnit.frozen = true → s.freezeUnit.reading = none →
    exec .snapReadoutStart s = .next (startReadout s)) ∧
  (∀ s d full o, s.freezeUnit.reading = some full → (opsOf isSnapshotOp s).head? = some o →
    exec (.snapDone d) s = .next (startReadout (finishOp o stOk 0 0 (le 8 (snapBytes full s) ++ le 4 d ++ zs 4)
      (emit (.snapshot full (snapDirectory full s) (snapFrames s.freezeUnit.freezeTally (snapDirectory full s)))
        { s with freezeUnit := { s.freezeUnit with
        reading := none, snapshots := s.freezeUnit.snapshots ++ [{ full, bytes := snapBytes full s, durationMs := d }] } })))) ∧
  (∀ s, waferLive s = false →
    (∀ p b, exec (.lstateBlock p b) s = .next s) ∧ (∀ p, exec (.lstateRefresh p) s = .next s) ∧
    (∀ p b, exec (.creditBlock p b) s = .next s) ∧ (∀ p, exec (.creditRefresh p) s = .next s) ∧
    (∀ p g, exec (.alignRound p g) s = .next s) ∧ (∀ p, exec (.freezeIdleRx p) s = .next s) ∧
    (∀ p l, exec (.fecUncorrectable p l) s = .next s) ∧ (∀ p l, exec (.laneSignalLoss p l) s = .next s) ∧
    (∀ p, exec (.portDrainEnd p) s = .next s) ∧ (∀ n w, exec (.auditTick n w) s = .next s) ∧
    (∀ n, exec (.gableCoreFault n) s = .next s) ∧ exec .rehomeMapSwitch s = .next s ∧
    (∀ i, exec (.collectiveTimeout i) s = .next s) ∧ exec .rampRelease s = .next s ∧
    (∀ b e, exec (.loftAccessDone b e) s = .next s) ∧ (∀ c, exec (.loftScrubPass c) s = .next s) ∧
    (∀ h, exec (.resealDone h) s = .next s) ∧ (∀ b, exec (.bankResyncDone b) s = .next s) ∧
    (∀ c, exec (.rackMarker c) s = .next s) ∧ exec .tallyMark s = .next s ∧ exec .patrolCycleStart s = .next s ∧
    exec .patrolSliceDue s = .next s ∧ (∀ r, exec (.patrolTestDone r) s = .next s))

/-- R789: triggers that fire at the same tick make one freeze, at the tally value of the stop; its trigger code is the
lowest among them, its error classes are all of theirs, and no request waits. The tally stands still. -/
def Obligations.FreezeHoldsTheTray : Prop :=
  ∀ s, s.freezeUnit.frozen = false → s.freezeUnit.requests ≠ [] → (∀ r ∈ s.freezeUnit.requests, r.code ≤ 4) →
    let t := freezeNow s
    t.freezeUnit.frozen = true ∧ t.freezeUnit.requests = [] ∧ t.freezeUnit.armed = none ∧
    (∀ r ∈ s.freezeUnit.requests, t.freezeUnit.trigger ≤ r.code) ∧
    (∃ r ∈ s.freezeUnit.requests, r.code = t.freezeUnit.trigger) ∧
    (∀ i, t.freezeUnit.classes.testBit i = true ↔ ∃ r ∈ s.freezeUnit.requests, r.classes.testBit i = true) ∧
    t.freezeUnit.freezeTally = tallyNat s ∧ t.tally = { s.tally with lastPtpNs := t.tally.lastPtpNs }

/-! ### Controllers (14) -/

/-- Table 6.12, R817, R818, R840: ROLE_SWAP of a permitted swap waits for its marker, and is refused without a standby
that may lead; CONTROLLER_STATUS answers both Eaves and the next swap; INVENTORY answers units from the first asked
for; the authoritative Eave writes the inventory to every accepting bank. Choices and readings of the model in it: log
entries 78, 82. -/
def Obligations.ControllerCommands : Prop :=
  (∀ p s, accepted (.roleSwap p) p s = true →
    let c : Instr := .roleSwap p
    let b := base c p s
    let t := field p.body 0 8
    (swapPermitted b = true → Completes c p s
      (startOp (.roleSwap (if t = 0 then tallyNat b + 65536 else t)) p 0x7D b) (.accept []) id) ∧
    (swapPermitted b = false → Refuses c p s b (refuse stPrecond rNoStandby 0))) ∧
  (∀ p s, accepted (.controllerStatus p) p s = true →
    let b := base (.controllerStatus p) p s
    Reads (.controllerStatus p) p s (ok (controllerEntry .a b ++ controllerEntry .b b ++
      le 8 (((nextSwap b).map markerFrom).getD 0)))) ∧
  (∀ p s, accepted (.inventory p) p s = true →
    let c : Instr := .inventory p
    let b := accrue (base c p s)
    let rest := (inventoryUnits b).drop (field p.body 0 2)
    let most := min (field p.body 2 2) ((replyRoom p.path - 8) / 64)
    Completes c p s b (ok (le 2 (rest.take most).length ++ le 1 (bit (decide (most < rest.length))) ++ zs 5 ++
      (rest.take most).flatMap fun x => inventoryEntry x b)) id) ∧
  (∀ s, (authority s).isSome = true → let t := accrue s
    exec .inventoryWrite s = .next (onAccepting (fun n u => setBank n (fun b => { b with
      invCycles := t.invCycles, invHours := t.invHours }) u) t))

/-- R799-R808, R845, R1047: a good heartbeat is counted, resets the run of misses and is compared; one with a failed
self-test fails its Eave; three missed intervals in a row fail an Eave, unless both miss them; a divergence orders a
self-test of both Eaves, which fails one Eave or leads to a vote or to the standby's failure; a vote's answer fails the
Eave it votes against, and without a definite answer the standby fails. Choices and readings of the model in it: log
entries 80, 81, 104. -/
def Obligations.RefereeJudges : Prop :=
  (∀ hb s, s.referee.booted = true → recognised hb.eave s = true → hb.crcGood = true →
    (eave hb.eave s).lastCount.any (fun n => hb.count.toNat ≤ n) = false →
    let e := hb.eave
    let t := setEave e (fun u => { u with
      heard := true, lastCount := some hb.count.toNat, cleanRun := if hb.selftest = 0#16 then u.cleanRun + 1 else 0
      digestSeq := hb.digestSeq.toNat, digest := hb.stateDigest }) (count (cEave (Eave.code e) 1) s)
    let t := { t with referee.noController := false }
    let t : State := if s.referee.swapped = some hb.eave ∧ hb.state = 0#8 then swapReported t else t
    (hb.selftest = 0#16 → exec (.heartbeat hb) s = .next (compareDigests t)) ∧
    (hb.selftest ≠ 0#16 → exec (.heartbeat hb) s = .next (failEave e 3 0 0 0 0 t))) ∧
  (∀ hb s, hb.crcGood = false ∨ (eave hb.eave s).lastCount.any (fun n => hb.count.toNat ≤ n) = true →
    exec (.heartbeat hb) s = .next s) ∧
  (∀ s, s.referee.booted = true →
    let t := intervalEnd .b (intervalEnd .a s)
    (silent .a t = true → silent .b t = true →
      exec .heartbeatInterval s = .next (leakCheck { t with referee.noController := true })) ∧
    (silent .a t = true → silent .b t = false → exec .heartbeatInterval s = .next (failEave .a 1 0 0 0 0 t)) ∧
    (silent .a t = false → silent .b t = true → exec .heartbeatInterval s = .next (failEave .b 1 0 0 0 0 t)) ∧
    (silent .a t = false → silent .b t = false → exec .heartbeatInterval s = .next t)) ∧
  (∀ e s, recognised e s = true → (eave e s).heard = false →
    (eave e (intervalEnd e s)).missedRun = (eave e s).missedRun + 1) ∧
  (∀ e s, recognised e s = true → (eave e s).heard = true → (eave e (intervalEnd e s)).missedRun = 0) ∧
  (∀ r s, exec (.divergedReport r) s = .next (divergedToFinial r s)) ∧
  (∀ r s, s.referee.booted = true → noVerdict s = true → (stored pErrorMask s).testBit 0 = false →
    divergedToFinial r s = { s with referee.selftest := .diverged r }) ∧
  (∀ fa fb s r, s.referee.selftest = .diverged r → let t := { s with referee.selftest := .none }
    (fa = true → fb = false → recognised .a s = true →
      exec (.selftestResult fa fb) s = .next (failEave .a 3 0 0 0 0 t)) ∧
    (fa = false → fb = true → recognised .b s = true →
      exec (.selftestResult fa fb) s = .next (failEave .b 3 0 0 0 0 t)) ∧
    ((fa = fb ∨ fa = true ∧ recognised .a s = false ∨ fb = true ∧ recognised .b s = false) →
      param pVoteMs t ≠ 0 → exec (.selftestResult fa fb) s = .next (count (cFinial 4)
      { t with referee.vote := some { id := t.referee.nextVote, report := r }, referee.nextVote := t.referee.nextVote + 1 })) ∧
    ((fa = fb ∨ fa = true ∧ recognised .a s = false ∨ fb = true ∧ recognised .b s = false) →
      param pVoteMs t = 0 → exec (.selftestResult fa fb) s = .next (failStandby r t))) ∧
  (∀ fa fb s ts e, s.referee.selftest = .swap ts → standby s = some e →
    ((match e with | .a => fa | .b => fb) = false → exec (.selftestResult fa fb) s = .next s) ∧
    ((match e with | .a => fa | .b => fb) = true → exec (.selftestResult fa fb) s =
      .next (failEave e 3 0 0 0 0 (skipSwap ts { s with referee.selftest := .none })))) ∧
  (∀ s v, s.referee.vote = some v →
    exec .voteTimeout s = .next (failStandby v.report (count (cFinial 5) { s with referee.vote := none }))) ∧
  (∀ w s v, s.referee.vote = some v → w.toNat / 256 = v.id % 2 ^ 24 → let t := { s with referee.vote := none }
    let r := v.report
    (w.toNat % 4 = 1 → recognised .b t = true → exec (.voteAnswerWrite w) s =
      .next (failEave .b 2 r.originator.toNat r.sequence.toNat r.digestA r.digestB t)) ∧
    (w.toNat % 4 = 2 → recognised .a t = true → exec (.voteAnswerWrite w) s =
      .next (failEave .a 2 r.originator.toNat r.sequence.toNat r.digestA r.digestB t)) ∧
    (w.toNat % 4 ≠ 1 → w.toNat % 4 ≠ 2 → exec (.voteAnswerWrite w) s = .next (failStandby r t))) ∧
  (∀ w s v, s.referee.vote = some v → w.toNat / 256 ≠ v.id % 2 ^ 24 → exec (.voteAnswerWrite w) s = .next s)

/-- R798, R808, R813-R815, R817-R821, R829: a restarted Eave is released after its hold; it resynchronises, or fails at
the third mismatch; a role swap is checked, made at its marker, and undone when its new authority stays silent;
Finial's own restart drops what it was judging and adopts the authority that the Eaves report; naming an Eave
authoritative leaves exactly that Eave authoritative. Choices and readings of the model in it: log entries 78, 79,
104. -/
def Obligations.EavesReturnAndSwap : Prop :=
  (∀ e s, (eave e s).releasing = true → exec (.eaveRestartRelease e) s = .next (byFinial (releaseEave e) s)) ∧
  (∀ e d r s, (eave e s).state = .resyncing → (eave e s).booted = true → (authority s).isSome = true →
    (d = r → let t := setEave e (fun u => { u with mismatches := 0 }) (eaveTo e .standby s)
      let t := count (cEave (Eave.code e) 3) { t with batten.ridgeOnly := none, referee.digestsAgree := true }
      exec (.resyncDigestReport e d r) s = .next (eaveReady e (journalFinial (finialBody 3 (Eave.code e)
        ControllerState.resyncing.code ControllerState.standby.code 0 0 t) t))) ∧
    (d ≠ r → (eave e s).mismatches < 2 → exec (.resyncDigestReport e d r) s =
      .next (setEave e (fun u => { u with mismatches := u.mismatches + 1 }) s)) ∧
    (d ≠ r → 2 ≤ (eave e s).mismatches → exec (.resyncDigestReport e d r) s = .next (failEave e 2 1 0 r d s))) ∧
  (∀ s due, nextSwap s = some due → marksSent s = true → s.referee.booted = true → s.referee.swapped = none →
    s.referee.selftest = .none →
    let ts := max (markerFrom due) (markerFrom (tallyNat s) + 65536)
    let t := advanceTo (ts - 65536) s
    (swapPermitted t = true → exec .roleSwapCheck s = .next { t with referee.selftest := .swap ts }) ∧
    (swapPermitted t = false → exec .roleSwapCheck s = .next (skipSwap ts t))) ∧
  (∀ s ts, s.referee.selftest = .swap ts → marksSent s = true →
    let t := advanceTo ts { s with referee.selftest := .none }
    (standby t = none → exec .roleSwapMarker s = .next (skipSwap ts t)) ∧
    (∀ e, standby t = some e → let u := passSchedule ts (count (cFinial 2) (nameAuthority e t))
      exec .roleSwapMarker s = .next { u with
        referee := { u.referee with swapped := some e, swapTick := ts, swapAnchor := true } })) ∧
  (∀ s e, s.referee.swapped = some e →
    let t := finishAll (fun k => match k with | .roleSwap u => u ≤ s.referee.swapTick | _ => false) stAborted 0 0 []
      { s with referee.swapped := none }
    ((eave (peer e) t).state = .standby →
      exec .roleSwapTimeout s = .next (failEave e 1 0 0 0 0 (nameAuthority (peer e) t))) ∧
    ((eave (peer e) t).state ≠ .standby → exec .roleSwapTimeout s = .next t)) ∧
  (∀ a b s, s.referee.booted = true →
    let t := clearCounters finialCounter s
    let t := match s.firmware.activation with
      | some x => if x.kind = 2 then settleActivations (switchDone x t) else (bootTarget 2 0 t).1
      | none => (bootTarget 2 0 t).1
    exec (.finialWatchdogRestart a b) s = .next (adoptAuthority a b (finishAll isSwapOp stAborted 0 0 []
      { t with referee := { t.referee with selftest := .none, vote := none, swapped := none } }))) ∧
  (∀ e s, (eave e (nameAuthority e s)).state = .authoritative ∧
    (eave (peer e) (nameAuthority e s)).state ≠ .authoritative ∧ authority (nameAuthority e s) = some e)

/-! ### Power, boot and the rack (04, 19) -/

/-- Table 6.12, R62, R194, R212, R760, R812: TRAY_STATE answers phase, mode and cause; MODE_SET in READY with nothing
in flight, neither collective nor replay, changes the mode at the next tick, and is refused in order; LATCH_WRITE
writes the bits that its mask names and no other latch (R369), except both Eaves' resets at once and the factory boot
source in Ledger mode. Choices and readings of the model in it: log entries 28, 35, 111, 115. -/
def Obligations.TrayCommands : Prop :=
  (∀ p s, accepted (.trayState p) p s = true → let b := base (.trayState p) p s
    Reads (.trayState p) p s (ok (le 1 b.power.phase.code ++ le 1 b.mode.code ++ le 2 (stateCause b) ++ zs 4 ++
      le 8 b.power.phaseTally))) ∧
  (∀ p s, accepted (.modeSet p) p s = true →
    let c : Instr := .modeSet p
    let b := base c p s
    let m : Mode := if field p.body 0 1 = 0 then .ledger else .openMode
    let n := b.reduction.collectives.length + (b.journal.replays.filter fun r => r.state = 0).length + bit (openFollows b)
    (b.power.phase ≠ .ready → Refuses c p s b (refusePhase b)) ∧
    (∀ r, b.power.phase = .ready → m = .ledger → ledgerRefusal b = some r → Refuses c p s b (refuse stPrecond r 0)) ∧
    (b.power.phase = .ready → (m = .ledger → ledgerRefusal b = none) →
      (n ≠ 0 → Refuses c p s b (refuse stBusy rInFlight (sat 16 n))) ∧
      (n = 0 → Completes c p s (changeMode m p.originator (advance 1 b)) (ok (le 8 (tallyNat b + 1))) id))) ∧
  (∀ p s, accepted (.latchWrite p) p s = true →
    let c : Instr := .latchWrite p
    let b := base c p s
    let g := field p.body 0 1
    let old := latchValue g b.power.latches
    let mask := field p.body 8 8
    let new := (old &&& (2 ^ 64 - 1 - mask)) ||| (field p.body 16 8 &&& mask)
    (g = 6 → new = 3 → isLedger b = true → Refuses c p s b (refuse stPrecond rMode 0)) ∧
    (g = 0 → new = 0 → Refuses c p s b (refuse stPrecond rBothEaves 0)) ∧
    (¬(g = 6 ∧ new = 3 ∧ isLedger b = true) → ¬(g = 0 ∧ new = 0) →
      let t := setLatches (fun _ => withGroup g new b.power.latches)
        (forEach ((List.range 36).filter fun i => old.testBit i != new.testBit i)
          (fun i u => latchBit g i (new.testBit i) u) b)
      t.power.latches = withGroup g new b.power.latches ∧
      Completes c p s (settleFlow t) (ok (le 8 (latchValue g (withGroup g new b.power.latches)))) id))

/-- R6, R192-R198, R205, R222, R230-R232, R239, R809, R812, R813: steps 1 to 8 of Table 4.1, the first of which gives a
new tray the default mode of its variant; an Eave that boots for the first time before step 7 is authoritative, standby
or quarantined by its epochs, and one that boots later resynchronises beside an authoritative Eave, or leads without
one with every session lost. Choices and readings of the model in it: log entries 29, 30, 104, 105. -/
def Obligations.PowerUpSteps : Prop :=
  (∀ pins mv s, 40000 ≤ mv → s.power.aonUp = false ∨ s.power.step = 1 →
    let t := retained s
    exec (.aonPowerUp pins mv) s = .next (refreshHolds { t with power := { t.power with
      aonUp := true, aonCycles := if s.power.aonUp then s.power.aonCycles else s.power.aonCycles + 1
      slotId := pins, slotPins := pins, step := 2, busOutOfRange := mv < 44000 || 58000 < mv } })) ∧
  (∀ pins mv s, mv < 40000 → exec (.aonPowerUp pins mv) s = .next s) ∧
  (∀ s, s.power.aonUp = true → let t := retained s
    exec .aonPowerLoss s = .next { t with
      power.aonUp := false, coping.aout := t.coping.aout.map fun c => { c with powered := false } }) ∧
  (∀ s, s.power.aonUp = true → s.referee.booted = false → 2 ≤ s.power.step →
    let t := (bootTarget 3 0 (bootTarget 2 0 (clearCounters finialCounter s)).1).1
    let t := byFinial (fun u => setLatches (fun l => { l with cartRailEn := l.cartRailEn ||| 2, eaveRstN := 3 })
      (cartRailOn 0 u)) { t with referee.booted := true, power.step := 4
                                 mode := if t.power.aonCycles = 1 then defaultMode t else t.mode }
    exec (.finialBoot true) s = .next (setPhase .controllers 0 { t with referee := { t.referee with
      a := { t.referee.a with powerUp := true }, b := { t.referee.b with powerUp := true } } }) ∧
    exec (.finialBoot false) s = .next s) ∧
  (∀ s, s.power.phase = .coolantGate → gatePasses s = true →
    ((authority s).isSome = true → exec .coolantGatePass s = .next (stepSeven (count (cCoolant 3) s))) ∧
    ((authority s).isSome = false → exec .coolantGatePass s = .next (setPhase .held rNoController s))) ∧
  (∀ s, s.power.phase = .coolantGate → exec .coolantGateAlert s = .next { s with power.gateAlert := true }) ∧
  (∀ s, s.power.phase = .waferRamp → s.power.step = 7 → rimRail s = true →
    exec .rimWaitExpiry s = .next (enableNext { s with power.step := 8 })) ∧
  (∀ s, s.power.phase = .waferRamp → s.power.step = 8 → exec .slateRailEnable s = .next (enableNext s)) ∧
  (∀ e ef ec ee s t k b, s.referee.booted = true → eaveRstN e s = true → (eave e s).booted = false →
    bootTarget 1 (Eave.code e) s = (t, some k, b) →
    let n := Eave.code e
    let first := (eave e t).powerUp && decide (t.power.step < 7)
    let u := clearCounters (fun id => id / 65536 = 0x12 * 256 && (id / 256) % 256 = 1 + n) t
    let u := noteEpoch (3 + n) (epochCode ec) (noteEpoch (1 + n) (epochCode ef) (resetServo e u))
    let u := setEave e (fun x => { x with booted := true, powerUp := false }) u
    let bad := decide (ef = .mismatch) || decide (ec = .mismatch)
    let u := if first then firstBoot e bad ee u else laterBoot e bad ee u
    let u := if u.power.slatesRunning then refreshTested u else u
    exec (.eaveBoot e ef ec ee) s =
      .next (settleBuilding (settleAdmission (checkCartridges
        (if b then eaveReverted e u else if eaveAdmitted e u then eaveReady e u else u)))))

/-- R210, R211, R214-R222, R225, R240, R703: steps 9 to 12 of Table 4.1: the wafer is released, BIST finds what runs,
the firmware loads from the source sampled at the release, and the banks are mounted. That a factory test boot runs the
image that is reported is the model's choice. Choices and readings of the model in it: log entries 30, 104, 109, 112,
113. -/
def Obligations.WaferBoots : Prop :=
  (∀ s, s.power.phase = .waferRamp → s.power.step = 9 → rimRail s = true →
    exec .waferResetRelease s = .next (byFinial releaseWafer s)) ∧
  (∀ s, s.power.latches.waferRstN = 0 →
    (raiseWaferReset s).power.bootSrcSampled = s.power.latches.bootSrc ∧ (raiseWaferReset s).power.latches.waferRstN = 1) ∧
  (∀ r s, s.power.phase = .bist →
    let failed := r.sites.filter fun n => slateRail n s
    let t := forEach (List.range 36) (siteBist r) s
    let t := { t with
      ports := t.ports.zipIdx.map fun q => { q.1 with faultedRim := r.rim.contains (q.2 / 4) }
      switch.brokenLinks := r.links
      power := { t.power with faultedRim := r.rim, boot := { t.power.boot with
        siteFailures := (t.power.boot.siteFailures ++ failed).eraseDups, rimFailures := rimFailures r s } } }
    (waferHeld r.rim t = true → exec (.fullBistDone r) s = .next (reachHeld rWaferBist { t with power.step := 12 })) ∧
    (waferHeld r.rim t = false →
      exec (.fullBistDone r) s = .next (setPhase .firmware 0 { t with power.step := 11 }))) ∧
  (∀ s, s.power.bootSrcSampled = 1 → s.power.phase = .bist ∨ s.power.phase = .firmware → s.power.step < 12 →
    exec .pushTimeout s = .next (holdWafer rPushTimeout s)) ∧
  (∀ r s, s.power.phase = .firmware → s.power.step = 11 →
    let t := { s with firmware.running := s.firmware.running.filter fun x => x.kind ≠ 6 }
    (s.power.bootSrcSampled = 0 → (bootTarget 0 0 t).2.1 = none ∨ r.bootable = false →
      exec (.firmwareLoadDone r) s = .next (fallBack t)) ∧
    (s.power.bootSrcSampled = 0 → (bootTarget 0 0 t).2.1 ≠ none → r.bootable = true →
      exec (.firmwareLoadDone r) s = .next (loaded r (bootTarget 0 0 t).2.2 (bootTarget 0 0 t).1)) ∧
    (s.power.bootSrcSampled = 1 → r.pushVerified = true →
      exec (.firmwareLoadDone r) s = .next (loaded r false (runImage (pushed r) t))) ∧
    (s.power.bootSrcSampled = 1 → r.pushVerified = false → exec (.firmwareLoadDone r) s = .next t) ∧
    (s.power.bootSrcSampled = 2 → exec (.firmwareLoadDone r) s = .next (recover r t)) ∧
    (s.power.bootSrcSampled = 3 →
      exec (.firmwareLoadDone r) s = .next (loaded r false (runImage (pushed r) t)))) ∧
  (∀ r s, mountDue s = true → let t := startAcquiring (mountAll r s)
    (t.power.slatesRunning = true →
      exec (.thatchMount r) s = .next (setPhase .links 0 { t with power.step := 13 })) ∧
    (t.power.slatesRunning = false → exec (.thatchMount r) s = .next t))

/-- R648, R714, R1030-R1034, R1038-R1047, R1062, Table 19.13: the busbar, the shelf, SLOT_ID and a failed cartridge;
RACK_ID and ROW_POS hold until the always-on rail is lost, MARKER_NEXT announces only outside the spans, EVENT_ACK
acknowledges only the number shown, and every refused write is counted in tray.sideband_err. Choices and readings of
the model in it: log entries 29, 88, 89. -/
def Obligations.PinsAndSideband : Prop :=
  (∀ s, s.power.aonUp = true →
    exec .busbarPowerFail s = .next (raisePowerFail s) ∧ exec .busbarOvervoltage s = .next (raisePowerFail s) ∧
    (s.power.phase = .ready →
      exec .busbarLow s = .next (count (cTray 2) { s with power.busOutOfRange := true, power.busLow := true })) ∧
    (s.power.phase = .waferRamp → s.power.step < 9 →
      exec .busbarLow s = .next (setCause rBusRange { s with power.busOutOfRange := true })) ∧
    (s.power.shelfFault = false → exec .shelfFault s = .next (count (cTray 3) { s with power.shelfFault := true })) ∧
    (s.power.shelfFault = true → exec .shelfFault s = .next s)) ∧
  (∀ s, s.power.powerFail = true →
    exec .powerFailClear s = .next (busReturned { s with power.powerFail := false }) ∧
    exec .busbarRangeReturn s = .next s ∧
    let t := byFinial (fun u => cableOff (if zoneWOn u then waferRailsOff u else u)) s
    exec .holdupExpiry s = .next (settleFlow (reachHeld rBusRange { t with power := { t.power with
      step := min t.power.step 6, cableCut := s.power.cableCut || cableRail s } }))) ∧
  (∀ s, s.power.powerFail = false →
    exec .holdupExpiry s = .next s ∧ exec .busbarRangeReturn s = .next (busReturned s)) ∧
  (∀ s, s.power.phase = .held → s.power.cause.toNat = rBusRange → gatePasses s = true → (authority s).isSome = true →
    eaveBooting .a s = false → eaveBooting .b s = false →
    exec .busRangeResume s = .next (stepSeven (count (cCoolant 3)
      { s with power := { s.power with busOutOfRange := false, busLow := false } }))) ∧
  (∀ s, exec .shelfOkReturn s = .next { s with power.shelfFault := false }) ∧
  (∀ pins s, s.power.aonUp = true → 2 ≤ s.power.step →
    (pins ≠ s.power.slotPins →
      exec (.slotIdChange pins) s = .next (count (cTray 4) { s with power.slotPins := pins })) ∧
    (pins = s.power.slotPins → exec (.slotIdChange pins) s = .next s)) ∧
  (∀ k s, s.power.faultedCartridges.contains (cartKey k) = false → exec (.cartridgeFault k) s = .next (cartridgeLost k
    { s with power.faultedCartridges := s.power.faultedCartridges ++ [cartKey k] })) ∧
  (∀ k s, s.power.faultedCartridges.contains (cartKey k) = true → exec (.cartridgeFault k) s = .next s) ∧
  (∀ v s, s.power.aonUp = true →
    (rackReserved v = true ∨ rackIdValid s = true ∧ s.referee.rackId ≠ v ||| 0x80000000 →
      exec (.rackIdWrite v) s = .next (count (cTray 5) s)) ∧
    (rackReserved v = false → rackIdValid s = true → s.referee.rackId = v ||| 0x80000000 →
      exec (.rackIdWrite v) s = .next s) ∧
    (rackReserved v = false → rackIdValid s = false → exec (.rackIdWrite v) s =
      .next (forEach (List.range 160) rackKnown { s with referee.rackId := v ||| 0x80000000 }))) ∧
  (∀ v s, s.power.aonUp = true →
    (rowReserved v = true ∨ s.referee.rowPos.getLsbD 31 = true ∧ s.referee.rowPos ≠ v ||| 0x80000000 →
      exec (.rowPosWrite v) s = .next (count (cTray 5) s)) ∧
    (rowReserved v = false → s.referee.rowPos.getLsbD 31 = false → exec (.rowPosWrite v) s =
      .next (forEach opticalPorts refreshHold { s with referee.rowPos := v ||| 0x80000000 }))) ∧
  (∀ v inside s, s.power.aonUp = true →
    (inside = true ∨ s.tally.pllLocked = false ∨ s.tally.syncPresent = false →
      exec (.markerNextWrite v inside) s = .next (count (cTray 5) s)) ∧
    (inside = false → s.tally.pllLocked = true → s.tally.syncPresent = true →
      exec (.markerNextWrite v inside) s = .next { s with tally.announced := some v.toNat })) ∧
  (∀ n s e, oldestEvent s = some e →
    (e.number ≠ n.toNat → exec (.eventAckWrite n) s = .next s) ∧
    (e.number = n.toNat → exec (.eventAckWrite n) s = .next { s with referee.events := s.referee.events.map fun x =>
      if x.number ≤ e.number then { x with heard := true } else x })) ∧
  (∀ v s, s.power.aonUp = true → exec (.invSelWrite v) s = .next { s with referee.invSel := v }) ∧
  (∀ a d bc s, s.power.aonUp = true → exec (.sidebandRegisterWrite a d bc) s =
    .next (countBy (cTray 5) (sidebandRefused a.toNat d.length bc) s))

/-! ### Packets before their commands (05) -/

/-- R287, R288, R327, Table 5.5: a packet whose header is at fault, or whose originator its path does not permit, is
answered and records no sequence; a command that checks 3 to 7 refuse, an opcode that no table assigns among them,
takes its sequence and is answered, and has no other effect but that held packets follow it and its buffers are free; a
packet with wrong framing or CRC is counted at the receiver that meets it, and wrong framing closes a management
connection. Choices and readings of the model in it: log entries 13, 14, 16. -/
def Obligations.PacketsThatDoNotRun : Prop :=
  (∀ (c : Instr) (p : Packet) (s : State), c.packet? = some p → (opRow c).isSome = true → (carry c p s).2 = true →
    let t := (carry c p s).1
    (∀ code r a, headerFault p = some (code, r, a) →
      exec c s = .next (freePacket p (answerHere p (opcodeOf c) stRange r a [] (countAt c p code t)))) ∧
    (headerFault p = none → originatorPermitted c p t = false →
      exec c s = .next (freePacket p (answerHere p (opcodeOf c) stDenied rPath 0 [] t))) ∧
    (headerFault p = none → originatorPermitted c p t = true → isOpen c = false → p.sequence = 0 →
      exec c s = .next (freePacket p (stale c p t)))) ∧
  (∀ (c : Instr) (p : Packet) (s : State) (a : Ans), c.packet? = some p → (opRow c).isSome = true →
    inTurn c p s = true → refusal (keyOf c p s) c p (recorded c p s) = some a →
    exec c s = .next (followed c p s (answerIn (keyOf c p s) p (opcodeOf c) a (recorded c p s)))) ∧
  (∀ op p s, opcodeAssigned op.toNat = false → let c : Instr := .unassignedOpcode op p
    inTurn c p s = true → exec c s =
      .next (followed c p s (answerIn (keyOf c p s) p op.toNat (refuse stUnknownOp 0 0) (recorded c p s)))) ∧
  (∀ path f bytes s,
    (∀ n k, path = .management n → connection n s = some k → eaveAnswers k.eave s = true →
      let t := count (cBatten (1 + Eave.code k.eave) (faultCode f)) s
      exec (.malformedPacket path f bytes) s = .next (if f.kind = .framing then closeConnection k t else t)) ∧
    (∀ e, path = .ridge e → (eave e s).booted = true → hearsRidge f.unit = true → unitRuns f.unit s = true →
      exec (.malformedPacket path f bytes) s = .next (count (cBatten (unitIndex f.unit) (faultCode f)) s)) ∧
    (path = .finial → s.referee.booted = true → hearsFinial f.unit = true → unitRuns f.unit s = true →
      exec (.malformedPacket path f bytes) s = .next (count (cBatten (unitIndex f.unit) (faultCode f)) s)))

/-- Table 5.6, R257-R262: what a packet of a remembered, skipped, old, early or too early sequence does. A second copy
with the same content is only counted; with another content it is answered DIVERGED and reported; an early packet waits
in its window; the others are answered STALE or BUSY, and none of them runs. An expired gap skips what is missing below
the packet that has waited longest, which is the model's choice, and runs what follows. Choices and readings of the
model in it: log entries 15, 16, 17. -/
def Obligations.WindowsOrderCommands : Prop :=
  (∀ (originator : U32) s key q c p,
    (keysOf originator.toNat).findSome? (fun k => (oldestHeld (windowOf k s)).map fun h => (k, h)) = some (key, q, c) →
    c.packet? = some p →
    exec (.gapHoldExpiry originator) s = .next (drain key q (receiverOf c p s) 512 s)) ∧
  ∀ (c : Instr) (p : Packet) (s : State), c.packet? = some p → (opRow c).isSome = true → reached c p s = true →
    let t := arrived c p s
    let o := keyOf c p s
    let q := p.sequence.toNat
    let w := windowOf o t
    let d := contentDigest c p
    (∀ x path, lookup w.marks q = some (.executed x path) ∨
        (∃ i n, lookup w.marks q = some (.held x i n) ∧ path = (i.packet?.map Packet.path).getD p.path) →
      (x = d → exec c s = .next (freePacket p (countAt c p 5 t))) ∧
      (x ≠ d → exec c s = .next (freePacket p (emit (.diverged p.originator p.sequence x d path p.path)
        (answerHere p (opcodeOf c) stDiverged 0 0 [] (countAt c p 6 t)))))) ∧
    (lookup w.marks q = some .skipped → exec c s = .next (freePacket p (stale c p t))) ∧
    (lookup w.marks q = none →
      (q ≤ w.highWater → exec c s = .next (freePacket p (stale c p t))) ∧
      (w.highWater + 1 < q → q ≤ w.highWater + 256 →
        exec c s = .next (setWindow o { w with marks := put q (.held d c t.now) w.marks } t)) ∧
      (w.highWater + 256 < q →
        exec c s = .next (freePacket p (answerUnrecorded p (opcodeOf c) stBusy rWindow 0 (countAt c p 9 t)))))

/-- R260, R287, Table 5.5: an expired gap skips what is missing below the packet that waited longest and runs what
follows; an opcode that no table assigns is answered UNKNOWN_OP and takes its sequence; a packet with wrong framing or
CRC is counted and discarded, and wrong framing closes a management connection. That the gap hold expires for the
packet that waited longest is the model's choice. Choices and readings of the model in it: log entries 14, 17. -/
def Obligations.GapsAndMalformedPackets : Prop :=
  (∀ (originator : U32) s q c p, oldestHeld (windowOf originator.toNat s) = some (q, c) → c.packet? = some p →
    exec (.gapHoldExpiry originator) s = .next (drain originator.toNat q (receiverOf c p s) 512 s)) ∧
  (∀ key target receiver fuel s w, lookup s.batten.windows key = some w →
    (∀ d c n p, lookup w.marks (w.highWater + 1) = some (.held d c n) → c.packet? = some p →
      drain key target receiver (fuel + 1) s = drain key target receiver fuel (freePacket p (execute key c p s))) ∧
    (lookup w.marks (w.highWater + 1) = none → w.highWater + 1 < target →
      drain key target receiver (fuel + 1) s = drain key target receiver fuel (count (cBatten receiver 8) (setWindow key
        (Window.prune { w with marks := put (w.highWater + 1) .skipped w.marks, highWater := w.highWater + 1 }) s))) ∧
    (lookup w.marks (w.highWater + 1) = none → target ≤ w.highWater + 1 →
      drain key target receiver (fuel + 1) s = s)) ∧
  (∀ op p s, opcodeAssigned op.toNat = false → let c : Instr := .unassignedOpcode op p
    (inTurn c p s = true → exec c s =
      .next (followed c p s (answerIn (keyOf c p s) p op.toNat (refuse stUnknownOp 0 0) (recorded c p s)))) ∧
    ((carry c p s).2 = true → headerFault p = none → originatorPermitted c p (carry c p s).1 = true →
      p.sequence ≠ 0 → (windowOf p.originator.toNat (carry c p s).1).anchored = false →
      exec c s = .next (freePacket p (answerUnrecorded p op.toNat stUnknownOp 0 0 (carry c p s).1)))) ∧
  (∀ n k f bytes s, connection n s = some k → eaveAnswers k.eave s = true →
    let t := count (cBatten (1 + Eave.code k.eave) (faultCode f)) s
    exec (.malformedPacket (.management n) f bytes) s = .next (if f.kind = .framing then closeConnection k t else t)) ∧
  (∀ q e f bytes s, let t := (battenIn q e bytes s).1
    ((battenIn q e bytes s).2 = false → exec (.malformedPacket (.inBand q e) f bytes) s = .next t) ∧
    ((battenIn q e bytes s).2 = true → exec (.malformedPacket (.inBand q e) f bytes) s =
      .next (returnCredits q 7 (creditsOf bytes.length) (releaseShingles ((servingSite q t).getD 0) (creditsOf bytes.length)
        (count (cBatten 0 (if 128 ≤ q then 1 else faultCode f)) t))))) ∧
  (∀ f bytes s, unitRuns f.unit s = true → let t := count (cBatten (unitIndex f.unit) (faultCode f)) s
    (∀ e, (eave e s).booted = true → hearsRidge f.unit = true →
      exec (.malformedPacket (.ridge e) f bytes) s = .next t) ∧
    (s.referee.booted = true → hearsFinial f.unit = true → exec (.malformedPacket .finial f bytes) s = .next t))

/-! ### The block as a whole -/

/-- A step takes the command at the front of the queue and runs it on the queue's rest; with an empty queue one tick of
D1 passes (the model's choice for the block's clock). Choices and readings of the model in it: log entry 1. -/
def Obligations.StepRunsTheFrontCommand : Prop :=
  (∀ (c : Instr) (s : State), step { s with pending := c :: s.pending } = exec c s) ∧
  (∀ (c : Instr) (rest : List Instr) (s : State), s.pending = c :: rest →
    step s = exec c { s with pending := rest }) ∧
  (∀ s : State, s.pending = [] → step s = .next (settleDue (settleResults (landAll (advance 1 s)))))

/-- What the spec gives at the always-on rail's rise: step 1 in phase AON (R193, R194), the latches of Table 4.3
(R209), the default AOUT codes and spans of Table 16.1 (R924), Ledger mode as shipped, every counter 0, the tally
ACQUIRING, nothing frozen, no session, and every queue empty. Choices and readings of the model in it: log entries 20,
21, 25. -/
def Obligations.ResetLeavesTheSpecsValues : Prop :=
  let s := State.reset
  s.power.phase = .aon ∧ s.power.step = 1 ∧ s.power.cause = 0 ∧
  s.power.latches = { eaveRstN := 0, cartRailEn := 0, rimRailEn := 0, slateRailEn := 0, slateRstN := 0, waferRstN := 0,
                      bootSrc := 0 } ∧
  s.coping.aout.map (fun c => (c.span, c.code)) =
    [(0, 0x0000), (0, 0x0000), (0, 0x0000), (0, 0x0000), (5, 0x8000), (5, 0x8000), (4, 0xFFFF), (4, 0xFFFF)] ∧
  s.mode = .ledger ∧ s.counters = {} ∧ s.tally.state = .acquiring ∧ s.freezeUnit.frozen = false ∧
  s.batten.sessions = [] ∧ s.switch.queue = [] ∧ s.loft.cells = [] ∧ s.pending = [] ∧
  (∀ q ∈ s.ports, q.state = .down) ∧ LoftCanonical s ∧ Shaped s

/-- R78: no command and no tick changes what the wafer descriptor and the factory fixed (the roles of the sites, the
order code, the stepping, the serial), and none changes the queue behind it. -/
def Obligations.NoStepChangesIdentity : Prop :=
  ∀ s t, step s = .next t → t.ident = s.ident ∧ t.pending = s.pending.tail

/-- Every step keeps the Loft's bytes in canonical form: addresses strictly rising, and no listed byte equal to what an
unlisted address reads as. Choices and readings of the model in it: log entry 55. -/
def Obligations.StepKeepsLoftCanonical : Prop :=
  ∀ s t, LoftCanonical s → step s = .next t → LoftCanonical t

/-- The block goes on: every command, whatever its operands and whatever the state, and so every step answers a next
state; the block neither faults nor refuses. -/
def Obligations.TheBlockGoesOn : Prop :=
  (∀ c s, Runs (exec c s)) ∧ ∀ s, Runs (step s)

/-! ### Frames -/

/-- The frame of a Batten command over a management connection: recording its sequence changes windows and counters
alone, answering it changes windows, what has been sent and which events have been heard. A command that only reads,
after which nothing is due and no held packet follows, leaves everything else as it was. Choices and readings of the
model in it: log entries 16, 32. -/
def Obligations.AnswersTouchOnlyTheirRecords : Prop :=
  (∀ c p n s, p.path = .management n → (carry c p s).2 = true → let b := base c p s
    b = { s with batten := b.batten, counters := b.counters }) ∧
  (∀ c p n s t a, p.path = .management n → let u := replied c p s t a
    u = { t with batten := u.batten, out := u.out, referee.events := u.referee.events }) ∧
  (∀ c p n s a, p.path = .management n → (carry c p s).2 = true → Reads c p s a →
    let u := replied c p s (base c p s) a
    restartDue u = false → readyNow u = false →
    (∀ o, o = keyOf c p s ∨ o = p.originator.toNat →
      lookup (windowOf o u).marks ((windowOf o u).highWater + 1) = none) →
      exec c s = .next u ∧ u = { s with
        batten := u.batten, counters := u.counters, out := u.out, referee.events := u.referee.events })

/-- The frame of what happens on ports, in the core's outputs and in the journal: no such event changes the mode, a
parameter, the plan, power, the tally (but for the UTC time that a record was stamped with last), the Loft, the
controllers' records, an analogue channel, an image, the patrol or the inventory, and no time passes. Choices and
readings of the model in it: log entry 2. -/
def Obligations.PortAndJournalEventsFrame : Prop :=
  ∀ c s t, portEvent c = true ∨ journalEvent_ c = true → exec c s = .next t →
    t = { s with
      batten := t.batten, counters := t.counters, ports := t.ports, sites := t.sites, switch := t.switch
      reduction := t.reduction, journal := t.journal, freezeUnit := t.freezeUnit, out := t.out
      tally.lastPtpNs := t.tally.lastPtpNs }

/-- The frame of the events that one unit alone takes: boundary scan, the analogue units' timers, the shelf and its
pins, the tally's own events, the receivers, the sideband bus and the journal's signatures. Choices and readings of the
model in it: log entry 2. -/
def Obligations.SmallEventsFrame : Prop :=
  (∀ c s t, scanEvent c = true → exec c s = .next t → t = { s with
    patrol := t.patrol, counters := t.counters, sites := t.sites, freezeUnit := t.freezeUnit, freeCount := t.freeCount }) ∧
  (∀ c s t, analogueTimer c = true → exec c s = .next t → t = { s with coping := t.coping }) ∧
  (∀ c s t, pinEvent c = true → exec c s = .next t → t = { s with power := t.power, counters := t.counters }) ∧
  (∀ c s t, tallyEvent c = true → exec c s = .next t → t = { s with
    tally := t.tally, counters := t.counters, ports := t.ports, out := t.out, freeCount := t.freeCount }) ∧
  (∀ c s t, receiverEvent c = true → exec c s = .next t → t = { s with
    ports := t.ports, sites := t.sites, switch := t.switch, counters := t.counters, freezeUnit := t.freezeUnit, out := t.out }) ∧
  (∀ c s t, sidebandEvent c = true → exec c s = .next t → t = { s with
    referee := t.referee, counters := t.counters, ports := t.ports }) ∧
  (∀ c s t, connectionEvent c = true → exec c s = .next t → t = { s with batten := t.batten, out := t.out }) ∧
  (∀ c s t, clockEvent c = true → exec c s = .next t → t = { s with
    now := t.now, tally := t.tally, counters := t.counters, reduction := t.reduction })
end

