-- ==== Sys2Proof/Laws/Maps.lean ====
section
/-! SUPPORT. Maps kept as ascending lists: what a lookup finds after a key has been set or removed. -/

namespace Sys2Proof.Machine

theorem lookup_put_same {α : Type} (n : Nat) (v : α) (m : List (Nat × α)) : lookup (put n v m) n = some v := by
  induction m with
  | nil => simp [put, lookup]
  | cons kw rest ih =>
    obtain ⟨k, w⟩ := kw
    unfold put
    split
    · simp [lookup]
    · split
      · simp [lookup]
      · next _ h => simp [lookup, Ne.symm h, ih]

theorem lookup_put_other {α : Type} {n j : Nat} (h : j ≠ n) (v : α) (m : List (Nat × α)) :
    lookup (put n v m) j = lookup m j := by
  induction m with
  | nil => simp [put, lookup, h.symm]
  | cons kw rest ih =>
    obtain ⟨k, w⟩ := kw
    unfold put
    split
    · simp [lookup, h.symm]
    · split
      · next e => subst e; simp [lookup, h.symm]
      · simp [lookup, ih]

theorem lookup_erase_other {α : Type} {n j : Nat} (h : j ≠ n) (m : List (Nat × α)) :
    lookup (erase n m) j = lookup m j := by
  induction m with
  | nil => rfl
  | cons kw rest ih =>
    obtain ⟨k, w⟩ := kw
    by_cases e : k = n
    · subst e; simp [erase, lookup, h.symm]
    · simp [erase, lookup, e, ih]

theorem windowOf_setWindow_same (o : Nat) (w : Window) (s : State) : windowOf o (setWindow o w s) = w := by
  simp [windowOf, setWindow, lookup_put_same]

theorem windowOf_setWindow_other {o p : Nat} (h : p ≠ o) (w : Window) (s : State) :
    windowOf p (setWindow o w s) = windowOf p s := by
  simp [windowOf, setWindow, lookup_put_other h]

theorem port_setPort_same {n : Nat} {s : State} (h : n < s.ports.length) (f : Port → Port) :
    port n (setPort n f s) = f (port n s) := by
  simp [port, setPort, List.getD_eq_getElem?_getD, h]

theorem port_setPort_other {n m : Nat} (h : n ≠ m) (f : Port → Port) (s : State) :
    port n (setPort m f s) = port n s := by
  simp [port, setPort, List.getD_eq_getElem?_getD, h.symm]

theorem site_setSite_same {n : Nat} {s : State} (h : n < s.sites.length) (f : Site → Site) :
    site n (setSite n f s) = f (site n s) := by
  simp [site, setSite, List.getD_eq_getElem?_getD, h]

theorem site_setSite_other {n m : Nat} (h : n ≠ m) (f : Site → Site) (s : State) :
    site n (setSite m f s) = site n s := by
  simp [site, setSite, List.getD_eq_getElem?_getD, h.symm]

theorem setPort_length (n : Nat) (f : Port → Port) (s : State) : (setPort n f s).ports.length = s.ports.length := by
  simp [setPort]

theorem setSite_length (n : Nat) (f : Site → Site) (s : State) : (setSite n f s).sites.length = s.sites.length := by
  simp [setSite]

/-! ### Sorting -/

theorem insertBy_perm {α : Type} (b : α → α → Bool) (x : α) (xs : List α) : (insertBy b x xs).Perm (x :: xs) := by
  induction xs with
  | nil => exact .refl _
  | cons y rest ih =>
    unfold insertBy
    split
    · exact .refl _
    · exact (ih.cons y).trans (.swap x y rest)

/-- Sorting loses and invents nothing. -/
theorem sortBy_perm {α : Type} (b : α → α → Bool) (xs : List α) : (sortBy b xs).Perm xs := by
  induction xs with
  | nil => exact .refl _
  | cons x rest ih => exact (insertBy_perm b x _).trans (ih.cons x)

theorem mem_sortBy {α : Type} (b : α → α → Bool) (xs : List α) (a : α) : a ∈ sortBy b xs ↔ a ∈ xs :=
  (sortBy_perm b xs).mem_iff

/-- A total and transitive order leaves every element before those it precedes. -/
theorem sortBy_pairwise {α : Type} (b : α → α → Bool) (total : ∀ x y, b x y = false → b y x = true)
    (trans : ∀ x y z, b x y = true → b y z = true → b x z = true) (xs : List α) :
    (sortBy b xs).Pairwise fun x y => b x y = true := by
  have ins : ∀ (x : α) (ys : List α), ys.Pairwise (fun x y => b x y = true) →
      (insertBy b x ys).Pairwise fun x y => b x y = true := by
    intro x ys
    induction ys with
    | nil => intro _; simp [insertBy]
    | cons y rest ih =>
      intro h
      unfold insertBy
      split
      · next hxy =>
        refine List.pairwise_cons.mpr ⟨?_, h⟩
        intro z hz
        rcases List.mem_cons.mp hz with rfl | hz
        · exact hxy
        · exact trans _ _ _ hxy ((List.pairwise_cons.mp h).1 z hz)
      · next hxy =>
        refine List.pairwise_cons.mpr ⟨?_, ih (List.pairwise_cons.mp h).2⟩
        intro z hz
        rcases List.mem_cons.mp ((insertBy_perm b x rest).mem_iff.mp hz) with rfl | hz
        · exact total _ _ (by simpa using hxy)
        · exact (List.pairwise_cons.mp h).1 z hz
  induction xs with
  | nil => exact .nil
  | cons x rest ih => exact ins x _ ih

end Sys2Proof.Machine
end

