-- ==== Sys2Proof/Laws/Batten.lean ====
section
/-! SUPPORT. What the reception of a Batten packet can do, said once: a packet out of turn, a command that checks 3 to 7
refuse, and an accepted command that completes or is refused by its own meaning. -/

namespace Sys2Proof.Machine

/-- Every command of the tables is received as a packet. -/
theorem exec_batten {c : Instr} {p : Packet} (hp : c.packet? = some p) (hr : (opRow c).isSome = true) (s : State) :
    exec c s = .next (receive c p s) := by
  cases c <;> first
    | (simp only [Instr.packet?, Option.some.injEq] at hp; subst hp; first | rfl | (simp [opRow] at hr))
    | (simp [Instr.packet?] at hp)

/-- A packet that its path carries is received; unless it comes to wait, its buffers are free again. -/
theorem receive_carried {c : Instr} {p : Packet} {s : State} (h : (carry c p s).2 = true) :
    receive c p s = if packetWaits c p (carry c p s).1 then admitPacket c p (carry c p s).1
      else freePacket p (admitPacket c p (carry c p s).1) := by
  simp [receive, h]

/-- An anchored window stays as it is. -/
theorem anchor_anchored {p : Packet} {s : State} (h : (windowOf p.originator.toNat s).anchored = true) :
    anchor p s = s := by
  simp [anchor, h]

/-- A packet that reaches its window is judged by Table 5.6. -/
theorem admitPacket_reached {c : Instr} {p : Packet} {s : State} (h : reachesWindow c p s = true) :
    admitPacket c p s = sequence c p (anchor p s) := by
  simp only [reachesWindow, Bool.and_eq_true, Bool.or_eq_true, Bool.not_eq_true', bne_iff_ne, ne_eq,
    Option.isNone_iff_eq_none] at h
  obtain ⟨⟨⟨⟨hh, ho⟩, hi⟩, hq⟩, ht⟩ := h
  simp only [admitPacket, hh, ho, hi, hq, Bool.not_true, Bool.false_eq_true, if_false, anchorAndSequence]
  split
  · next st r a pl e =>
    rcases ht with ht | ht
    · simp [ht] at e
    · simp [ht, anchor_anchored ht]
  · rfl

/-- A packet that is next in its window runs, and the packets that waited for it run after it. -/
theorem sequence_next {c : Instr} {p : Packet} {s : State} (h : isNext c p s = true) :
    sequence c p s = drainAfter (windowKey p s) p (execute (windowKey p s) c p s) := by
  simp only [isNext, Bool.and_eq_true, decide_eq_true_eq, Option.isNone_iff_eq_none] at h
  simp [sequence, h.1, h.2]

/-- A packet in turn is executed, held packets that follow it run after it, and its buffers are free again. -/
theorem exec_inTurn {c : Instr} {p : Packet} {s : State} (hp : c.packet? = some p) (hr : (opRow c).isSome = true)
    (h : inTurn c p s = true) :
    exec c s = .next (followed c p s (execute (keyOf c p s) c p (arrived c p s))) := by
  simp only [inTurn, reached, Bool.and_eq_true] at h
  have hw : packetWaits c p (carry c p s).1 = false := by
    have := h.2
    simp only [arrived] at this
    simp [packetWaits, this]
  rw [exec_batten hp hr, receive_carried h.1.1, hw, admitPacket_reached h.1.2]
  simp only [Bool.false_eq_true, if_false, followed, keyOf]
  rw [← sequence_next h.2]
  rfl

/-- An accepted command runs on its base, is answered and goes on to what follows its reply. -/
theorem exec_accepted {c : Instr} {p : Packet} {s : State} (hp : c.packet? = some p) (hr : (opRow c).isSome = true)
    (h : accepted c p s = true) :
    exec c s = .next (followed c p s
      (conclude c p (recorded c p s) (run c (base c p s)).1 (run c (base c p s)).2)) := by
  simp only [accepted, Bool.and_eq_true, Bool.or_eq_true, decide_eq_true_eq, Option.isNone_iff_eq_none] at h
  rw [exec_inTurn hp hr h.1.1]
  have h1 := h.1.2
  have h2 := h.2
  simp only [recorded] at h1 h2
  have : execute (keyOf c p s) c p (arrived c p s) = runNow (keyOf c p s) c p (recorded c p s) := by
    simp only [execute, perform, h1, recorded]
    split
    · rfl
    · next hk => rw [h2.resolve_left hk]; rfl
  rw [this]
  rfl

/-- A command whose meaning answers OK or ACCEPTED completes. -/
theorem completes_of_run {c : Instr} {p : Packet} {s t : State} {a : Ans} {after : State → State}
    (hp : c.packet? = some p) (hr : (opRow c).isSome = true) (h : accepted c p s = true)
    (hrun : run c (base c p s) = (t, a)) (ha : a.executed = true) (hf : ∀ u, follow c u = after u) :
    Completes c p s t a after := by
  unfold Completes
  rw [exec_accepted hp hr h, hrun]
  simp only [conclude, ha, if_true, hf, replied]

/-- A command that its own meaning refuses answers, and nothing follows but held packets. -/
theorem refuses_of_run {c : Instr} {p : Packet} {s t : State} {a : Ans} (hp : c.packet? = some p)
    (hr : (opRow c).isSome = true) (h : accepted c p s = true) (hrun : run c (base c p s) = (t, a))
    (ha : a.executed = false) : Refuses c p s t a := by
  unfold Refuses
  rw [exec_accepted hp hr h, hrun]
  simp [conclude, ha]

/-- With nothing held at H + 1, no packet runs after a command. -/
theorem drain_nothing {o k fuel : Nat} {s : State}
    (h : lookup (windowOf o s).marks ((windowOf o s).highWater + 1) = none) : drain o 0 k fuel s = s := by
  cases fuel with
  | zero => rfl
  | succ n =>
    cases e : lookup s.batten.windows o with
    | none => simp [drain, e]
    | some w => simp [windowOf, e] at h; simp [drain, e, h]

/-- Only a packet from a port holds buffers. -/
theorem freePacket_other {p : Packet} {s : State} (h : ∀ q e, p.path ≠ .inBand q e) : freePacket p s = s := by
  unfold freePacket
  split
  · next q e he => exact absurd he (h q e)
  · rfl

/-- Nothing is due: neither the restart of R965 nor the phase READY. -/
theorem settleDue_quiet {s : State} (h : restartDue s = false) (k : readyNow s = false) : settleDue s = s := by
  simp [settleDue, checkReady, h, k]

end Sys2Proof.Machine
end

