-- ==== Sys2Proof/Laws/Memory.lean ====
section
/-! SUPPORT. The Loft's bytes: what a read finds after a write, and that every operation keeps the canonical form. -/

namespace Sys2Proof.Machine

theorem cellsFrom_mono {lo lo' : Nat} (h : lo ≤ lo') {m : List Host.Cell} (w : cellsFrom lo' m = true) :
    cellsFrom lo m = true := by
  cases m with
  | nil => rfl
  | cons c rest => simp only [cellsFrom, Bool.and_eq_true, decide_eq_true_eq] at w ⊢; exact ⟨⟨by omega, w.1.2⟩, w.2⟩

theorem cellsFrom_put {lo a : Nat} {v : Byte} (ha : lo ≤ a) (hv : v ≠ 0) :
    ∀ {m : List Host.Cell}, cellsFrom lo m = true → cellsFrom lo (put a v m) = true
  | [], _ => by simpa [put, cellsFrom, ha] using hv
  | (k, w) :: rest, h => by
    simp only [cellsFrom, Bool.and_eq_true, decide_eq_true_eq] at h
    unfold put
    split
    · next l =>
      simp only [cellsFrom, Bool.and_eq_true, decide_eq_true_eq, bne_iff_ne] at h ⊢
      exact ⟨⟨ha, hv⟩, ⟨by omega, h.1.2⟩, h.2⟩
    · split
      · next _ e => subst e; simpa [cellsFrom, ha, h.2] using hv
      · next l e =>
        simp only [cellsFrom, Bool.and_eq_true, decide_eq_true_eq]
        exact ⟨⟨h.1.1, h.1.2⟩, cellsFrom_put (by omega) hv h.2⟩

theorem cellsFrom_erase {a : Nat} : ∀ {lo : Nat} {m : List Host.Cell}, cellsFrom lo m = true →
    cellsFrom lo (erase a m) = true
  | _, [], _ => rfl
  | lo, (k, w) :: rest, h => by
    simp only [cellsFrom, Bool.and_eq_true, decide_eq_true_eq] at h
    unfold erase
    split
    · exact cellsFrom_mono (by omega) h.2
    · simp only [cellsFrom, Bool.and_eq_true, decide_eq_true_eq]
      exact ⟨h.1, cellsFrom_erase h.2⟩

theorem cellsFrom_filter (p : Host.Cell → Bool) : ∀ {lo : Nat} {m : List Host.Cell}, cellsFrom lo m = true →
    cellsFrom lo (m.filter p) = true
  | _, [], _ => rfl
  | lo, (k, w) :: rest, h => by
    simp only [cellsFrom, Bool.and_eq_true, decide_eq_true_eq] at h
    by_cases e : p (k, w) = true
    · simp only [List.filter_cons, e, if_true, cellsFrom, Bool.and_eq_true, decide_eq_true_eq]
      exact ⟨h.1, cellsFrom_filter p h.2⟩
    · simp only [List.filter_cons, e]
      exact cellsFrom_filter p (cellsFrom_mono (by omega) h.2)

/-! ### Every memory operation keeps the canonical form -/

theorem writeByte_wf {a : Nat} {v : Byte} {m : List Host.Cell} (h : Memory.wf m = true) :
    Memory.wf (writeByte a v m) = true := by
  unfold writeByte
  split
  · exact cellsFrom_erase h
  · next hv => exact cellsFrom_put (Nat.zero_le a) hv h

theorem writeBytes_wf : ∀ {bs : List Byte} {a : Nat} {m : List Host.Cell}, Memory.wf m = true →
    Memory.wf (writeBytes a bs m) = true
  | [], _, _, h => h
  | _ :: _, _, _, h => writeBytes_wf (m := writeByte _ _ _) (writeByte_wf h)

theorem zeroRange_wf {b n : Nat} {m : List Host.Cell} (h : Memory.wf m = true) : Memory.wf (zeroRange b n m) = true :=
  cellsFrom_filter _ h

theorem nil_wf : Memory.wf [] = true := rfl

/-! ### Reading after writing -/

theorem lookup_below {lo a : Nat} (h : a < lo) : ∀ {m : List Host.Cell}, cellsFrom lo m = true → lookup m a = none
  | [], _ => rfl
  | (k, w) :: rest, c => by
    simp only [cellsFrom, Bool.and_eq_true, decide_eq_true_eq] at c
    have : k ≠ a := by omega
    simp only [lookup, this, if_false]
    exact lookup_below (by omega) c.2

theorem lookup_erase_same {a : Nat} : ∀ {lo : Nat} {m : List Host.Cell}, cellsFrom lo m = true →
    lookup (erase a m) a = none
  | _, [], _ => rfl
  | lo, (k, w) :: rest, c => by
    simp only [cellsFrom, Bool.and_eq_true, decide_eq_true_eq] at c
    by_cases e : k = a
    · subst e; simp only [erase, if_true]; exact lookup_below (Nat.lt_succ_self k) c.2
    · simp only [erase, e, if_false, lookup]; exact lookup_erase_same c.2

theorem read_write_same {a : Nat} {v : Byte} {m : List Host.Cell} (h : Memory.wf m = true) :
    readByte a (writeByte a v m) = v := by
  unfold readByte writeByte
  split
  · next e => simp [lookup_erase_same h, e]
  · simp [lookup_put_same]

theorem read_write_other {a b : Nat} {v : Byte} {m : List Host.Cell} (h : b ≠ a) :
    readByte b (writeByte a v m) = readByte b m := by
  unfold readByte writeByte
  split
  · rw [lookup_erase_other h]
  · rw [lookup_put_other h]

theorem read_writeBytes_outside {b : Nat} : ∀ {bs : List Byte} {a : Nat} {m : List Host.Cell},
    b < a ∨ a + bs.length ≤ b → readByte b (writeBytes a bs m) = readByte b m
  | [], _, _, _ => rfl
  | v :: bs, a, m, h => by
    simp only [List.length_cons] at h
    unfold writeBytes
    rw [read_writeBytes_outside (by omega), read_write_other (by omega)]

theorem read_writeBytes_inside {i : Nat} : ∀ {bs : List Byte} {a : Nat} {m : List Host.Cell} (_ : Memory.wf m = true)
    (h : i < bs.length), readByte (a + i) (writeBytes a bs m) = bs[i]
  | v :: bs, a, m, w, h => by
    unfold writeBytes
    cases i with
    | zero =>
      rw [read_writeBytes_outside (by omega)]
      simpa using read_write_same w
    | succ i =>
      have e : a + (i + 1) = (a + 1) + i := by omega
      rw [e, read_writeBytes_inside (writeByte_wf w) (by simpa using h)]
      rfl

theorem zeroRange_cons (b n k : Nat) (w : Byte) (rest : List Host.Cell) : zeroRange b n ((k, w) :: rest) =
    if b ≤ k ∧ k < b + n then zeroRange b n rest else (k, w) :: zeroRange b n rest := by
  by_cases e : b ≤ k ∧ k < b + n
  · simp [zeroRange, e]
  · rw [if_neg e]
    have : (!(decide (b ≤ k) && decide (k < b + n))) = true := by
      simp only [Bool.not_eq_true', Bool.and_eq_false_iff, decide_eq_false_iff_not]; omega
    simp only [zeroRange, List.filter_cons, this, if_true]

theorem read_zeroRange_inside {b n a : Nat} (h : b ≤ a ∧ a < b + n) : ∀ {m : List Host.Cell},
    readByte a (zeroRange b n m) = 0
  | [] => rfl
  | (k, w) :: rest => by
    have ih := read_zeroRange_inside h (m := rest)
    rw [zeroRange_cons]
    split
    · exact ih
    · next e =>
      have : k ≠ a := by rintro rfl; exact e h
      simpa [readByte, lookup, this] using ih

theorem read_zeroRange_outside {b n a : Nat} (h : a < b ∨ b + n ≤ a) : ∀ {m : List Host.Cell},
    readByte a (zeroRange b n m) = readByte a m
  | [] => rfl
  | (k, w) :: rest => by
    have ih := read_zeroRange_outside h (m := rest)
    rw [zeroRange_cons]
    split
    · next e =>
      have : k ≠ a := by rintro rfl; omega
      simpa [readByte, lookup, this] using ih
    · by_cases k' : k = a
      · simp [readByte, lookup, k']
      · simpa [readByte, lookup, k'] using ih

end Sys2Proof.Machine
end

