-- ==== Sys2Proof/Laws/State.lean ====
section
/-! SUPPORT. What each update of the state leaves as it was: one lemma per field and update. -/

namespace Sys2Proof.Machine

/-! ### `emit` -/

@[simp] theorem emit_ident (o : Out) (s : State) : (emit o s).ident = s.ident := rfl
@[simp] theorem emit_mode (o : Out) (s : State) : (emit o s).mode = s.mode := rfl
@[simp] theorem emit_params (o : Out) (s : State) : (emit o s).params = s.params := rfl
@[simp] theorem emit_plan (o : Out) (s : State) : (emit o s).plan = s.plan := rfl
@[simp] theorem emit_planLoaded (o : Out) (s : State) : (emit o s).planLoaded = s.planLoaded := rfl
@[simp] theorem emit_power (o : Out) (s : State) : (emit o s).power = s.power := rfl
@[simp] theorem emit_batten (o : Out) (s : State) : (emit o s).batten = s.batten := rfl
@[simp] theorem emit_tally (o : Out) (s : State) : (emit o s).tally = s.tally := rfl
@[simp] theorem emit_counters (o : Out) (s : State) : (emit o s).counters = s.counters := rfl
@[simp] theorem emit_ports (o : Out) (s : State) : (emit o s).ports = s.ports := rfl
@[simp] theorem emit_sites (o : Out) (s : State) : (emit o s).sites = s.sites := rfl
@[simp] theorem emit_switch (o : Out) (s : State) : (emit o s).switch = s.switch := rfl
@[simp] theorem emit_reduction (o : Out) (s : State) : (emit o s).reduction = s.reduction := rfl
@[simp] theorem emit_loft (o : Out) (s : State) : (emit o s).loft = s.loft := rfl
@[simp] theorem emit_journal (o : Out) (s : State) : (emit o s).journal = s.journal := rfl
@[simp] theorem emit_freezeUnit (o : Out) (s : State) : (emit o s).freezeUnit = s.freezeUnit := rfl
@[simp] theorem emit_referee (o : Out) (s : State) : (emit o s).referee = s.referee := rfl
@[simp] theorem emit_coping (o : Out) (s : State) : (emit o s).coping = s.coping := rfl
@[simp] theorem emit_firmware (o : Out) (s : State) : (emit o s).firmware = s.firmware := rfl
@[simp] theorem emit_patrol (o : Out) (s : State) : (emit o s).patrol = s.patrol := rfl
@[simp] theorem emit_invCycles (o : Out) (s : State) : (emit o s).invCycles = s.invCycles := rfl
@[simp] theorem emit_invHours (o : Out) (s : State) : (emit o s).invHours = s.invHours := rfl
@[simp] theorem emit_invAt (o : Out) (s : State) : (emit o s).invAt = s.invAt := rfl
@[simp] theorem emit_now (o : Out) (s : State) : (emit o s).now = s.now := rfl
@[simp] theorem emit_freeCount (o : Out) (s : State) : (emit o s).freeCount = s.freeCount := rfl
@[simp] theorem emit_pending (o : Out) (s : State) : (emit o s).pending = s.pending := rfl

/-! ### `bumpFree` -/

@[simp] theorem bumpFree_ident (s : State) : (bumpFree s).ident = s.ident := rfl
@[simp] theorem bumpFree_mode (s : State) : (bumpFree s).mode = s.mode := rfl
@[simp] theorem bumpFree_params (s : State) : (bumpFree s).params = s.params := rfl
@[simp] theorem bumpFree_plan (s : State) : (bumpFree s).plan = s.plan := rfl
@[simp] theorem bumpFree_planLoaded (s : State) : (bumpFree s).planLoaded = s.planLoaded := rfl
@[simp] theorem bumpFree_power (s : State) : (bumpFree s).power = s.power := rfl
@[simp] theorem bumpFree_batten (s : State) : (bumpFree s).batten = s.batten := rfl
@[simp] theorem bumpFree_tally (s : State) : (bumpFree s).tally = s.tally := rfl
@[simp] theorem bumpFree_counters (s : State) : (bumpFree s).counters = s.counters := rfl
@[simp] theorem bumpFree_ports (s : State) : (bumpFree s).ports = s.ports := rfl
@[simp] theorem bumpFree_sites (s : State) : (bumpFree s).sites = s.sites := rfl
@[simp] theorem bumpFree_switch (s : State) : (bumpFree s).switch = s.switch := rfl
@[simp] theorem bumpFree_reduction (s : State) : (bumpFree s).reduction = s.reduction := rfl
@[simp] theorem bumpFree_loft (s : State) : (bumpFree s).loft = s.loft := rfl
@[simp] theorem bumpFree_journal (s : State) : (bumpFree s).journal = s.journal := rfl
@[simp] theorem bumpFree_freezeUnit (s : State) : (bumpFree s).freezeUnit = s.freezeUnit := rfl
@[simp] theorem bumpFree_referee (s : State) : (bumpFree s).referee = s.referee := rfl
@[simp] theorem bumpFree_coping (s : State) : (bumpFree s).coping = s.coping := rfl
@[simp] theorem bumpFree_firmware (s : State) : (bumpFree s).firmware = s.firmware := rfl
@[simp] theorem bumpFree_patrol (s : State) : (bumpFree s).patrol = s.patrol := rfl
@[simp] theorem bumpFree_invCycles (s : State) : (bumpFree s).invCycles = s.invCycles := rfl
@[simp] theorem bumpFree_invHours (s : State) : (bumpFree s).invHours = s.invHours := rfl
@[simp] theorem bumpFree_invAt (s : State) : (bumpFree s).invAt = s.invAt := rfl
@[simp] theorem bumpFree_out (s : State) : (bumpFree s).out = s.out := rfl
@[simp] theorem bumpFree_now (s : State) : (bumpFree s).now = s.now := rfl
@[simp] theorem bumpFree_pending (s : State) : (bumpFree s).pending = s.pending := rfl

/-! ### `countBy` -/

@[simp] theorem countBy_ident (id n : Nat) (s : State) : (countBy id n s).ident = s.ident := rfl
@[simp] theorem countBy_mode (id n : Nat) (s : State) : (countBy id n s).mode = s.mode := rfl
@[simp] theorem countBy_params (id n : Nat) (s : State) : (countBy id n s).params = s.params := rfl
@[simp] theorem countBy_plan (id n : Nat) (s : State) : (countBy id n s).plan = s.plan := rfl
@[simp] theorem countBy_planLoaded (id n : Nat) (s : State) : (countBy id n s).planLoaded = s.planLoaded := rfl
@[simp] theorem countBy_power (id n : Nat) (s : State) : (countBy id n s).power = s.power := rfl
@[simp] theorem countBy_batten (id n : Nat) (s : State) : (countBy id n s).batten = s.batten := rfl
@[simp] theorem countBy_tally (id n : Nat) (s : State) : (countBy id n s).tally = s.tally := rfl
@[simp] theorem countBy_ports (id n : Nat) (s : State) : (countBy id n s).ports = s.ports := rfl
@[simp] theorem countBy_sites (id n : Nat) (s : State) : (countBy id n s).sites = s.sites := rfl
@[simp] theorem countBy_switch (id n : Nat) (s : State) : (countBy id n s).switch = s.switch := rfl
@[simp] theorem countBy_reduction (id n : Nat) (s : State) : (countBy id n s).reduction = s.reduction := rfl
@[simp] theorem countBy_loft (id n : Nat) (s : State) : (countBy id n s).loft = s.loft := rfl
@[simp] theorem countBy_journal (id n : Nat) (s : State) : (countBy id n s).journal = s.journal := rfl
@[simp] theorem countBy_freezeUnit (id n : Nat) (s : State) : (countBy id n s).freezeUnit = s.freezeUnit := rfl
@[simp] theorem countBy_referee (id n : Nat) (s : State) : (countBy id n s).referee = s.referee := rfl
@[simp] theorem countBy_coping (id n : Nat) (s : State) : (countBy id n s).coping = s.coping := rfl
@[simp] theorem countBy_firmware (id n : Nat) (s : State) : (countBy id n s).firmware = s.firmware := rfl
@[simp] theorem countBy_patrol (id n : Nat) (s : State) : (countBy id n s).patrol = s.patrol := rfl
@[simp] theorem countBy_invCycles (id n : Nat) (s : State) : (countBy id n s).invCycles = s.invCycles := rfl
@[simp] theorem countBy_invHours (id n : Nat) (s : State) : (countBy id n s).invHours = s.invHours := rfl
@[simp] theorem countBy_invAt (id n : Nat) (s : State) : (countBy id n s).invAt = s.invAt := rfl
@[simp] theorem countBy_out (id n : Nat) (s : State) : (countBy id n s).out = s.out := rfl
@[simp] theorem countBy_now (id n : Nat) (s : State) : (countBy id n s).now = s.now := rfl
@[simp] theorem countBy_freeCount (id n : Nat) (s : State) : (countBy id n s).freeCount = s.freeCount := rfl
@[simp] theorem countBy_pending (id n : Nat) (s : State) : (countBy id n s).pending = s.pending := rfl

/-! ### `count` -/

@[simp] theorem count_ident (id : Nat) (s : State) : (count id s).ident = s.ident := rfl
@[simp] theorem count_mode (id : Nat) (s : State) : (count id s).mode = s.mode := rfl
@[simp] theorem count_params (id : Nat) (s : State) : (count id s).params = s.params := rfl
@[simp] theorem count_plan (id : Nat) (s : State) : (count id s).plan = s.plan := rfl
@[simp] theorem count_planLoaded (id : Nat) (s : State) : (count id s).planLoaded = s.planLoaded := rfl
@[simp] theorem count_power (id : Nat) (s : State) : (count id s).power = s.power := rfl
@[simp] theorem count_batten (id : Nat) (s : State) : (count id s).batten = s.batten := rfl
@[simp] theorem count_tally (id : Nat) (s : State) : (count id s).tally = s.tally := rfl
@[simp] theorem count_ports (id : Nat) (s : State) : (count id s).ports = s.ports := rfl
@[simp] theorem count_sites (id : Nat) (s : State) : (count id s).sites = s.sites := rfl
@[simp] theorem count_switch (id : Nat) (s : State) : (count id s).switch = s.switch := rfl
@[simp] theorem count_reduction (id : Nat) (s : State) : (count id s).reduction = s.reduction := rfl
@[simp] theorem count_loft (id : Nat) (s : State) : (count id s).loft = s.loft := rfl
@[simp] theorem count_journal (id : Nat) (s : State) : (count id s).journal = s.journal := rfl
@[simp] theorem count_freezeUnit (id : Nat) (s : State) : (count id s).freezeUnit = s.freezeUnit := rfl
@[simp] theorem count_referee (id : Nat) (s : State) : (count id s).referee = s.referee := rfl
@[simp] theorem count_coping (id : Nat) (s : State) : (count id s).coping = s.coping := rfl
@[simp] theorem count_firmware (id : Nat) (s : State) : (count id s).firmware = s.firmware := rfl
@[simp] theorem count_patrol (id : Nat) (s : State) : (count id s).patrol = s.patrol := rfl
@[simp] theorem count_invCycles (id : Nat) (s : State) : (count id s).invCycles = s.invCycles := rfl
@[simp] theorem count_invHours (id : Nat) (s : State) : (count id s).invHours = s.invHours := rfl
@[simp] theorem count_invAt (id : Nat) (s : State) : (count id s).invAt = s.invAt := rfl
@[simp] theorem count_out (id : Nat) (s : State) : (count id s).out = s.out := rfl
@[simp] theorem count_now (id : Nat) (s : State) : (count id s).now = s.now := rfl
@[simp] theorem count_freeCount (id : Nat) (s : State) : (count id s).freeCount = s.freeCount := rfl
@[simp] theorem count_pending (id : Nat) (s : State) : (count id s).pending = s.pending := rfl

/-! ### `clearCounters` -/

@[simp] theorem clearCounters_ident (w : Nat → Bool) (s : State) : (clearCounters w s).ident = s.ident := rfl
@[simp] theorem clearCounters_mode (w : Nat → Bool) (s : State) : (clearCounters w s).mode = s.mode := rfl
@[simp] theorem clearCounters_params (w : Nat → Bool) (s : State) : (clearCounters w s).params = s.params := rfl
@[simp] theorem clearCounters_plan (w : Nat → Bool) (s : State) : (clearCounters w s).plan = s.plan := rfl
@[simp] theorem clearCounters_planLoaded (w : Nat → Bool) (s : State) : (clearCounters w s).planLoaded = s.planLoaded := rfl
@[simp] theorem clearCounters_power (w : Nat → Bool) (s : State) : (clearCounters w s).power = s.power := rfl
@[simp] theorem clearCounters_batten (w : Nat → Bool) (s : State) : (clearCounters w s).batten = s.batten := rfl
@[simp] theorem clearCounters_tally (w : Nat → Bool) (s : State) : (clearCounters w s).tally = s.tally := rfl
@[simp] theorem clearCounters_ports (w : Nat → Bool) (s : State) : (clearCounters w s).ports = s.ports := rfl
@[simp] theorem clearCounters_sites (w : Nat → Bool) (s : State) : (clearCounters w s).sites = s.sites := rfl
@[simp] theorem clearCounters_switch (w : Nat → Bool) (s : State) : (clearCounters w s).switch = s.switch := rfl
@[simp] theorem clearCounters_reduction (w : Nat → Bool) (s : State) : (clearCounters w s).reduction = s.reduction := rfl
@[simp] theorem clearCounters_loft (w : Nat → Bool) (s : State) : (clearCounters w s).loft = s.loft := rfl
@[simp] theorem clearCounters_journal (w : Nat → Bool) (s : State) : (clearCounters w s).journal = s.journal := rfl
@[simp] theorem clearCounters_freezeUnit (w : Nat → Bool) (s : State) : (clearCounters w s).freezeUnit = s.freezeUnit := rfl
@[simp] theorem clearCounters_referee (w : Nat → Bool) (s : State) : (clearCounters w s).referee = s.referee := rfl
@[simp] theorem clearCounters_coping (w : Nat → Bool) (s : State) : (clearCounters w s).coping = s.coping := rfl
@[simp] theorem clearCounters_firmware (w : Nat → Bool) (s : State) : (clearCounters w s).firmware = s.firmware := rfl
@[simp] theorem clearCounters_patrol (w : Nat → Bool) (s : State) : (clearCounters w s).patrol = s.patrol := rfl
@[simp] theorem clearCounters_invCycles (w : Nat → Bool) (s : State) : (clearCounters w s).invCycles = s.invCycles := rfl
@[simp] theorem clearCounters_invHours (w : Nat → Bool) (s : State) : (clearCounters w s).invHours = s.invHours := rfl
@[simp] theorem clearCounters_invAt (w : Nat → Bool) (s : State) : (clearCounters w s).invAt = s.invAt := rfl
@[simp] theorem clearCounters_out (w : Nat → Bool) (s : State) : (clearCounters w s).out = s.out := rfl
@[simp] theorem clearCounters_now (w : Nat → Bool) (s : State) : (clearCounters w s).now = s.now := rfl
@[simp] theorem clearCounters_freeCount (w : Nat → Bool) (s : State) : (clearCounters w s).freeCount = s.freeCount := rfl
@[simp] theorem clearCounters_pending (w : Nat → Bool) (s : State) : (clearCounters w s).pending = s.pending := rfl

/-! ### `setPort` -/

@[simp] theorem setPort_ident (p : Nat) (f : Port → Port) (s : State) : (setPort p f s).ident = s.ident := rfl
@[simp] theorem setPort_mode (p : Nat) (f : Port → Port) (s : State) : (setPort p f s).mode = s.mode := rfl
@[simp] theorem setPort_params (p : Nat) (f : Port → Port) (s : State) : (setPort p f s).params = s.params := rfl
@[simp] theorem setPort_plan (p : Nat) (f : Port → Port) (s : State) : (setPort p f s).plan = s.plan := rfl
@[simp] theorem setPort_planLoaded (p : Nat) (f : Port → Port) (s : State) : (setPort p f s).planLoaded = s.planLoaded := rfl
@[simp] theorem setPort_power (p : Nat) (f : Port → Port) (s : State) : (setPort p f s).power = s.power := rfl
@[simp] theorem setPort_batten (p : Nat) (f : Port → Port) (s : State) : (setPort p f s).batten = s.batten := rfl
@[simp] theorem setPort_tally (p : Nat) (f : Port → Port) (s : State) : (setPort p f s).tally = s.tally := rfl
@[simp] theorem setPort_counters (p : Nat) (f : Port → Port) (s : State) : (setPort p f s).counters = s.counters := rfl
@[simp] theorem setPort_sites (p : Nat) (f : Port → Port) (s : State) : (setPort p f s).sites = s.sites := rfl
@[simp] theorem setPort_switch (p : Nat) (f : Port → Port) (s : State) : (setPort p f s).switch = s.switch := rfl
@[simp] theorem setPort_reduction (p : Nat) (f : Port → Port) (s : State) : (setPort p f s).reduction = s.reduction := rfl
@[simp] theorem setPort_loft (p : Nat) (f : Port → Port) (s : State) : (setPort p f s).loft = s.loft := rfl
@[simp] theorem setPort_journal (p : Nat) (f : Port → Port) (s : State) : (setPort p f s).journal = s.journal := rfl
@[simp] theorem setPort_freezeUnit (p : Nat) (f : Port → Port) (s : State) : (setPort p f s).freezeUnit = s.freezeUnit := rfl
@[simp] theorem setPort_referee (p : Nat) (f : Port → Port) (s : State) : (setPort p f s).referee = s.referee := rfl
@[simp] theorem setPort_coping (p : Nat) (f : Port → Port) (s : State) : (setPort p f s).coping = s.coping := rfl
@[simp] theorem setPort_firmware (p : Nat) (f : Port → Port) (s : State) : (setPort p f s).firmware = s.firmware := rfl
@[simp] theorem setPort_patrol (p : Nat) (f : Port → Port) (s : State) : (setPort p f s).patrol = s.patrol := rfl
@[simp] theorem setPort_invCycles (p : Nat) (f : Port → Port) (s : State) : (setPort p f s).invCycles = s.invCycles := rfl
@[simp] theorem setPort_invHours (p : Nat) (f : Port → Port) (s : State) : (setPort p f s).invHours = s.invHours := rfl
@[simp] theorem setPort_invAt (p : Nat) (f : Port → Port) (s : State) : (setPort p f s).invAt = s.invAt := rfl
@[simp] theorem setPort_out (p : Nat) (f : Port → Port) (s : State) : (setPort p f s).out = s.out := rfl
@[simp] theorem setPort_now (p : Nat) (f : Port → Port) (s : State) : (setPort p f s).now = s.now := rfl
@[simp] theorem setPort_freeCount (p : Nat) (f : Port → Port) (s : State) : (setPort p f s).freeCount = s.freeCount := rfl
@[simp] theorem setPort_pending (p : Nat) (f : Port → Port) (s : State) : (setPort p f s).pending = s.pending := rfl

/-! ### `setSite` -/

@[simp] theorem setSite_ident (n : Nat) (f : Site → Site) (s : State) : (setSite n f s).ident = s.ident := rfl
@[simp] theorem setSite_mode (n : Nat) (f : Site → Site) (s : State) : (setSite n f s).mode = s.mode := rfl
@[simp] theorem setSite_params (n : Nat) (f : Site → Site) (s : State) : (setSite n f s).params = s.params := rfl
@[simp] theorem setSite_plan (n : Nat) (f : Site → Site) (s : State) : (setSite n f s).plan = s.plan := rfl
@[simp] theorem setSite_planLoaded (n : Nat) (f : Site → Site) (s : State) : (setSite n f s).planLoaded = s.planLoaded := rfl
@[simp] theorem setSite_power (n : Nat) (f : Site → Site) (s : State) : (setSite n f s).power = s.power := rfl
@[simp] theorem setSite_batten (n : Nat) (f : Site → Site) (s : State) : (setSite n f s).batten = s.batten := rfl
@[simp] theorem setSite_tally (n : Nat) (f : Site → Site) (s : State) : (setSite n f s).tally = s.tally := rfl
@[simp] theorem setSite_counters (n : Nat) (f : Site → Site) (s : State) : (setSite n f s).counters = s.counters := rfl
@[simp] theorem setSite_ports (n : Nat) (f : Site → Site) (s : State) : (setSite n f s).ports = s.ports := rfl
@[simp] theorem setSite_switch (n : Nat) (f : Site → Site) (s : State) : (setSite n f s).switch = s.switch := rfl
@[simp] theorem setSite_reduction (n : Nat) (f : Site → Site) (s : State) : (setSite n f s).reduction = s.reduction := rfl
@[simp] theorem setSite_loft (n : Nat) (f : Site → Site) (s : State) : (setSite n f s).loft = s.loft := rfl
@[simp] theorem setSite_journal (n : Nat) (f : Site → Site) (s : State) : (setSite n f s).journal = s.journal := rfl
@[simp] theorem setSite_freezeUnit (n : Nat) (f : Site → Site) (s : State) : (setSite n f s).freezeUnit = s.freezeUnit := rfl
@[simp] theorem setSite_referee (n : Nat) (f : Site → Site) (s : State) : (setSite n f s).referee = s.referee := rfl
@[simp] theorem setSite_coping (n : Nat) (f : Site → Site) (s : State) : (setSite n f s).coping = s.coping := rfl
@[simp] theorem setSite_firmware (n : Nat) (f : Site → Site) (s : State) : (setSite n f s).firmware = s.firmware := rfl
@[simp] theorem setSite_patrol (n : Nat) (f : Site → Site) (s : State) : (setSite n f s).patrol = s.patrol := rfl
@[simp] theorem setSite_invCycles (n : Nat) (f : Site → Site) (s : State) : (setSite n f s).invCycles = s.invCycles := rfl
@[simp] theorem setSite_invHours (n : Nat) (f : Site → Site) (s : State) : (setSite n f s).invHours = s.invHours := rfl
@[simp] theorem setSite_invAt (n : Nat) (f : Site → Site) (s : State) : (setSite n f s).invAt = s.invAt := rfl
@[simp] theorem setSite_out (n : Nat) (f : Site → Site) (s : State) : (setSite n f s).out = s.out := rfl
@[simp] theorem setSite_now (n : Nat) (f : Site → Site) (s : State) : (setSite n f s).now = s.now := rfl
@[simp] theorem setSite_freeCount (n : Nat) (f : Site → Site) (s : State) : (setSite n f s).freeCount = s.freeCount := rfl
@[simp] theorem setSite_pending (n : Nat) (f : Site → Site) (s : State) : (setSite n f s).pending = s.pending := rfl

/-! ### `portTo` -/

@[simp] theorem portTo_ident (p : Nat) (st : PortState) (c : Nat) (s : State) : (portTo p st c s).ident = s.ident := rfl
@[simp] theorem portTo_mode (p : Nat) (st : PortState) (c : Nat) (s : State) : (portTo p st c s).mode = s.mode := rfl
@[simp] theorem portTo_params (p : Nat) (st : PortState) (c : Nat) (s : State) : (portTo p st c s).params = s.params := rfl
@[simp] theorem portTo_plan (p : Nat) (st : PortState) (c : Nat) (s : State) : (portTo p st c s).plan = s.plan := rfl
@[simp] theorem portTo_planLoaded (p : Nat) (st : PortState) (c : Nat) (s : State) : (portTo p st c s).planLoaded = s.planLoaded := rfl
@[simp] theorem portTo_power (p : Nat) (st : PortState) (c : Nat) (s : State) : (portTo p st c s).power = s.power := rfl
@[simp] theorem portTo_batten (p : Nat) (st : PortState) (c : Nat) (s : State) : (portTo p st c s).batten = s.batten := rfl
@[simp] theorem portTo_tally (p : Nat) (st : PortState) (c : Nat) (s : State) : (portTo p st c s).tally = s.tally := rfl
@[simp] theorem portTo_counters (p : Nat) (st : PortState) (c : Nat) (s : State) : (portTo p st c s).counters = s.counters := rfl
@[simp] theorem portTo_sites (p : Nat) (st : PortState) (c : Nat) (s : State) : (portTo p st c s).sites = s.sites := rfl
@[simp] theorem portTo_switch (p : Nat) (st : PortState) (c : Nat) (s : State) : (portTo p st c s).switch = s.switch := rfl
@[simp] theorem portTo_reduction (p : Nat) (st : PortState) (c : Nat) (s : State) : (portTo p st c s).reduction = s.reduction := rfl
@[simp] theorem portTo_loft (p : Nat) (st : PortState) (c : Nat) (s : State) : (portTo p st c s).loft = s.loft := rfl
@[simp] theorem portTo_journal (p : Nat) (st : PortState) (c : Nat) (s : State) : (portTo p st c s).journal = s.journal := rfl
@[simp] theorem portTo_freezeUnit (p : Nat) (st : PortState) (c : Nat) (s : State) : (portTo p st c s).freezeUnit = s.freezeUnit := rfl
@[simp] theorem portTo_referee (p : Nat) (st : PortState) (c : Nat) (s : State) : (portTo p st c s).referee = s.referee := rfl
@[simp] theorem portTo_coping (p : Nat) (st : PortState) (c : Nat) (s : State) : (portTo p st c s).coping = s.coping := rfl
@[simp] theorem portTo_firmware (p : Nat) (st : PortState) (c : Nat) (s : State) : (portTo p st c s).firmware = s.firmware := rfl
@[simp] theorem portTo_patrol (p : Nat) (st : PortState) (c : Nat) (s : State) : (portTo p st c s).patrol = s.patrol := rfl
@[simp] theorem portTo_invCycles (p : Nat) (st : PortState) (c : Nat) (s : State) : (portTo p st c s).invCycles = s.invCycles := rfl
@[simp] theorem portTo_invHours (p : Nat) (st : PortState) (c : Nat) (s : State) : (portTo p st c s).invHours = s.invHours := rfl
@[simp] theorem portTo_invAt (p : Nat) (st : PortState) (c : Nat) (s : State) : (portTo p st c s).invAt = s.invAt := rfl
@[simp] theorem portTo_out (p : Nat) (st : PortState) (c : Nat) (s : State) : (portTo p st c s).out = s.out := rfl
@[simp] theorem portTo_now (p : Nat) (st : PortState) (c : Nat) (s : State) : (portTo p st c s).now = s.now := rfl
@[simp] theorem portTo_freeCount (p : Nat) (st : PortState) (c : Nat) (s : State) : (portTo p st c s).freeCount = s.freeCount := rfl
@[simp] theorem portTo_pending (p : Nat) (st : PortState) (c : Nat) (s : State) : (portTo p st c s).pending = s.pending := rfl

/-! ### `setPhase` -/

@[simp] theorem setPhase_ident (ph : Phase) (c : Nat) (s : State) : (setPhase ph c s).ident = s.ident := rfl
@[simp] theorem setPhase_mode (ph : Phase) (c : Nat) (s : State) : (setPhase ph c s).mode = s.mode := rfl
@[simp] theorem setPhase_params (ph : Phase) (c : Nat) (s : State) : (setPhase ph c s).params = s.params := rfl
@[simp] theorem setPhase_plan (ph : Phase) (c : Nat) (s : State) : (setPhase ph c s).plan = s.plan := rfl
@[simp] theorem setPhase_planLoaded (ph : Phase) (c : Nat) (s : State) : (setPhase ph c s).planLoaded = s.planLoaded := rfl
@[simp] theorem setPhase_batten (ph : Phase) (c : Nat) (s : State) : (setPhase ph c s).batten = s.batten := rfl
@[simp] theorem setPhase_tally (ph : Phase) (c : Nat) (s : State) : (setPhase ph c s).tally = s.tally := rfl
@[simp] theorem setPhase_counters (ph : Phase) (c : Nat) (s : State) : (setPhase ph c s).counters = s.counters := rfl
@[simp] theorem setPhase_ports (ph : Phase) (c : Nat) (s : State) : (setPhase ph c s).ports = s.ports := rfl
@[simp] theorem setPhase_sites (ph : Phase) (c : Nat) (s : State) : (setPhase ph c s).sites = s.sites := rfl
@[simp] theorem setPhase_switch (ph : Phase) (c : Nat) (s : State) : (setPhase ph c s).switch = s.switch := rfl
@[simp] theorem setPhase_reduction (ph : Phase) (c : Nat) (s : State) : (setPhase ph c s).reduction = s.reduction := rfl
@[simp] theorem setPhase_loft (ph : Phase) (c : Nat) (s : State) : (setPhase ph c s).loft = s.loft := rfl
@[simp] theorem setPhase_journal (ph : Phase) (c : Nat) (s : State) : (setPhase ph c s).journal = s.journal := rfl
@[simp] theorem setPhase_freezeUnit (ph : Phase) (c : Nat) (s : State) : (setPhase ph c s).freezeUnit = s.freezeUnit := rfl
@[simp] theorem setPhase_referee (ph : Phase) (c : Nat) (s : State) : (setPhase ph c s).referee = s.referee := rfl
@[simp] theorem setPhase_coping (ph : Phase) (c : Nat) (s : State) : (setPhase ph c s).coping = s.coping := rfl
@[simp] theorem setPhase_firmware (ph : Phase) (c : Nat) (s : State) : (setPhase ph c s).firmware = s.firmware := rfl
@[simp] theorem setPhase_patrol (ph : Phase) (c : Nat) (s : State) : (setPhase ph c s).patrol = s.patrol := rfl
@[simp] theorem setPhase_invCycles (ph : Phase) (c : Nat) (s : State) : (setPhase ph c s).invCycles = s.invCycles := rfl
@[simp] theorem setPhase_invHours (ph : Phase) (c : Nat) (s : State) : (setPhase ph c s).invHours = s.invHours := rfl
@[simp] theorem setPhase_invAt (ph : Phase) (c : Nat) (s : State) : (setPhase ph c s).invAt = s.invAt := rfl
@[simp] theorem setPhase_out (ph : Phase) (c : Nat) (s : State) : (setPhase ph c s).out = s.out := rfl
@[simp] theorem setPhase_now (ph : Phase) (c : Nat) (s : State) : (setPhase ph c s).now = s.now := rfl
@[simp] theorem setPhase_freeCount (ph : Phase) (c : Nat) (s : State) : (setPhase ph c s).freeCount = s.freeCount := rfl
@[simp] theorem setPhase_pending (ph : Phase) (c : Nat) (s : State) : (setPhase ph c s).pending = s.pending := rfl

/-! ### `setCause` -/

@[simp] theorem setCause_ident (c : Nat) (s : State) : (setCause c s).ident = s.ident := rfl
@[simp] theorem setCause_mode (c : Nat) (s : State) : (setCause c s).mode = s.mode := rfl
@[simp] theorem setCause_params (c : Nat) (s : State) : (setCause c s).params = s.params := rfl
@[simp] theorem setCause_plan (c : Nat) (s : State) : (setCause c s).plan = s.plan := rfl
@[simp] theorem setCause_planLoaded (c : Nat) (s : State) : (setCause c s).planLoaded = s.planLoaded := rfl
@[simp] theorem setCause_batten (c : Nat) (s : State) : (setCause c s).batten = s.batten := rfl
@[simp] theorem setCause_tally (c : Nat) (s : State) : (setCause c s).tally = s.tally := rfl
@[simp] theorem setCause_counters (c : Nat) (s : State) : (setCause c s).counters = s.counters := rfl
@[simp] theorem setCause_ports (c : Nat) (s : State) : (setCause c s).ports = s.ports := rfl
@[simp] theorem setCause_sites (c : Nat) (s : State) : (setCause c s).sites = s.sites := rfl
@[simp] theorem setCause_switch (c : Nat) (s : State) : (setCause c s).switch = s.switch := rfl
@[simp] theorem setCause_reduction (c : Nat) (s : State) : (setCause c s).reduction = s.reduction := rfl
@[simp] theorem setCause_loft (c : Nat) (s : State) : (setCause c s).loft = s.loft := rfl
@[simp] theorem setCause_journal (c : Nat) (s : State) : (setCause c s).journal = s.journal := rfl
@[simp] theorem setCause_freezeUnit (c : Nat) (s : State) : (setCause c s).freezeUnit = s.freezeUnit := rfl
@[simp] theorem setCause_referee (c : Nat) (s : State) : (setCause c s).referee = s.referee := rfl
@[simp] theorem setCause_coping (c : Nat) (s : State) : (setCause c s).coping = s.coping := rfl
@[simp] theorem setCause_firmware (c : Nat) (s : State) : (setCause c s).firmware = s.firmware := rfl
@[simp] theorem setCause_patrol (c : Nat) (s : State) : (setCause c s).patrol = s.patrol := rfl
@[simp] theorem setCause_invCycles (c : Nat) (s : State) : (setCause c s).invCycles = s.invCycles := rfl
@[simp] theorem setCause_invHours (c : Nat) (s : State) : (setCause c s).invHours = s.invHours := rfl
@[simp] theorem setCause_invAt (c : Nat) (s : State) : (setCause c s).invAt = s.invAt := rfl
@[simp] theorem setCause_out (c : Nat) (s : State) : (setCause c s).out = s.out := rfl
@[simp] theorem setCause_now (c : Nat) (s : State) : (setCause c s).now = s.now := rfl
@[simp] theorem setCause_freeCount (c : Nat) (s : State) : (setCause c s).freeCount = s.freeCount := rfl
@[simp] theorem setCause_pending (c : Nat) (s : State) : (setCause c s).pending = s.pending := rfl

/-! ### `setWindow` -/

@[simp] theorem setWindow_ident (o : Nat) (w : Window) (s : State) : (setWindow o w s).ident = s.ident := rfl
@[simp] theorem setWindow_mode (o : Nat) (w : Window) (s : State) : (setWindow o w s).mode = s.mode := rfl
@[simp] theorem setWindow_params (o : Nat) (w : Window) (s : State) : (setWindow o w s).params = s.params := rfl
@[simp] theorem setWindow_plan (o : Nat) (w : Window) (s : State) : (setWindow o w s).plan = s.plan := rfl
@[simp] theorem setWindow_planLoaded (o : Nat) (w : Window) (s : State) : (setWindow o w s).planLoaded = s.planLoaded := rfl
@[simp] theorem setWindow_power (o : Nat) (w : Window) (s : State) : (setWindow o w s).power = s.power := rfl
@[simp] theorem setWindow_tally (o : Nat) (w : Window) (s : State) : (setWindow o w s).tally = s.tally := rfl
@[simp] theorem setWindow_counters (o : Nat) (w : Window) (s : State) : (setWindow o w s).counters = s.counters := rfl
@[simp] theorem setWindow_ports (o : Nat) (w : Window) (s : State) : (setWindow o w s).ports = s.ports := rfl
@[simp] theorem setWindow_sites (o : Nat) (w : Window) (s : State) : (setWindow o w s).sites = s.sites := rfl
@[simp] theorem setWindow_switch (o : Nat) (w : Window) (s : State) : (setWindow o w s).switch = s.switch := rfl
@[simp] theorem setWindow_reduction (o : Nat) (w : Window) (s : State) : (setWindow o w s).reduction = s.reduction := rfl
@[simp] theorem setWindow_loft (o : Nat) (w : Window) (s : State) : (setWindow o w s).loft = s.loft := rfl
@[simp] theorem setWindow_journal (o : Nat) (w : Window) (s : State) : (setWindow o w s).journal = s.journal := rfl
@[simp] theorem setWindow_freezeUnit (o : Nat) (w : Window) (s : State) : (setWindow o w s).freezeUnit = s.freezeUnit := rfl
@[simp] theorem setWindow_referee (o : Nat) (w : Window) (s : State) : (setWindow o w s).referee = s.referee := rfl
@[simp] theorem setWindow_coping (o : Nat) (w : Window) (s : State) : (setWindow o w s).coping = s.coping := rfl
@[simp] theorem setWindow_firmware (o : Nat) (w : Window) (s : State) : (setWindow o w s).firmware = s.firmware := rfl
@[simp] theorem setWindow_patrol (o : Nat) (w : Window) (s : State) : (setWindow o w s).patrol = s.patrol := rfl
@[simp] theorem setWindow_invCycles (o : Nat) (w : Window) (s : State) : (setWindow o w s).invCycles = s.invCycles := rfl
@[simp] theorem setWindow_invHours (o : Nat) (w : Window) (s : State) : (setWindow o w s).invHours = s.invHours := rfl
@[simp] theorem setWindow_invAt (o : Nat) (w : Window) (s : State) : (setWindow o w s).invAt = s.invAt := rfl
@[simp] theorem setWindow_out (o : Nat) (w : Window) (s : State) : (setWindow o w s).out = s.out := rfl
@[simp] theorem setWindow_now (o : Nat) (w : Window) (s : State) : (setWindow o w s).now = s.now := rfl
@[simp] theorem setWindow_freeCount (o : Nat) (w : Window) (s : State) : (setWindow o w s).freeCount = s.freeCount := rfl
@[simp] theorem setWindow_pending (o : Nat) (w : Window) (s : State) : (setWindow o w s).pending = s.pending := rfl

/-! ### `startOp` -/

@[simp] theorem startOp_ident (k : OpKind) (p : Packet) (c : Nat) (s : State) : (startOp k p c s).ident = s.ident := rfl
@[simp] theorem startOp_mode (k : OpKind) (p : Packet) (c : Nat) (s : State) : (startOp k p c s).mode = s.mode := rfl
@[simp] theorem startOp_params (k : OpKind) (p : Packet) (c : Nat) (s : State) : (startOp k p c s).params = s.params := rfl
@[simp] theorem startOp_plan (k : OpKind) (p : Packet) (c : Nat) (s : State) : (startOp k p c s).plan = s.plan := rfl
@[simp] theorem startOp_planLoaded (k : OpKind) (p : Packet) (c : Nat) (s : State) : (startOp k p c s).planLoaded = s.planLoaded := rfl
@[simp] theorem startOp_power (k : OpKind) (p : Packet) (c : Nat) (s : State) : (startOp k p c s).power = s.power := rfl
@[simp] theorem startOp_tally (k : OpKind) (p : Packet) (c : Nat) (s : State) : (startOp k p c s).tally = s.tally := rfl
@[simp] theorem startOp_counters (k : OpKind) (p : Packet) (c : Nat) (s : State) : (startOp k p c s).counters = s.counters := rfl
@[simp] theorem startOp_ports (k : OpKind) (p : Packet) (c : Nat) (s : State) : (startOp k p c s).ports = s.ports := rfl
@[simp] theorem startOp_sites (k : OpKind) (p : Packet) (c : Nat) (s : State) : (startOp k p c s).sites = s.sites := rfl
@[simp] theorem startOp_switch (k : OpKind) (p : Packet) (c : Nat) (s : State) : (startOp k p c s).switch = s.switch := rfl
@[simp] theorem startOp_reduction (k : OpKind) (p : Packet) (c : Nat) (s : State) : (startOp k p c s).reduction = s.reduction := rfl
@[simp] theorem startOp_loft (k : OpKind) (p : Packet) (c : Nat) (s : State) : (startOp k p c s).loft = s.loft := rfl
@[simp] theorem startOp_journal (k : OpKind) (p : Packet) (c : Nat) (s : State) : (startOp k p c s).journal = s.journal := rfl
@[simp] theorem startOp_freezeUnit (k : OpKind) (p : Packet) (c : Nat) (s : State) : (startOp k p c s).freezeUnit = s.freezeUnit := rfl
@[simp] theorem startOp_referee (k : OpKind) (p : Packet) (c : Nat) (s : State) : (startOp k p c s).referee = s.referee := rfl
@[simp] theorem startOp_coping (k : OpKind) (p : Packet) (c : Nat) (s : State) : (startOp k p c s).coping = s.coping := rfl
@[simp] theorem startOp_firmware (k : OpKind) (p : Packet) (c : Nat) (s : State) : (startOp k p c s).firmware = s.firmware := rfl
@[simp] theorem startOp_patrol (k : OpKind) (p : Packet) (c : Nat) (s : State) : (startOp k p c s).patrol = s.patrol := rfl
@[simp] theorem startOp_invCycles (k : OpKind) (p : Packet) (c : Nat) (s : State) : (startOp k p c s).invCycles = s.invCycles := rfl
@[simp] theorem startOp_invHours (k : OpKind) (p : Packet) (c : Nat) (s : State) : (startOp k p c s).invHours = s.invHours := rfl
@[simp] theorem startOp_invAt (k : OpKind) (p : Packet) (c : Nat) (s : State) : (startOp k p c s).invAt = s.invAt := rfl
@[simp] theorem startOp_out (k : OpKind) (p : Packet) (c : Nat) (s : State) : (startOp k p c s).out = s.out := rfl
@[simp] theorem startOp_now (k : OpKind) (p : Packet) (c : Nat) (s : State) : (startOp k p c s).now = s.now := rfl
@[simp] theorem startOp_freeCount (k : OpKind) (p : Packet) (c : Nat) (s : State) : (startOp k p c s).freeCount = s.freeCount := rfl
@[simp] theorem startOp_pending (k : OpKind) (p : Packet) (c : Nat) (s : State) : (startOp k p c s).pending = s.pending := rfl

/-! ### `endSession` -/

@[simp] theorem endSession_ident (o : U32) (s : State) : (endSession o s).ident = s.ident := rfl
@[simp] theorem endSession_mode (o : U32) (s : State) : (endSession o s).mode = s.mode := rfl
@[simp] theorem endSession_params (o : U32) (s : State) : (endSession o s).params = s.params := rfl
@[simp] theorem endSession_plan (o : U32) (s : State) : (endSession o s).plan = s.plan := rfl
@[simp] theorem endSession_planLoaded (o : U32) (s : State) : (endSession o s).planLoaded = s.planLoaded := rfl
@[simp] theorem endSession_power (o : U32) (s : State) : (endSession o s).power = s.power := rfl
@[simp] theorem endSession_tally (o : U32) (s : State) : (endSession o s).tally = s.tally := rfl
@[simp] theorem endSession_counters (o : U32) (s : State) : (endSession o s).counters = s.counters := rfl
@[simp] theorem endSession_ports (o : U32) (s : State) : (endSession o s).ports = s.ports := rfl
@[simp] theorem endSession_sites (o : U32) (s : State) : (endSession o s).sites = s.sites := rfl
@[simp] theorem endSession_switch (o : U32) (s : State) : (endSession o s).switch = s.switch := rfl
@[simp] theorem endSession_reduction (o : U32) (s : State) : (endSession o s).reduction = s.reduction := rfl
@[simp] theorem endSession_loft (o : U32) (s : State) : (endSession o s).loft = s.loft := rfl
@[simp] theorem endSession_journal (o : U32) (s : State) : (endSession o s).journal = s.journal := rfl
@[simp] theorem endSession_freezeUnit (o : U32) (s : State) : (endSession o s).freezeUnit = s.freezeUnit := rfl
@[simp] theorem endSession_referee (o : U32) (s : State) : (endSession o s).referee = s.referee := rfl
@[simp] theorem endSession_coping (o : U32) (s : State) : (endSession o s).coping = s.coping := rfl
@[simp] theorem endSession_firmware (o : U32) (s : State) : (endSession o s).firmware = s.firmware := rfl
@[simp] theorem endSession_patrol (o : U32) (s : State) : (endSession o s).patrol = s.patrol := rfl
@[simp] theorem endSession_invCycles (o : U32) (s : State) : (endSession o s).invCycles = s.invCycles := rfl
@[simp] theorem endSession_invHours (o : U32) (s : State) : (endSession o s).invHours = s.invHours := rfl
@[simp] theorem endSession_invAt (o : U32) (s : State) : (endSession o s).invAt = s.invAt := rfl
@[simp] theorem endSession_out (o : U32) (s : State) : (endSession o s).out = s.out := rfl
@[simp] theorem endSession_now (o : U32) (s : State) : (endSession o s).now = s.now := rfl
@[simp] theorem endSession_freeCount (o : U32) (s : State) : (endSession o s).freeCount = s.freeCount := rfl
@[simp] theorem endSession_pending (o : U32) (s : State) : (endSession o s).pending = s.pending := rfl

/-! ### `hearBefore` -/

@[simp] theorem hearBefore_ident (n : Nat) (s : State) : (hearBefore n s).ident = s.ident := rfl
@[simp] theorem hearBefore_mode (n : Nat) (s : State) : (hearBefore n s).mode = s.mode := rfl
@[simp] theorem hearBefore_params (n : Nat) (s : State) : (hearBefore n s).params = s.params := rfl
@[simp] theorem hearBefore_plan (n : Nat) (s : State) : (hearBefore n s).plan = s.plan := rfl
@[simp] theorem hearBefore_planLoaded (n : Nat) (s : State) : (hearBefore n s).planLoaded = s.planLoaded := rfl
@[simp] theorem hearBefore_power (n : Nat) (s : State) : (hearBefore n s).power = s.power := rfl
@[simp] theorem hearBefore_batten (n : Nat) (s : State) : (hearBefore n s).batten = s.batten := rfl
@[simp] theorem hearBefore_tally (n : Nat) (s : State) : (hearBefore n s).tally = s.tally := rfl
@[simp] theorem hearBefore_counters (n : Nat) (s : State) : (hearBefore n s).counters = s.counters := rfl
@[simp] theorem hearBefore_ports (n : Nat) (s : State) : (hearBefore n s).ports = s.ports := rfl
@[simp] theorem hearBefore_sites (n : Nat) (s : State) : (hearBefore n s).sites = s.sites := rfl
@[simp] theorem hearBefore_switch (n : Nat) (s : State) : (hearBefore n s).switch = s.switch := rfl
@[simp] theorem hearBefore_reduction (n : Nat) (s : State) : (hearBefore n s).reduction = s.reduction := rfl
@[simp] theorem hearBefore_loft (n : Nat) (s : State) : (hearBefore n s).loft = s.loft := rfl
@[simp] theorem hearBefore_journal (n : Nat) (s : State) : (hearBefore n s).journal = s.journal := rfl
@[simp] theorem hearBefore_freezeUnit (n : Nat) (s : State) : (hearBefore n s).freezeUnit = s.freezeUnit := rfl
@[simp] theorem hearBefore_coping (n : Nat) (s : State) : (hearBefore n s).coping = s.coping := rfl
@[simp] theorem hearBefore_firmware (n : Nat) (s : State) : (hearBefore n s).firmware = s.firmware := rfl
@[simp] theorem hearBefore_patrol (n : Nat) (s : State) : (hearBefore n s).patrol = s.patrol := rfl
@[simp] theorem hearBefore_invCycles (n : Nat) (s : State) : (hearBefore n s).invCycles = s.invCycles := rfl
@[simp] theorem hearBefore_invHours (n : Nat) (s : State) : (hearBefore n s).invHours = s.invHours := rfl
@[simp] theorem hearBefore_invAt (n : Nat) (s : State) : (hearBefore n s).invAt = s.invAt := rfl
@[simp] theorem hearBefore_out (n : Nat) (s : State) : (hearBefore n s).out = s.out := rfl
@[simp] theorem hearBefore_now (n : Nat) (s : State) : (hearBefore n s).now = s.now := rfl
@[simp] theorem hearBefore_freeCount (n : Nat) (s : State) : (hearBefore n s).freeCount = s.freeCount := rfl
@[simp] theorem hearBefore_pending (n : Nat) (s : State) : (hearBefore n s).pending = s.pending := rfl

/-! ### `postEvent` -/

@[simp] theorem postEvent_ident (k c : Nat) (s : State) : (postEvent k c s).ident = s.ident := rfl
@[simp] theorem postEvent_mode (k c : Nat) (s : State) : (postEvent k c s).mode = s.mode := rfl
@[simp] theorem postEvent_params (k c : Nat) (s : State) : (postEvent k c s).params = s.params := rfl
@[simp] theorem postEvent_plan (k c : Nat) (s : State) : (postEvent k c s).plan = s.plan := rfl
@[simp] theorem postEvent_planLoaded (k c : Nat) (s : State) : (postEvent k c s).planLoaded = s.planLoaded := rfl
@[simp] theorem postEvent_power (k c : Nat) (s : State) : (postEvent k c s).power = s.power := rfl
@[simp] theorem postEvent_batten (k c : Nat) (s : State) : (postEvent k c s).batten = s.batten := rfl
@[simp] theorem postEvent_tally (k c : Nat) (s : State) : (postEvent k c s).tally = s.tally := rfl
@[simp] theorem postEvent_counters (k c : Nat) (s : State) : (postEvent k c s).counters = s.counters := rfl
@[simp] theorem postEvent_ports (k c : Nat) (s : State) : (postEvent k c s).ports = s.ports := rfl
@[simp] theorem postEvent_sites (k c : Nat) (s : State) : (postEvent k c s).sites = s.sites := rfl
@[simp] theorem postEvent_switch (k c : Nat) (s : State) : (postEvent k c s).switch = s.switch := rfl
@[simp] theorem postEvent_reduction (k c : Nat) (s : State) : (postEvent k c s).reduction = s.reduction := rfl
@[simp] theorem postEvent_loft (k c : Nat) (s : State) : (postEvent k c s).loft = s.loft := rfl
@[simp] theorem postEvent_journal (k c : Nat) (s : State) : (postEvent k c s).journal = s.journal := rfl
@[simp] theorem postEvent_freezeUnit (k c : Nat) (s : State) : (postEvent k c s).freezeUnit = s.freezeUnit := rfl
@[simp] theorem postEvent_coping (k c : Nat) (s : State) : (postEvent k c s).coping = s.coping := rfl
@[simp] theorem postEvent_firmware (k c : Nat) (s : State) : (postEvent k c s).firmware = s.firmware := rfl
@[simp] theorem postEvent_patrol (k c : Nat) (s : State) : (postEvent k c s).patrol = s.patrol := rfl
@[simp] theorem postEvent_invCycles (k c : Nat) (s : State) : (postEvent k c s).invCycles = s.invCycles := rfl
@[simp] theorem postEvent_invHours (k c : Nat) (s : State) : (postEvent k c s).invHours = s.invHours := rfl
@[simp] theorem postEvent_invAt (k c : Nat) (s : State) : (postEvent k c s).invAt = s.invAt := rfl
@[simp] theorem postEvent_out (k c : Nat) (s : State) : (postEvent k c s).out = s.out := rfl
@[simp] theorem postEvent_now (k c : Nat) (s : State) : (postEvent k c s).now = s.now := rfl
@[simp] theorem postEvent_freeCount (k c : Nat) (s : State) : (postEvent k c s).freeCount = s.freeCount := rfl
@[simp] theorem postEvent_pending (k c : Nat) (s : State) : (postEvent k c s).pending = s.pending := rfl

/-! ### `setSense` -/

@[simp] theorem setSense_ident (ch : Nat) (f : SenseChannel → SenseChannel) (s : State) : (setSense ch f s).ident = s.ident := rfl
@[simp] theorem setSense_mode (ch : Nat) (f : SenseChannel → SenseChannel) (s : State) : (setSense ch f s).mode = s.mode := rfl
@[simp] theorem setSense_params (ch : Nat) (f : SenseChannel → SenseChannel) (s : State) : (setSense ch f s).params = s.params := rfl
@[simp] theorem setSense_plan (ch : Nat) (f : SenseChannel → SenseChannel) (s : State) : (setSense ch f s).plan = s.plan := rfl
@[simp] theorem setSense_planLoaded (ch : Nat) (f : SenseChannel → SenseChannel) (s : State) : (setSense ch f s).planLoaded = s.planLoaded := rfl
@[simp] theorem setSense_power (ch : Nat) (f : SenseChannel → SenseChannel) (s : State) : (setSense ch f s).power = s.power := rfl
@[simp] theorem setSense_batten (ch : Nat) (f : SenseChannel → SenseChannel) (s : State) : (setSense ch f s).batten = s.batten := rfl
@[simp] theorem setSense_tally (ch : Nat) (f : SenseChannel → SenseChannel) (s : State) : (setSense ch f s).tally = s.tally := rfl
@[simp] theorem setSense_counters (ch : Nat) (f : SenseChannel → SenseChannel) (s : State) : (setSense ch f s).counters = s.counters := rfl
@[simp] theorem setSense_ports (ch : Nat) (f : SenseChannel → SenseChannel) (s : State) : (setSense ch f s).ports = s.ports := rfl
@[simp] theorem setSense_sites (ch : Nat) (f : SenseChannel → SenseChannel) (s : State) : (setSense ch f s).sites = s.sites := rfl
@[simp] theorem setSense_switch (ch : Nat) (f : SenseChannel → SenseChannel) (s : State) : (setSense ch f s).switch = s.switch := rfl
@[simp] theorem setSense_reduction (ch : Nat) (f : SenseChannel → SenseChannel) (s : State) : (setSense ch f s).reduction = s.reduction := rfl
@[simp] theorem setSense_loft (ch : Nat) (f : SenseChannel → SenseChannel) (s : State) : (setSense ch f s).loft = s.loft := rfl
@[simp] theorem setSense_journal (ch : Nat) (f : SenseChannel → SenseChannel) (s : State) : (setSense ch f s).journal = s.journal := rfl
@[simp] theorem setSense_freezeUnit (ch : Nat) (f : SenseChannel → SenseChannel) (s : State) : (setSense ch f s).freezeUnit = s.freezeUnit := rfl
@[simp] theorem setSense_referee (ch : Nat) (f : SenseChannel → SenseChannel) (s : State) : (setSense ch f s).referee = s.referee := rfl
@[simp] theorem setSense_firmware (ch : Nat) (f : SenseChannel → SenseChannel) (s : State) : (setSense ch f s).firmware = s.firmware := rfl
@[simp] theorem setSense_patrol (ch : Nat) (f : SenseChannel → SenseChannel) (s : State) : (setSense ch f s).patrol = s.patrol := rfl
@[simp] theorem setSense_invCycles (ch : Nat) (f : SenseChannel → SenseChannel) (s : State) : (setSense ch f s).invCycles = s.invCycles := rfl
@[simp] theorem setSense_invHours (ch : Nat) (f : SenseChannel → SenseChannel) (s : State) : (setSense ch f s).invHours = s.invHours := rfl
@[simp] theorem setSense_invAt (ch : Nat) (f : SenseChannel → SenseChannel) (s : State) : (setSense ch f s).invAt = s.invAt := rfl
@[simp] theorem setSense_out (ch : Nat) (f : SenseChannel → SenseChannel) (s : State) : (setSense ch f s).out = s.out := rfl
@[simp] theorem setSense_now (ch : Nat) (f : SenseChannel → SenseChannel) (s : State) : (setSense ch f s).now = s.now := rfl
@[simp] theorem setSense_freeCount (ch : Nat) (f : SenseChannel → SenseChannel) (s : State) : (setSense ch f s).freeCount = s.freeCount := rfl
@[simp] theorem setSense_pending (ch : Nat) (f : SenseChannel → SenseChannel) (s : State) : (setSense ch f s).pending = s.pending := rfl

/-! ### `setAout` -/

@[simp] theorem setAout_ident (ch : Nat) (f : AoutChannel → AoutChannel) (s : State) : (setAout ch f s).ident = s.ident := rfl
@[simp] theorem setAout_mode (ch : Nat) (f : AoutChannel → AoutChannel) (s : State) : (setAout ch f s).mode = s.mode := rfl
@[simp] theorem setAout_params (ch : Nat) (f : AoutChannel → AoutChannel) (s : State) : (setAout ch f s).params = s.params := rfl
@[simp] theorem setAout_plan (ch : Nat) (f : AoutChannel → AoutChannel) (s : State) : (setAout ch f s).plan = s.plan := rfl
@[simp] theorem setAout_planLoaded (ch : Nat) (f : AoutChannel → AoutChannel) (s : State) : (setAout ch f s).planLoaded = s.planLoaded := rfl
@[simp] theorem setAout_power (ch : Nat) (f : AoutChannel → AoutChannel) (s : State) : (setAout ch f s).power = s.power := rfl
@[simp] theorem setAout_batten (ch : Nat) (f : AoutChannel → AoutChannel) (s : State) : (setAout ch f s).batten = s.batten := rfl
@[simp] theorem setAout_tally (ch : Nat) (f : AoutChannel → AoutChannel) (s : State) : (setAout ch f s).tally = s.tally := rfl
@[simp] theorem setAout_counters (ch : Nat) (f : AoutChannel → AoutChannel) (s : State) : (setAout ch f s).counters = s.counters := rfl
@[simp] theorem setAout_ports (ch : Nat) (f : AoutChannel → AoutChannel) (s : State) : (setAout ch f s).ports = s.ports := rfl
@[simp] theorem setAout_sites (ch : Nat) (f : AoutChannel → AoutChannel) (s : State) : (setAout ch f s).sites = s.sites := rfl
@[simp] theorem setAout_switch (ch : Nat) (f : AoutChannel → AoutChannel) (s : State) : (setAout ch f s).switch = s.switch := rfl
@[simp] theorem setAout_reduction (ch : Nat) (f : AoutChannel → AoutChannel) (s : State) : (setAout ch f s).reduction = s.reduction := rfl
@[simp] theorem setAout_loft (ch : Nat) (f : AoutChannel → AoutChannel) (s : State) : (setAout ch f s).loft = s.loft := rfl
@[simp] theorem setAout_journal (ch : Nat) (f : AoutChannel → AoutChannel) (s : State) : (setAout ch f s).journal = s.journal := rfl
@[simp] theorem setAout_freezeUnit (ch : Nat) (f : AoutChannel → AoutChannel) (s : State) : (setAout ch f s).freezeUnit = s.freezeUnit := rfl
@[simp] theorem setAout_referee (ch : Nat) (f : AoutChannel → AoutChannel) (s : State) : (setAout ch f s).referee = s.referee := rfl
@[simp] theorem setAout_firmware (ch : Nat) (f : AoutChannel → AoutChannel) (s : State) : (setAout ch f s).firmware = s.firmware := rfl
@[simp] theorem setAout_patrol (ch : Nat) (f : AoutChannel → AoutChannel) (s : State) : (setAout ch f s).patrol = s.patrol := rfl
@[simp] theorem setAout_invCycles (ch : Nat) (f : AoutChannel → AoutChannel) (s : State) : (setAout ch f s).invCycles = s.invCycles := rfl
@[simp] theorem setAout_invHours (ch : Nat) (f : AoutChannel → AoutChannel) (s : State) : (setAout ch f s).invHours = s.invHours := rfl
@[simp] theorem setAout_invAt (ch : Nat) (f : AoutChannel → AoutChannel) (s : State) : (setAout ch f s).invAt = s.invAt := rfl
@[simp] theorem setAout_out (ch : Nat) (f : AoutChannel → AoutChannel) (s : State) : (setAout ch f s).out = s.out := rfl
@[simp] theorem setAout_now (ch : Nat) (f : AoutChannel → AoutChannel) (s : State) : (setAout ch f s).now = s.now := rfl
@[simp] theorem setAout_freeCount (ch : Nat) (f : AoutChannel → AoutChannel) (s : State) : (setAout ch f s).freeCount = s.freeCount := rfl
@[simp] theorem setAout_pending (ch : Nat) (f : AoutChannel → AoutChannel) (s : State) : (setAout ch f s).pending = s.pending := rfl

/-! ### `setEave` -/

@[simp] theorem setEave_ident (e : Eave) (f : EaveUnit → EaveUnit) (s : State) : (setEave e f s).ident = s.ident := by cases e <;> rfl
@[simp] theorem setEave_mode (e : Eave) (f : EaveUnit → EaveUnit) (s : State) : (setEave e f s).mode = s.mode := by cases e <;> rfl
@[simp] theorem setEave_params (e : Eave) (f : EaveUnit → EaveUnit) (s : State) : (setEave e f s).params = s.params := by cases e <;> rfl
@[simp] theorem setEave_plan (e : Eave) (f : EaveUnit → EaveUnit) (s : State) : (setEave e f s).plan = s.plan := by cases e <;> rfl
@[simp] theorem setEave_planLoaded (e : Eave) (f : EaveUnit → EaveUnit) (s : State) : (setEave e f s).planLoaded = s.planLoaded := by cases e <;> rfl
@[simp] theorem setEave_power (e : Eave) (f : EaveUnit → EaveUnit) (s : State) : (setEave e f s).power = s.power := by cases e <;> rfl
@[simp] theorem setEave_batten (e : Eave) (f : EaveUnit → EaveUnit) (s : State) : (setEave e f s).batten = s.batten := by cases e <;> rfl
@[simp] theorem setEave_tally (e : Eave) (f : EaveUnit → EaveUnit) (s : State) : (setEave e f s).tally = s.tally := by cases e <;> rfl
@[simp] theorem setEave_counters (e : Eave) (f : EaveUnit → EaveUnit) (s : State) : (setEave e f s).counters = s.counters := by cases e <;> rfl
@[simp] theorem setEave_ports (e : Eave) (f : EaveUnit → EaveUnit) (s : State) : (setEave e f s).ports = s.ports := by cases e <;> rfl
@[simp] theorem setEave_sites (e : Eave) (f : EaveUnit → EaveUnit) (s : State) : (setEave e f s).sites = s.sites := by cases e <;> rfl
@[simp] theorem setEave_switch (e : Eave) (f : EaveUnit → EaveUnit) (s : State) : (setEave e f s).switch = s.switch := by cases e <;> rfl
@[simp] theorem setEave_reduction (e : Eave) (f : EaveUnit → EaveUnit) (s : State) : (setEave e f s).reduction = s.reduction := by cases e <;> rfl
@[simp] theorem setEave_loft (e : Eave) (f : EaveUnit → EaveUnit) (s : State) : (setEave e f s).loft = s.loft := by cases e <;> rfl
@[simp] theorem setEave_journal (e : Eave) (f : EaveUnit → EaveUnit) (s : State) : (setEave e f s).journal = s.journal := by cases e <;> rfl
@[simp] theorem setEave_freezeUnit (e : Eave) (f : EaveUnit → EaveUnit) (s : State) : (setEave e f s).freezeUnit = s.freezeUnit := by cases e <;> rfl
@[simp] theorem setEave_coping (e : Eave) (f : EaveUnit → EaveUnit) (s : State) : (setEave e f s).coping = s.coping := by cases e <;> rfl
@[simp] theorem setEave_firmware (e : Eave) (f : EaveUnit → EaveUnit) (s : State) : (setEave e f s).firmware = s.firmware := by cases e <;> rfl
@[simp] theorem setEave_patrol (e : Eave) (f : EaveUnit → EaveUnit) (s : State) : (setEave e f s).patrol = s.patrol := by cases e <;> rfl
@[simp] theorem setEave_invCycles (e : Eave) (f : EaveUnit → EaveUnit) (s : State) : (setEave e f s).invCycles = s.invCycles := by cases e <;> rfl
@[simp] theorem setEave_invHours (e : Eave) (f : EaveUnit → EaveUnit) (s : State) : (setEave e f s).invHours = s.invHours := by cases e <;> rfl
@[simp] theorem setEave_invAt (e : Eave) (f : EaveUnit → EaveUnit) (s : State) : (setEave e f s).invAt = s.invAt := by cases e <;> rfl
@[simp] theorem setEave_out (e : Eave) (f : EaveUnit → EaveUnit) (s : State) : (setEave e f s).out = s.out := by cases e <;> rfl
@[simp] theorem setEave_now (e : Eave) (f : EaveUnit → EaveUnit) (s : State) : (setEave e f s).now = s.now := by cases e <;> rfl
@[simp] theorem setEave_freeCount (e : Eave) (f : EaveUnit → EaveUnit) (s : State) : (setEave e f s).freeCount = s.freeCount := by cases e <;> rfl
@[simp] theorem setEave_pending (e : Eave) (f : EaveUnit → EaveUnit) (s : State) : (setEave e f s).pending = s.pending := by cases e <;> rfl

/-! ### `setBank` -/

@[simp] theorem setBank_ident (n : Nat) (f : Bank → Bank) (s : State) : (setBank n f s).ident = s.ident := by unfold setBank; split <;> rfl
@[simp] theorem setBank_mode (n : Nat) (f : Bank → Bank) (s : State) : (setBank n f s).mode = s.mode := by unfold setBank; split <;> rfl
@[simp] theorem setBank_params (n : Nat) (f : Bank → Bank) (s : State) : (setBank n f s).params = s.params := by unfold setBank; split <;> rfl
@[simp] theorem setBank_plan (n : Nat) (f : Bank → Bank) (s : State) : (setBank n f s).plan = s.plan := by unfold setBank; split <;> rfl
@[simp] theorem setBank_planLoaded (n : Nat) (f : Bank → Bank) (s : State) : (setBank n f s).planLoaded = s.planLoaded := by unfold setBank; split <;> rfl
@[simp] theorem setBank_power (n : Nat) (f : Bank → Bank) (s : State) : (setBank n f s).power = s.power := by unfold setBank; split <;> rfl
@[simp] theorem setBank_batten (n : Nat) (f : Bank → Bank) (s : State) : (setBank n f s).batten = s.batten := by unfold setBank; split <;> rfl
@[simp] theorem setBank_tally (n : Nat) (f : Bank → Bank) (s : State) : (setBank n f s).tally = s.tally := by unfold setBank; split <;> rfl
@[simp] theorem setBank_counters (n : Nat) (f : Bank → Bank) (s : State) : (setBank n f s).counters = s.counters := by unfold setBank; split <;> rfl
@[simp] theorem setBank_ports (n : Nat) (f : Bank → Bank) (s : State) : (setBank n f s).ports = s.ports := by unfold setBank; split <;> rfl
@[simp] theorem setBank_sites (n : Nat) (f : Bank → Bank) (s : State) : (setBank n f s).sites = s.sites := by unfold setBank; split <;> rfl
@[simp] theorem setBank_switch (n : Nat) (f : Bank → Bank) (s : State) : (setBank n f s).switch = s.switch := by unfold setBank; split <;> rfl
@[simp] theorem setBank_reduction (n : Nat) (f : Bank → Bank) (s : State) : (setBank n f s).reduction = s.reduction := by unfold setBank; split <;> rfl
@[simp] theorem setBank_loft (n : Nat) (f : Bank → Bank) (s : State) : (setBank n f s).loft = s.loft := by unfold setBank; split <;> rfl
@[simp] theorem setBank_freezeUnit (n : Nat) (f : Bank → Bank) (s : State) : (setBank n f s).freezeUnit = s.freezeUnit := by unfold setBank; split <;> rfl
@[simp] theorem setBank_referee (n : Nat) (f : Bank → Bank) (s : State) : (setBank n f s).referee = s.referee := by unfold setBank; split <;> rfl
@[simp] theorem setBank_coping (n : Nat) (f : Bank → Bank) (s : State) : (setBank n f s).coping = s.coping := by unfold setBank; split <;> rfl
@[simp] theorem setBank_firmware (n : Nat) (f : Bank → Bank) (s : State) : (setBank n f s).firmware = s.firmware := by unfold setBank; split <;> rfl
@[simp] theorem setBank_patrol (n : Nat) (f : Bank → Bank) (s : State) : (setBank n f s).patrol = s.patrol := by unfold setBank; split <;> rfl
@[simp] theorem setBank_invCycles (n : Nat) (f : Bank → Bank) (s : State) : (setBank n f s).invCycles = s.invCycles := by unfold setBank; split <;> rfl
@[simp] theorem setBank_invHours (n : Nat) (f : Bank → Bank) (s : State) : (setBank n f s).invHours = s.invHours := by unfold setBank; split <;> rfl
@[simp] theorem setBank_invAt (n : Nat) (f : Bank → Bank) (s : State) : (setBank n f s).invAt = s.invAt := by unfold setBank; split <;> rfl
@[simp] theorem setBank_out (n : Nat) (f : Bank → Bank) (s : State) : (setBank n f s).out = s.out := by unfold setBank; split <;> rfl
@[simp] theorem setBank_now (n : Nat) (f : Bank → Bank) (s : State) : (setBank n f s).now = s.now := by unfold setBank; split <;> rfl
@[simp] theorem setBank_freeCount (n : Nat) (f : Bank → Bank) (s : State) : (setBank n f s).freeCount = s.freeCount := by unfold setBank; split <;> rfl
@[simp] theorem setBank_pending (n : Nat) (f : Bank → Bank) (s : State) : (setBank n f s).pending = s.pending := by unfold setBank; split <;> rfl

/-! ### `storeSlot` -/

@[simp] theorem storeSlot_ident (x : ImageSlot) (s : State) : (storeSlot x s).ident = s.ident := rfl
@[simp] theorem storeSlot_mode (x : ImageSlot) (s : State) : (storeSlot x s).mode = s.mode := rfl
@[simp] theorem storeSlot_params (x : ImageSlot) (s : State) : (storeSlot x s).params = s.params := rfl
@[simp] theorem storeSlot_plan (x : ImageSlot) (s : State) : (storeSlot x s).plan = s.plan := rfl
@[simp] theorem storeSlot_planLoaded (x : ImageSlot) (s : State) : (storeSlot x s).planLoaded = s.planLoaded := rfl
@[simp] theorem storeSlot_power (x : ImageSlot) (s : State) : (storeSlot x s).power = s.power := rfl
@[simp] theorem storeSlot_batten (x : ImageSlot) (s : State) : (storeSlot x s).batten = s.batten := rfl
@[simp] theorem storeSlot_tally (x : ImageSlot) (s : State) : (storeSlot x s).tally = s.tally := rfl
@[simp] theorem storeSlot_counters (x : ImageSlot) (s : State) : (storeSlot x s).counters = s.counters := rfl
@[simp] theorem storeSlot_ports (x : ImageSlot) (s : State) : (storeSlot x s).ports = s.ports := rfl
@[simp] theorem storeSlot_sites (x : ImageSlot) (s : State) : (storeSlot x s).sites = s.sites := rfl
@[simp] theorem storeSlot_switch (x : ImageSlot) (s : State) : (storeSlot x s).switch = s.switch := rfl
@[simp] theorem storeSlot_reduction (x : ImageSlot) (s : State) : (storeSlot x s).reduction = s.reduction := rfl
@[simp] theorem storeSlot_loft (x : ImageSlot) (s : State) : (storeSlot x s).loft = s.loft := rfl
@[simp] theorem storeSlot_journal (x : ImageSlot) (s : State) : (storeSlot x s).journal = s.journal := rfl
@[simp] theorem storeSlot_freezeUnit (x : ImageSlot) (s : State) : (storeSlot x s).freezeUnit = s.freezeUnit := rfl
@[simp] theorem storeSlot_referee (x : ImageSlot) (s : State) : (storeSlot x s).referee = s.referee := rfl
@[simp] theorem storeSlot_coping (x : ImageSlot) (s : State) : (storeSlot x s).coping = s.coping := rfl
@[simp] theorem storeSlot_patrol (x : ImageSlot) (s : State) : (storeSlot x s).patrol = s.patrol := rfl
@[simp] theorem storeSlot_invCycles (x : ImageSlot) (s : State) : (storeSlot x s).invCycles = s.invCycles := rfl
@[simp] theorem storeSlot_invHours (x : ImageSlot) (s : State) : (storeSlot x s).invHours = s.invHours := rfl
@[simp] theorem storeSlot_invAt (x : ImageSlot) (s : State) : (storeSlot x s).invAt = s.invAt := rfl
@[simp] theorem storeSlot_out (x : ImageSlot) (s : State) : (storeSlot x s).out = s.out := rfl
@[simp] theorem storeSlot_now (x : ImageSlot) (s : State) : (storeSlot x s).now = s.now := rfl
@[simp] theorem storeSlot_freeCount (x : ImageSlot) (s : State) : (storeSlot x s).freeCount = s.freeCount := rfl
@[simp] theorem storeSlot_pending (x : ImageSlot) (s : State) : (storeSlot x s).pending = s.pending := rfl

/-! ### `runImage` -/

@[simp] theorem runImage_ident (r : Running) (s : State) : (runImage r s).ident = s.ident := rfl
@[simp] theorem runImage_mode (r : Running) (s : State) : (runImage r s).mode = s.mode := rfl
@[simp] theorem runImage_params (r : Running) (s : State) : (runImage r s).params = s.params := rfl
@[simp] theorem runImage_plan (r : Running) (s : State) : (runImage r s).plan = s.plan := rfl
@[simp] theorem runImage_planLoaded (r : Running) (s : State) : (runImage r s).planLoaded = s.planLoaded := rfl
@[simp] theorem runImage_power (r : Running) (s : State) : (runImage r s).power = s.power := rfl
@[simp] theorem runImage_batten (r : Running) (s : State) : (runImage r s).batten = s.batten := rfl
@[simp] theorem runImage_tally (r : Running) (s : State) : (runImage r s).tally = s.tally := rfl
@[simp] theorem runImage_counters (r : Running) (s : State) : (runImage r s).counters = s.counters := rfl
@[simp] theorem runImage_ports (r : Running) (s : State) : (runImage r s).ports = s.ports := rfl
@[simp] theorem runImage_sites (r : Running) (s : State) : (runImage r s).sites = s.sites := rfl
@[simp] theorem runImage_switch (r : Running) (s : State) : (runImage r s).switch = s.switch := rfl
@[simp] theorem runImage_reduction (r : Running) (s : State) : (runImage r s).reduction = s.reduction := rfl
@[simp] theorem runImage_loft (r : Running) (s : State) : (runImage r s).loft = s.loft := rfl
@[simp] theorem runImage_journal (r : Running) (s : State) : (runImage r s).journal = s.journal := rfl
@[simp] theorem runImage_freezeUnit (r : Running) (s : State) : (runImage r s).freezeUnit = s.freezeUnit := rfl
@[simp] theorem runImage_referee (r : Running) (s : State) : (runImage r s).referee = s.referee := rfl
@[simp] theorem runImage_coping (r : Running) (s : State) : (runImage r s).coping = s.coping := rfl
@[simp] theorem runImage_patrol (r : Running) (s : State) : (runImage r s).patrol = s.patrol := rfl
@[simp] theorem runImage_invCycles (r : Running) (s : State) : (runImage r s).invCycles = s.invCycles := rfl
@[simp] theorem runImage_invHours (r : Running) (s : State) : (runImage r s).invHours = s.invHours := rfl
@[simp] theorem runImage_invAt (r : Running) (s : State) : (runImage r s).invAt = s.invAt := rfl
@[simp] theorem runImage_out (r : Running) (s : State) : (runImage r s).out = s.out := rfl
@[simp] theorem runImage_now (r : Running) (s : State) : (runImage r s).now = s.now := rfl
@[simp] theorem runImage_freeCount (r : Running) (s : State) : (runImage r s).freeCount = s.freeCount := rfl
@[simp] theorem runImage_pending (r : Running) (s : State) : (runImage r s).pending = s.pending := rfl

/-! ### `writePointer` -/

@[simp] theorem writePointer_ident (k t sl : Nat) (tr : Bool) (l : Nat) (s : State) : (writePointer k t sl tr l s).ident = s.ident := rfl
@[simp] theorem writePointer_mode (k t sl : Nat) (tr : Bool) (l : Nat) (s : State) : (writePointer k t sl tr l s).mode = s.mode := rfl
@[simp] theorem writePointer_params (k t sl : Nat) (tr : Bool) (l : Nat) (s : State) : (writePointer k t sl tr l s).params = s.params := rfl
@[simp] theorem writePointer_plan (k t sl : Nat) (tr : Bool) (l : Nat) (s : State) : (writePointer k t sl tr l s).plan = s.plan := rfl
@[simp] theorem writePointer_planLoaded (k t sl : Nat) (tr : Bool) (l : Nat) (s : State) : (writePointer k t sl tr l s).planLoaded = s.planLoaded := rfl
@[simp] theorem writePointer_power (k t sl : Nat) (tr : Bool) (l : Nat) (s : State) : (writePointer k t sl tr l s).power = s.power := rfl
@[simp] theorem writePointer_batten (k t sl : Nat) (tr : Bool) (l : Nat) (s : State) : (writePointer k t sl tr l s).batten = s.batten := rfl
@[simp] theorem writePointer_tally (k t sl : Nat) (tr : Bool) (l : Nat) (s : State) : (writePointer k t sl tr l s).tally = s.tally := rfl
@[simp] theorem writePointer_counters (k t sl : Nat) (tr : Bool) (l : Nat) (s : State) : (writePointer k t sl tr l s).counters = s.counters := rfl
@[simp] theorem writePointer_ports (k t sl : Nat) (tr : Bool) (l : Nat) (s : State) : (writePointer k t sl tr l s).ports = s.ports := rfl
@[simp] theorem writePointer_sites (k t sl : Nat) (tr : Bool) (l : Nat) (s : State) : (writePointer k t sl tr l s).sites = s.sites := rfl
@[simp] theorem writePointer_switch (k t sl : Nat) (tr : Bool) (l : Nat) (s : State) : (writePointer k t sl tr l s).switch = s.switch := rfl
@[simp] theorem writePointer_reduction (k t sl : Nat) (tr : Bool) (l : Nat) (s : State) : (writePointer k t sl tr l s).reduction = s.reduction := rfl
@[simp] theorem writePointer_loft (k t sl : Nat) (tr : Bool) (l : Nat) (s : State) : (writePointer k t sl tr l s).loft = s.loft := rfl
@[simp] theorem writePointer_journal (k t sl : Nat) (tr : Bool) (l : Nat) (s : State) : (writePointer k t sl tr l s).journal = s.journal := rfl
@[simp] theorem writePointer_freezeUnit (k t sl : Nat) (tr : Bool) (l : Nat) (s : State) : (writePointer k t sl tr l s).freezeUnit = s.freezeUnit := rfl
@[simp] theorem writePointer_referee (k t sl : Nat) (tr : Bool) (l : Nat) (s : State) : (writePointer k t sl tr l s).referee = s.referee := rfl
@[simp] theorem writePointer_coping (k t sl : Nat) (tr : Bool) (l : Nat) (s : State) : (writePointer k t sl tr l s).coping = s.coping := rfl
@[simp] theorem writePointer_patrol (k t sl : Nat) (tr : Bool) (l : Nat) (s : State) : (writePointer k t sl tr l s).patrol = s.patrol := rfl
@[simp] theorem writePointer_invCycles (k t sl : Nat) (tr : Bool) (l : Nat) (s : State) : (writePointer k t sl tr l s).invCycles = s.invCycles := rfl
@[simp] theorem writePointer_invHours (k t sl : Nat) (tr : Bool) (l : Nat) (s : State) : (writePointer k t sl tr l s).invHours = s.invHours := rfl
@[simp] theorem writePointer_invAt (k t sl : Nat) (tr : Bool) (l : Nat) (s : State) : (writePointer k t sl tr l s).invAt = s.invAt := rfl
@[simp] theorem writePointer_out (k t sl : Nat) (tr : Bool) (l : Nat) (s : State) : (writePointer k t sl tr l s).out = s.out := rfl
@[simp] theorem writePointer_now (k t sl : Nat) (tr : Bool) (l : Nat) (s : State) : (writePointer k t sl tr l s).now = s.now := rfl
@[simp] theorem writePointer_freeCount (k t sl : Nat) (tr : Bool) (l : Nat) (s : State) : (writePointer k t sl tr l s).freeCount = s.freeCount := rfl
@[simp] theorem writePointer_pending (k t sl : Nat) (tr : Bool) (l : Nat) (s : State) : (writePointer k t sl tr l s).pending = s.pending := rfl

/-! ### `storeSegment` -/

@[simp] theorem storeSegment_ident (g : Segment) (s : State) : (storeSegment g s).ident = s.ident := rfl
@[simp] theorem storeSegment_mode (g : Segment) (s : State) : (storeSegment g s).mode = s.mode := rfl
@[simp] theorem storeSegment_params (g : Segment) (s : State) : (storeSegment g s).params = s.params := rfl
@[simp] theorem storeSegment_plan (g : Segment) (s : State) : (storeSegment g s).plan = s.plan := rfl
@[simp] theorem storeSegment_planLoaded (g : Segment) (s : State) : (storeSegment g s).planLoaded = s.planLoaded := rfl
@[simp] theorem storeSegment_power (g : Segment) (s : State) : (storeSegment g s).power = s.power := rfl
@[simp] theorem storeSegment_batten (g : Segment) (s : State) : (storeSegment g s).batten = s.batten := rfl
@[simp] theorem storeSegment_tally (g : Segment) (s : State) : (storeSegment g s).tally = s.tally := rfl
@[simp] theorem storeSegment_counters (g : Segment) (s : State) : (storeSegment g s).counters = s.counters := rfl
@[simp] theorem storeSegment_ports (g : Segment) (s : State) : (storeSegment g s).ports = s.ports := rfl
@[simp] theorem storeSegment_sites (g : Segment) (s : State) : (storeSegment g s).sites = s.sites := rfl
@[simp] theorem storeSegment_switch (g : Segment) (s : State) : (storeSegment g s).switch = s.switch := rfl
@[simp] theorem storeSegment_reduction (g : Segment) (s : State) : (storeSegment g s).reduction = s.reduction := rfl
@[simp] theorem storeSegment_loft (g : Segment) (s : State) : (storeSegment g s).loft = s.loft := rfl
@[simp] theorem storeSegment_freezeUnit (g : Segment) (s : State) : (storeSegment g s).freezeUnit = s.freezeUnit := rfl
@[simp] theorem storeSegment_referee (g : Segment) (s : State) : (storeSegment g s).referee = s.referee := rfl
@[simp] theorem storeSegment_coping (g : Segment) (s : State) : (storeSegment g s).coping = s.coping := rfl
@[simp] theorem storeSegment_firmware (g : Segment) (s : State) : (storeSegment g s).firmware = s.firmware := rfl
@[simp] theorem storeSegment_patrol (g : Segment) (s : State) : (storeSegment g s).patrol = s.patrol := rfl
@[simp] theorem storeSegment_invCycles (g : Segment) (s : State) : (storeSegment g s).invCycles = s.invCycles := rfl
@[simp] theorem storeSegment_invHours (g : Segment) (s : State) : (storeSegment g s).invHours = s.invHours := rfl
@[simp] theorem storeSegment_invAt (g : Segment) (s : State) : (storeSegment g s).invAt = s.invAt := rfl
@[simp] theorem storeSegment_out (g : Segment) (s : State) : (storeSegment g s).out = s.out := rfl
@[simp] theorem storeSegment_now (g : Segment) (s : State) : (storeSegment g s).now = s.now := rfl
@[simp] theorem storeSegment_freeCount (g : Segment) (s : State) : (storeSegment g s).freeCount = s.freeCount := rfl
@[simp] theorem storeSegment_pending (g : Segment) (s : State) : (storeSegment g s).pending = s.pending := rfl

/-! ### Reading what was written -/

@[simp] theorem emit_out (o : Out) (s : State) : (emit o s).out = o :: s.out := rfl
@[simp] theorem bumpFree_freeCount (s : State) : (bumpFree s).freeCount = s.freeCount + 1 := rfl
@[simp] theorem setPhase_phase (ph : Phase) (c : Nat) (s : State) : (setPhase ph c s).power.phase = ph := rfl
@[simp] theorem setPhase_latches (ph : Phase) (c : Nat) (s : State) :
    (setPhase ph c s).power.latches = s.power.latches := rfl
@[simp] theorem setPhase_step (ph : Phase) (c : Nat) (s : State) : (setPhase ph c s).power.step = s.power.step := rfl
@[simp] theorem setCause_phase (c : Nat) (s : State) : (setCause c s).power.phase = s.power.phase := rfl
@[simp] theorem eave_setEave_same (e : Eave) (f : EaveUnit → EaveUnit) (s : State) :
    eave e (setEave e f s) = f (eave e s) := by cases e <;> rfl
@[simp] theorem eave_setEave_peer (e : Eave) (f : EaveUnit → EaveUnit) (s : State) :
    eave (peer e) (setEave e f s) = eave (peer e) s := by cases e <;> rfl
@[simp] theorem peer_peer (e : Eave) : peer (peer e) = e := by cases e <;> rfl

end Sys2Proof.Machine
end

