-- ==== Sys2Proof/Tests/Slice0.lean ====
section
/-! SUPPORT. The model's own tests: ill-formed terms that WellFormed refuses, worked values of the spec, one step on
small states, and for each statement states that meet its hypotheses. -/

namespace Sys2Proof.Tests

open Sys2Proof.Machine

set_option Elab.async false

/-! ### Small states and packets -/

/-- A tray in READY: two controllers, an ADMIN session 0x10001 on connection 1 and an AUDITOR session 0x10002 on
connection 2, every slate serving but the four spares, every port UP on four lanes. -/
def ready : State :=
  { State.reset with
    power :=
      { phase := .ready, step := 14, waferRunning := true, slatesRunning := true, banksMounted := true, slotId := 3
        latches :=
          { eaveRstN := 3, cartRailEn := 15, rimRailEn := 1, slateRailEn := 0xFFFFFFFFF, slateRstN := 0xFFFFFFFFF
            waferRstN := 1 } }
    referee :=
      { booted := true
        a := { state := .authoritative, booted := true, cleanRun := 3 }
        b := { state := .standby, booted := true, cleanRun := 3 } }
    tally := { value := 0x100000, state := .locked, counting := true, pllLocked := true }
    sites := (List.range 36).map fun n =>
      { state := if defaultActive.contains n then .serving else .idle, bistPassed := true, free := 1000 }
    ports := List.replicate 160
      { state := .up, width := 4, lanes := 15
        grantIn := { c0 := 1000, c1 := 1000, c2 := 1000, c3 := 1000, c7 := 1000 } }
    journal := { bankA := { state := .primary }, bankB := { state := .secondary } }
    batten :=
      { roleMap := [{ issuer := false, role := .admin, fingerprint := 7 },
                    { issuer := false, role := .auditor, fingerprint := 8 }]
        connections :=
          [{ id := 1, eave := .a, fingerprint := 7, issuers := [], session := some 0x10001 },
           { id := 2, eave := .a, fingerprint := 8, issuers := [], session := some 0x10002 },
           { id := 3, eave := .a, fingerprint := 7, issuers := [], session := none }]
        sessions :=
          [{ originator := 0x10001, fingerprint := 7, issuers := [], role := .admin, lingering := false },
           { originator := 0x10002, fingerprint := 8, issuers := [], role := .auditor, lingering := false }]
        usedIds := [0x10001, 0x10002] } }

/-- A packet on connection 1 (ADMIN). -/
def pk (unit : Byte) (inst : U16) (body : List Byte) : Packet :=
  { path := .management 1, version := 0x10, flags := 0, originator := 0x10001, sequence := 1, unit := unit
    reserved27 := 0, inst := inst, reserved30 := 0, body := body }

/-- A packet on connection 2 (AUDITOR). -/
def au (unit : Byte) (inst : U16) (body : List Byte) : Packet :=
  { pk unit inst body with path := .management 2, originator := 0x10002 }

/-- Whether a command with this packet is accepted. -/
def takes (c : Instr) (s : State) : Bool := c.packet?.any fun p => accepted c p s

/-- `ready` with one port changed. -/
def withPort (n : Nat) (f : Port → Port) : State := setPort n f ready

/-- A packet with a sequence of its own. -/
def sq (q : U64) (p : Packet) : Packet := { p with sequence := q }

/-- A header of an endpoint's frame. -/
def hdr (cls type : Byte) (len dst : U16) : FrameHeader :=
  { sof := 0x33, cls := cls, type := type, flags := 0, length := len, dstPort := dst, srcEndpoint := 1, dstEndpoint := 2
    reserved12 := 0, tag := 9, address := 0, aux := 0, reserved40 := 0 }

/-- A whole frame with right checks. -/
def frameOf (h : FrameHeader) (payload : List Byte) : RxFrame :=
  { header := h, hcrc := crc32c (headerBytes60 h), payload := payload, blocks := (payload.length + 31) / 32
    lastValid := if payload.length = 0 then 0 else (payload.length - 1) % 32 + 1
    crc := crc32c (headerBytes h ++ payload), eof := .good }

/-- Whether an outcome is a next state. -/
def goes : Host.Outcome State Fault Refusal → Bool
  | .next _ => true
  | _ => false

theorem goes_next {o : Host.Outcome State Fault Refusal} (h : goes o = true) : ∃ u, o = .next u := by
  cases o with
  | next u => exact ⟨u, rfl⟩
  | fault f => cases f
  | refused r => cases h

/-- The state in which an accepted command runs. -/
def bs (c : Instr) (s : State) : State :=
  match c.packet? with
  | some p => base c p s
  | none => s

/-! ### WellFormed refuses ill-formed terms -/

theorem test_port_160 : Instr.wf (.portSignalDetect 160) = false := by decide
theorem test_site_36 : Instr.wf (.fuseTrip 36) = false := by decide
theorem test_channel_16 : Instr.wf (.senseWord 16 0) = false := by decide
theorem test_leak_channel_15 : Instr.wf (.leakWindowExpiry 15) = false := by decide
theorem test_aout_8 : Instr.wf (.deglitchHoldEnd 8) = false := by decide
theorem test_lane_4 : Instr.wf (.laneSignalLoss 0 4) = false := by decide
theorem test_bank_2 : Instr.wf (.bankFault 2) = false := by decide
theorem test_block_32 : Instr.wf (.loftAccessDone 32 .clean) = false := by decide
theorem test_scrub_cartridge_32 : Instr.wf (.loftScrubPass 32) = false := by decide
theorem test_cartridge : Instr.wf (.cartridgeFault (.thatch 4)) = false := by decide
theorem test_mcu_20 : Instr.wf (.cartridgeMcuReady 20) = false := by decide
theorem test_bist_site : Instr.wf (.fullBistDone { sites := [36], rim := [], engines := [], slices := [], links := [] }) =
    false := by decide
theorem test_slate_bist_engine : Instr.wf (.slateBistDone 0 { pass := true, engines := [6], slices := [] }) = false := by
  decide
theorem test_open_frame :
    Instr.wf (.expressPreemptSof 0 { cls := 7, blocksSeen := 0, payloadLeft := 0, fragment := 0, credits := 0 }) = false := by
  decide
theorem test_in_band_port : Instr.wf (.identity { pk 0 0xFFFF [] with path := .inBand 160 7 }) = false := by decide
theorem test_assigned_opcode : Instr.wf (.unassignedOpcode 0x70 (pk 0 0xFFFF [])) = false := by decide
theorem test_malformed_path : Instr.wf (.malformedPacket (.inBand 160 7) { kind := .crc, unit := .wafer } []) = false := by decide
theorem test_wf_holds : Instr.wf (.identity (pk 0 0xFFFF [])) = true := by decide

/-! ### States that meet the statements' hypotheses -/

/-- `ready` with a window of the ADMIN session: H = 2, sequence 1 executed and kept, sequence 2 skipped, sequence 4 held. -/
def windowed : State :=
  setWindow 0x10001 { highWater := 2, marks := [(1, .executed 9 (.management 1)), (2, .skipped), (4, .held 9 (.identity (pk 0 0xFFFF [])) 0)]
                      kept := [(1, replyTo (pk 0 0xFFFF []) 1 stOk 0 0 [])] } ready

theorem witness_SessionReadsAnswer :
    takes (.identity (pk 0 0xFFFF [])) ready ∧ takes (.features (pk 0 0xFFFF [])) ready ∧
    takes (.certRead (pk 0 0xFFFF [])) ready ∧ takes (.rolemapRead (pk 0 0xFFFF [])) ready ∧
    (let b := base (.completionRead (sq 3 (pk 0 0xFFFF (le 8 1)))) (sq 3 (pk 0 0xFFFF (le 8 1))) windowed
     let w := windowOf 0x10001 b
     takes (.completionRead (sq 3 (pk 0 0xFFFF (le 8 1)))) windowed ∧
     lookup w.marks 1 = some (.executed 9 (.management 1)) ∧ w.running.contains 1 = false ∧ (lookup w.kept 1).isSome ∧
     (lookup w.marks 2 = some .skipped) ∧ (match lookup w.marks 4 with | some (.held ..) => true | _ => false) = true ∧
     lookup w.marks 200 = none ∧ w.highWater < 200) := by
  decide +kernel

/-- A window that has gone on past 256 sequences, in which sequence 1 still runs. -/
def late : State :=
  setWindow 0x10001 { highWater := 300, marks := [(100, .executed 9 (.management 1))], running := [100] } ready

theorem witness_SessionReadsAnswer_late :
    let p := sq 301 (pk 0 0xFFFF (le 8 100))
    let w := windowOf 0x10001 (base (.completionRead p) p late)
    takes (.completionRead p) late ∧ lookup w.marks 100 = some (.executed 9 (.management 1)) ∧ w.running.contains 100 = true ∧
    lookup w.marks 5 = none ∧ 5 ≤ w.highWater := by
  decide +kernel

/-- SESSION_OPEN of role ADMIN on connection 3. -/
def openNew : Packet := { pk 0 0xFFFF [2, 0, 0, 0] with path := .management 3, originator := 0, sequence := 0 }
def rejoin : Packet := { openNew with originator := 0x10001 }

theorem witness_SessionOpenBindsConnection_new :
    originatorPermitted (.sessionOpen openNew) openNew ready = true ∧ headerFault openNew = none ∧
    openRefusal { id := 3, eave := .a, fingerprint := 7, issuers := [], session := none } openNew ready = none ∧
    (liveSession openNew.originator ready).isSome = false := by
  decide +kernel

theorem witness_SessionOpenBindsConnection_rejoin :
    connection 3 ready = some { id := 3, eave := .a, fingerprint := 7, issuers := [], session := none } ∧
    eaveAnswers .a ready = true ∧ headerFault rejoin = none ∧ originatorPermitted (.sessionOpen rejoin) rejoin ready = true ∧
    openRefusal { id := 3, eave := .a, fingerprint := 7, issuers := [], session := none } rejoin ready = none ∧
    (liveSession rejoin.originator ready).isSome = true := by
  decide +kernel

/-- What a client offers that the tray accepts. -/
def hello : TlsHello :=
  { tls13 := true, earlyData := false, resumption := false, suites := [.other, .aes128GcmSha256], groups := [.x25519]
    schemes := [.ecdsaSecp384r1Sha384], fingerprint := 7, issuers := [] }

/-- `ready` with its ADMIN session lingering. -/
def lingering : State :=
  { ready with batten := { ready.batten with connections := []
                                             sessions := [{ originator := 0x10001, fingerprint := 7, issuers := []
                                                            role := .admin, lingering := true }] } }

theorem witness_SessionsBeginAndEnd :
    eaveAnswers .a ready = true ∧ connection 9 ready = none ∧ helloSuits hello = true ∧ matching hello.fingerprint hello.issuers ready ≠ [] ∧
    matching 9 hello.issuers ready = [] ∧ helloSuits { hello with suites := [.other] } = false ∧ (connection 1 ready).isSome ∧
    (liveSession 0x10001 lingering).any (·.lingering) ∧ takes (.sessionClose (pk 0 0xFFFF [])) ready ∧
    (let body := le 2 1 ++ zs 2 ++ [0, 2, 0, 0] ++ zs 32
     takes (.rolemapWrite (pk 0 0xFFFF body)) ready ∧ (roleEntries body).any (fun e => e.role = .admin) = true) ∧
    (let body := le 2 1 ++ zs 2 ++ [0, 0, 0, 0] ++ zs 32
     takes (.rolemapWrite (pk 0 0xFFFF body)) ready ∧ (roleEntries body).any (fun e => e.role = .admin) = false) := by
  decide +kernel

/-- Stages batten.session_linger_s = 20. -/
def stageBody : List Byte := le 2 1 ++ zs 2 ++ le 4 pLinger ++ zs 4 ++ le 8 20

/-- `ready` with that set staged, and a set of the AUDITOR's scheduled. -/
def staged : State :=
  { ready with batten := { ready.batten with
      staged := [(0x10001, [(pLinger, 20)])]
      scheduled := [{ originator := 0x10002, tick := 0x200000, entries := [(pTrialBoots, 2)] }] } }

theorem witness_ParametersStagedAndApplied :
    (takes (.paramStage (pk 0 0xFFFF stageBody)) ready ∧ (∀ e ∈ stageEntries stageBody, entryFault e.1 e.2 ready = none)) ∧
    (takes (.paramStage (pk 0 0xFFFF (le 2 1 ++ zs 2 ++ le 4 0xFFFFFFFF ++ zs 4 ++ le 8 20))) ready ∧
      (entryFault 0xFFFFFFFF 20 ready).isSome) ∧
    (takes (.paramRead (pk 0 0xFFFF (le 2 1 ++ zs 2 ++ le 4 pLinger))) ready ∧ unreadable pLinger ready = none) ∧
    (takes (.paramDescribe (pk 0 0xFFFF (le 4 pLinger ++ zs 4))) ready ∧ (paramInfo ready pLinger).isSome ∧
      paramAbsent pLinger ready = false) ∧
    (takes (.paramCommit (pk 0 0xFFFF (le 8 0))) staged ∧ stagedOf 0x10001 staged ≠ [] ∧
      setFault (stagedOf 0x10001 staged) staged = none) ∧
    takes (.paramDiscard (pk 0 0xFFFF [])) staged ∧ marksSent staged = true ∧ earliest staged = some 0x200000 ∧
    (paramInfo ready pLinger).isSome := by
  decide +kernel

/-- A cable plan of 160 entries that name nothing. -/
def emptyPlan : List Byte := le 2 160 ++ zs 6 ++ zs 1280

theorem witness_PortCommands :
    takes (.portStatus (pk 1 0xFFFF [])) ready ∧ takes (.cablePlanRead (pk 1 0xFFFF [])) ready ∧
    (let s := withPort 128 fun q => { q with moduleReady := true }
     takes (.opticRead (pk 0x11 16 [0, 0, 0, 0, 8, 0, 0, 0])) s ∧ opticPage 0 = true ∧ (port 128 s).moduleReady = true) ∧
    (takes (.cablePlanLoad (pk 1 0xFFFF emptyPlan)) ready ∧ planFault (planEntries emptyPlan) ready = none ∧
      param pPlanPolicy ready ≠ 1) ∧
    takes (.portUp (pk 1 5 [])) ready ∧ takes (.portDown (pk 1 5 [0, 0, 0, 0, 0, 0, 0, 0])) ready ∧
    takes (.portAdapt (pk 1 5 [])) ready ∧ (port 5 ready).state = .up ∧ (port 5 ready).adapt = .none ∧
    (let s := withPort 5 fun q => { q with state := .down }
     takes (.portAdapt (pk 1 5 [])) s ∧ (port 5 s).state ≠ .up ∧ portHold 5 s = none) := by
  decide +kernel

/-- A port in TRAINING at a step of Table 7.11. -/
def training (step : Nat) : State := withPort 5 fun q => { q with state := .training, step := step }

/-- An IDENTITY block of a tray. -/
def idBlock : IdentityBlock := { kind := 1, rackId := 2, slot := 3, port := 4, serialHash := 5, version := 1 }

theorem witness_PortsTrainAndCheckPlan :
    (let s := withPort 5 fun q => { q with state := .down }
     (port 5 s).state = .down ∧ mayTrain s = true ∧ portFitted 5 s = true ∧ portHold 5 s = none) ∧
    ((port 5 (training 2)).state = .training ∧ (port 5 (training 2)).step < 3 ∧ mayTrain (training 2) = true ∧
      (3#4 &&& 15#4 ≠ 0) ∧ (3#4 &&& 12#4 = 0)) ∧
    ((port 5 (training 3)).farSelectBad = false ∧ (port 5 (training 5)).step = 5) ∧
    (let s := withPort 5 fun q => { q with state := .identity }
     waferLive s = true ∧ trained 5 s = true ∧ (port 5 s).state ≠ .training ∧ idBlock.kind.toNat < 2) ∧
    (let s := withPort 5 fun q => { q with state := .identity, idBlock := some idBlock, idCount := 2 }
     (port 5 s).idBlock = some idBlock ∧ 3 ≤ (port 5 s).idCount + 1) ∧
    (sameIdentity 5 idBlock ready = none ∧ param pPlanPolicy ready ≠ 1 ∧ ready.planLoaded = false) ∧
    (let s := { withPort 6 fun q => { q with received := some idBlock } with planLoaded := true, plan := List.replicate 160 0 }
     (sameIdentity 5 idBlock s).isSome ∧ planMatches (s.plan.getD 5 0) idBlock = false) := by
  decide +kernel

theorem witness_WidthIsWidest :
    5 < (training 2).ports.length ∧ mayTrain (training 2) = true ∧ (port 5 (training 2)).state = .training ∧
    (port 5 (training 2)).step < 3 ∧ 7#4 &&& 15#4 ≠ 0 ∧
    (match exec (.linkTrainingDone 5 7 15 false) (training 2) with
      | .next t => (port 5 t).lanes == 3 && (port 5 t).width == 2
      | _ => false) = true := by
  decide +kernel

theorem witness_OrderedSetsOfPorts :
    waferLive ready = true ∧ (port 5 ready).state = .up ∧ trained 5 ready = true ∧ 5 < ready.ports.length ∧
    (let s := withPort 5 fun q => { q with adapt := .asked }
     (port 5 s).adapt = .asked ∧ (port 5 s).state = .up) ∧ trained 5 (training 5) = true ∧
    (port 5 (training 5)).state ≠ .up := by
  decide +kernel

theorem witness_GrantNeverExceedsLimit :
    (0 ∈ [0, 1, 2, 3, 7]) ∧ 5 < ready.ports.length ∧
    (1000 + 65536 - (port 5 ready).usedOut.get 0) % 65536 ≤ 32767 ∧
    32767 < (40000 + 65536 - (port 5 ready).usedOut.get 0) % 65536 := by
  decide +kernel

theorem witness_LinksAreLost :
    waferLive ready = true ∧ trained 5 ready = true ∧ (port 5 ready).freezeIdle = false ∧ (port 5 ready).badAligns = 0 ∧
    (port 5 ready).lanes.getLsbD 2 = true ∧
    (let s := withPort 5 fun q => { q with badAligns := 1, fecL := true }
     1 ≤ (port 5 s).badAligns ∧ (port 5 s).fecL = true) ∧
    (port 5 (withPort 5 fun q => { q with freezeIdle := true })).freezeIdle = true ∧
    portFitted 130 ready = true ∧ opticalRail ready = true := by
  decide +kernel

/-- A frame that a receiver has open. -/
def openFrame : OpenFrame := { cls := 0, blocksSeen := 4, payloadLeft := 2, fragment := 1, credits := 3 }

theorem witness_ReceiverCases :
    receives 5 ready = true ∧ (port 5 ready).parked = none ∧ (4 ≤ openFrame.blocksSeen ∧ 2 ≤ openFrame.payloadLeft) ∧
    (let s := withPort 5 fun q => { q with parked := some openFrame }
     receives 5 s = true ∧ (port 5 s).parked = some openFrame ∧ (2#2).toNat = (openFrame.fragment + 1) % 4) ∧
    knownBlock 0 = false ∧ (port 5 ready).openRx = none ∧ (port 5 ready).discarding = false ∧
    (port 5 (withPort 5 fun q => { q with discarding := true })).discarding = true := by
  decide +kernel

/-! ### Switch core, patrol and boundary scan -/

theorem witness_SlatesAndSwitchCore :
    takes (.topologyRead (pk 2 0xFFFF [])) ready ∧ takes (.dormerStatus (pk 2 0xFFFF [])) ready ∧
    takes (.skylightRead (pk 2 8 [1, 0, 0, 0, 0, 0, 0, 0])) ready ∧
    takes (.slateIsolate (pk 2 8 [])) ready ∧ isServing 8 ready = true ∧ takes (.slateIsolate (pk 2 5 [])) ready ∧
    isServing 5 ready = false ∧ takes (.slateRestore (pk 2 8 [])) ready ∧ ready.power.phase = .ready ∧
    (let s := { ready with power.phase := .firmware }
     takes (.slateRestore (pk 2 8 [])) s ∧ s.power.phase ≠ .links ∧ s.power.phase ≠ .ready) ∧
    (let s := startOp (.slateRestore 8) (pk 2 8 []) 0x3D (setSite 8 (fun t => { t with state := .isolated }) ready)
     hasOp (isRestoreOp 8) s = true ∧ defective 8 s = false ∧ trippedTwice 8 s = false ∧ restoreWaits 8 s = false ∧
     forwards 8 s = false) ∧
    slateRail 8 ready = true ∧ waferLive ready = true ∧ forwards 8 ready = true ∧ auditMismatch 8 ready = true ∧
    (let s := setSite 8 (fun t => { t with free := shareTotal ready }) ready
     forwards 8 s = true ∧ auditMismatch 8 s = false ∧ (site 8 s).walkPending = false ∧
     (let s := setSite 8 (fun t => { t with walkPending := true, prevCandidates := [5] }) s
      (site 8 s).walkPending = true ∧ (site 8 s).prevCandidates = [5])) := by
  decide +kernel

/-- `ready` with credits granted on port 0. -/
def granting : State :=
  withPort 0 fun q => { q with grantOut := { c0 := 100, c1 := 100, c2 := 100, c3 := 100, c7 := 100 } }

/-- A DATA frame of 8 bytes to port 5. -/
def data (cls : Byte) : RxFrame := frameOf (hdr cls 1 8 5) [1, 2, 3, 4, 5, 6, 7, 8]

theorem witness_FramesScreenedAndQueued :
    frameCheck 0 (data 0) granting = .good ∧
    frameCheck 0 (data 0) (setPort 0 (fun q => { q with state := .down }) granting) = .notUp ∧
    frameCheck 0 { data 0 with hcrc := 0 } granting = .header ∧
    frameCheck 0 { data 0 with lastValid := 9 } granting = .framing ∧
    frameCheck 0 (frameOf (hdr 0 3 0 0xFFFF) []) granting = .type ∧
    frameCheck 0 (data 0) ready = .credit ∧ frameCheck 0 { data 0 with eof := .stomp } granting = .stomp ∧
    frameCheck 0 { data 0 with crc := 0 } granting = .crc ∧ frameCheck 0 { data 7 with crc := 0 } granting = .crc ∧
    0 < granting.ports.length ∧ (port 0 granting).state = .up ∧ rehoming 0 granting = false ∧ credited 0 = true ∧
    (port 5 (setPort 5 (fun q => { q with state := .down }) granting)).state ≠ .up ∧ (port 5 granting).state = .up ∧
    (let f := dataQFrame 0 0 (hdr 4 1 8 5) (zs 8)
     4 ≤ f.cls ∧ f.cls ≤ 6 ∧ ∃ s : State, s.ports = granting.ports ∧
      param pLimit s * 4 < voqShingles 0 f.output f.cls s + f.shingles) ∧
    (let h := hdr 0 1 8 5
     let f := dataQFrame 0 ((servingSite 0 (withPort 5 fun q => { q with suspended := some (TxFrame.mk (dataQFrame 0 0 h []) 0 0 0) })).getD 0) h (zs 8)
     cutThrough 0 f (withPort 5 fun q => { q with suspended := some (TxFrame.mk (dataQFrame 0 0 h []) 0 0 0) }) = false) := by
  refine ⟨by decide +kernel, by decide +kernel, by decide +kernel, by decide +kernel, by decide +kernel, by decide +kernel,
    by decide +kernel, by decide +kernel, by decide +kernel, by decide +kernel, by decide +kernel, by decide +kernel,
    by decide +kernel, by decide +kernel, by decide +kernel, ?_, by decide +kernel⟩
  exact ⟨by decide, by decide, { granting with switch.queue := [{ dataQFrame 0 0 (hdr 4 1 8 5) [] with shingles := 20000000 }] },
    rfl, by decide +kernel⟩

/-- R461: an express frame needs the state UP. -/
theorem test_express_needs_up :
    frameCheck 0 (data 7) (setPort 0 (fun q => { q with state := .draining }) granting) = .notUp ∧
    frameCheck 0 (data 0) (setPort 0 (fun q => { q with state := .draining }) granting) = .good := by
  decide +kernel

/-- A queued frame of a class from port 0 to port 5. -/
def waitingFrame (cls : Byte) : QFrame := dataQFrame 0 ((servingSite 0 ready).getD 0) (hdr cls 1 8 5) (zs 8)

/-- `ready` with one frame queued. -/
def queued (cls : Byte) : State := enqueue (waitingFrame cls) ready

theorem witness_OutputsServeEligibleHeads :
    outputServes 5 (queued 0) = true ∧ (choose 5 (queued 0)).isSome ∧ choose 5 ready = none ∧
    (nextHead 5 7 (queued 7)).isSome ∧
    (let s := withPort 5 fun q => { q with suspended := some { frame := waitingFrame 0, fragment := 3, sent := 4, since := 0 } }
     (port 5 s).suspended.isSome ∧ outputServes 5 s = true ∧ nextHead 5 7 s = none) ∧
    (let s := withPort 5 fun q => { q with state := .draining }
     waferLive s = true ∧ (port 5 s).state = .draining ∧ (port 5 s).adapt = .none) ∧
    (let s := withPort 5 fun q => { q with state := .draining, adapt := .draining }
     (port 5 s).state = .draining ∧ (port 5 s).adapt ≠ .none) := by
  decide +kernel

theorem witness_MeshPathsAreClear :
    meshPath 0 14 ready = some [0, 6, 12, 13, 14] ∧ pathClear (xyPath 0 14) ready = true ∧
    (let s := setSite 6 (fun t => { t with state := .failed }) ready
     pathClear (xyPath 0 14) s = false ∧ meshPath 0 14 s = some [0, 1, 2, 8, 14] ∧ pathClear (yxPath 0 14) s = true) ∧
    (let s := setSite 1 (fun t => { t with state := .failed }) ready
     pathClear (xyPath 0 2) s = false ∧ pathClear (yxPath 0 2) s = false ∧ meshPath 0 2 s = some [0, 6, 7, 8, 2]) := by
  decide +kernel

/-- `ready` with patrol in a cycle whose list is the slices of site 8. -/
def patrolling : State :=
  { ready with patrol := { ready.patrol with started := true, sites := [8, 9], links := [6], count := 1139, period := 1000000, interval := 800 } }

/-- `patrolling` with one slice at a step. -/
def atStep (x : Slice) (st : SliceStage) : State := { patrolling with patrol.current := some (x, st) }

theorem witness_PatrolCyclesAndSlices :
    waferLive patrolling = true ∧ patrolling.patrol.started = true ∧ patrolling.patrol.current = none ∧
    sliceAt 0 patrolling = some (.unit 8 0) ∧ param pPatrolEnable patrolling ≠ 0 ∧ listed (.unit 8 0) patrolling = true ∧
    skipped (.unit 8 0) patrolling = false ∧
    (let s := setSite 8 (fun t => { t with bistRunning := true }) patrolling
     listed (.unit 8 0) s = true ∧ skipped (.unit 8 0) s = true) ∧
    (let s := { patrolling with
       patrol.next := 1138
       sites := patrolling.sites.zipIdx.map fun x => if [1, 2, 7, 8].contains x.2 then x.1 else { x.1 with state := .failed } }
     sliceAt 1138 s = some (.link 6) ∧ listed (.link 6) s = true ∧ skipped (.link 6) s = false) ∧
    listed (.unit 8 0) (setSite 8 (fun t => { t with state := .failed }) patrolling) = false ∧
    listed (.unit 8 0) (atStep (.unit 8 0) .notice) = true ∧
    sliceDrained (.unit 8 0) (atStep (.unit 8 0) .drainWait) = some true ∧
    sliceDrained (.link 6) (atStep (.link 6) .drainWait) = none ∧
    takes (.patrolStatus (pk 0xE 0xFFFF [])) patrolling := by
  decide +kernel

theorem witness_PatrolDrainTimeout :
    let s := { atStep (.unit 8 0) .drainWait with reduction.collectives :=
      [{ id := 1, decision := 0, group := { id := 1, members := [], powerHeavy := false, stepW := 0, record := 0 }
         elements := 1, op := .sum, input := .fp32, output := .fp32, canonical := false, admission := 0, yealms := [(8, 0)]
         depth := 1, home := 8 }] }
    listed (.unit 8 0) s = true ∧ sliceDrained (.unit 8 0) s = some false := by
  decide +kernel

theorem witness_TapInstructions :
    (∀ t ∈ [Tap.coping, .eaveA, .eaveB, .wafer], tapAccepts t ready = true) ∧ tapPermits .eaveA ready = false ∧
    (let s := setEave .a (fun e => { e with state := .failed }) ready
     tapAccepts .eaveA s = true ∧ tapPermits .eaveA s = true) ∧
    (let s := { ready with power.phase := .held, patrol.selected := some 8 }
     tapAccepts .wafer s = true ∧ tapPermits .wafer s = true ∧ s.freezeUnit.frozen = false ∧ s.patrol.mbistSite = none ∧
     (site 8 s).bistRunning = false) ∧
    (let s := { ready with freezeUnit.frozen := true }
     tapAccepts .wafer s = true ∧ (∃ u, exec (.extest .wafer) s = .next u)) ∧
    ready.power.aonUp = true ∧ ready.referee.booted = true ∧ rimRail ready = true := by
  refine ⟨by decide +kernel, by decide +kernel, by decide +kernel, by decide +kernel, ⟨by decide +kernel, goes_next (by decide +kernel)⟩,
    by decide +kernel, by decide +kernel, by decide +kernel⟩

/-! ### Reduction and Loft -/

def grp : Group := { id := 1, members := [(0, 1), (5, 2)], powerHeavy := false, stepW := 0, record := 0 }

def coll : Collective :=
  { id := 1, decision := 7, group := grp, elements := 16, op := .sum, input := .fp32, output := .fp32, canonical := false
    admission := 0, yealms := [(8, 0)], depth := 1, home := 8 }

/-- `ready` with groups 1 and 2, decisions 7 and 8, collective 1 of group 1 and decision 7 in flight, collective 3 done,
and three regions. -/
def reducing : State :=
  { ready with
    reduction := { ready.reduction with
      groups := [grp, { grp with id := 2 }], collectives := [coll], done := [{ coll with id := 3 }]
      decisions := [{ id := 7, regions := [(1, 0xAB)], forced := false, poisoned := false, record := 0 },
                    { id := 8, regions := [], forced := false, poisoned := false, record := 0 }] }
    loft := { ready.loft with
      nextHandle := 6
      regions :=
        [{ handle := 1, kind := .isSealed, base := 0, size := 4096, digest := 0xAB, poisonSeen := false, resealing := false },
         { handle := 2, kind := .working, base := 131072, size := 4096, digest := 0, poisonSeen := false, resealing := false },
         { handle := 3, kind := .sealing, base := 262144, size := 4096, digest := 0, poisonSeen := false, resealing := false },
         { handle := 4, kind := .isSealed, base := 393216, size := 4096, digest := 0xCD, poisonSeen := true, resealing := true }] } }

def defineBody (id port : Nat) : List Byte := le 4 id ++ le 2 1 ++ zs 10 ++ le 2 port ++ le 2 1
def openBody (id decision group : Nat) : List Byte :=
  le 8 id ++ le 8 decision ++ le 4 group ++ le 4 16 ++ [0, 0, 0, 0] ++ zs 4

theorem witness_ReductionCommands :
    takes (.groupDefine (pk 3 0xFFFF (defineBody 9 0))) reducing ∧ badMember (groupMembers (defineBody 9 0)) reducing = none ∧
    (∀ x ∈ reducing.reduction.groups, x.id ≠ 9) ∧ reducing.reduction.groups.length < 4096 ∧
    takes (.groupDefine (pk 3 0xFFFF (defineBody 9 200))) reducing ∧
    badMember (groupMembers (defineBody 9 200)) reducing = some 0 ∧
    takes (.groupDefine (pk 3 0xFFFF (defineBody 1 0))) reducing ∧
    takes (.groupDelete (pk 3 0xFFFF (le 4 2 ++ zs 4))) reducing ∧
    (reducing.reduction.groups.find? fun x => x.id = 2) = some { grp with id := 2 } ∧
    (∀ x ∈ reducing.reduction.collectives, x.group.id ≠ 2) ∧
    takes (.groupDelete (pk 3 0xFFFF (le 4 1 ++ zs 4))) reducing ∧
    (∃ x ∈ reducing.reduction.collectives, x.group.id = 1) ∧
    takes (.decisionOpen (pk 3 0xFFFF (le 8 9 ++ le 2 1 ++ zs 6 ++ le 4 1))) reducing ∧
    (sealedRegion 1 reducing).isSome = true ∧ (∀ x ∈ reducing.reduction.decisions, x.id ≠ 9) ∧
    takes (.decisionClose (pk 3 0xFFFF (le 8 8))) reducing ∧ (∀ x ∈ reducing.reduction.collectives, x.decision ≠ 8) ∧
    takes (.decisionClose (pk 3 0xFFFF (le 8 7))) reducing ∧ (∃ x ∈ reducing.reduction.collectives, x.decision = 7) ∧
    takes (.reedDisable (pk 3 8 (le 8 1))) reducing ∧ takes (.reedEnable (pk 3 8 [])) reducing ∧
    takes (.engineDisable (pk 4 64 [])) reducing ∧ takes (.engineEnable (pk 4 64 [])) reducing := by
  decide +kernel

theorem witness_CollectivesAdmitted :
    takes (.collectiveOpen (pk 3 0xFFFF (openBody 5 8 1))) reducing ∧
    (∃ x ∈ reducing.reduction.decisions, x.id = 8) ∧
    (match admission (describeCollective (openBody 5 8 1) grp reducing) reducing with
      | .inr _ => true
      | .inl _ => false) = true ∧
    takes (.collectiveStatus (pk 3 0xFFFF (le 8 3))) reducing ∧
    takes (.collectiveCancel (pk 3 0xFFFF (le 8 1))) reducing ∧ (findCollective 1 reducing).isSome = true ∧
    findCollective 3 reducing = none ∧ (∃ x ∈ reducing.reduction.done, x.id = 3) ∧
    findCollective 4 reducing = none ∧ (∀ x ∈ reducing.reduction.done, x.id ≠ 4) ∧
    tallyForbids { reducing with tally.state := .acquiring } = true ∧ tallyForbids reducing = false ∧
    { reducing with power.powerFail := true }.power.powerFail = true ∧
    ledgerHalt { reducing with journal.halted := true } = some rFull ∧ ledgerHalt reducing = none ∧
    (let c := { coll with group := { grp with powerHeavy := true }, elements := 268435456 }
     (∀ d ∈ ready.reduction.collectives, d.id ≠ c.id) ∧ param pHold ready * 1048576 < c.elements * c.output.bytes) := by
  decide +kernel

/-- A CONTRIB frame that no slate knows yet. -/
def early : EarlyFrame := { port := 5, site := 8, header := hdr 0 6 8 0xFFFF, payload := zs 8 }

theorem witness_ReductionEvents :
    (let s := { reducing with reduction.early := [early] }
     waferLive s = true ∧ (s.reduction.early.find? fun x => x.port = 5) = some early) ∧
    waferLive reducing = true ∧ findCollective 1 reducing = some coll ∧ param pTimeout reducing ≠ 0 ∧
    (let s := { reducing with reduction := { reducing.reduction with rampQueue := [1], tokens := 0 } }
     s.reduction.rampQueue = [1] ∧ findCollective 1 s = some coll ∧
     min (coll.group.stepW * 1000000000) (param pRampBurst s * 1000000000000) ≤ s.reduction.tokens) ∧
    (let g := { grp with powerHeavy := true, stepW := 5 }
     let s := { reducing with reduction := { reducing.reduction with
       rampQueue := [1], tokens := 0, collectives := [{ coll with group := g }] } }
     findCollective 1 s = some { coll with group := g } ∧
     s.reduction.tokens < min (g.stepW * 1000000000) (param pRampBurst s * 1000000000000)) ∧
    (let s := { reducing with mode := .openMode, params := put pLend 1 reducing.params }
     waferLive s = true ∧ param pLend s = 1 ∧ s.mode = .openMode ∧ (site 0 s).state = .idle ∧ isFree 0 s = true ∧
     rolling s = false ∧ hasReeds s = true) := by
  decide +kernel

theorem witness_ReductionIgnoresArrivalOrder :
    [(0, 0x3F800000), (1, 0x7F800000), (2, 0x00000001)].Perm [(2, 0x00000001), (0, 0x3F800000), (1, 0x7F800000)] ∧
    ([(0, 0x3F800000), (1, 0x7F800000), (2, 0x00000001)].map Prod.fst).Nodup := by
  decide

theorem witness_LongRegisterIsExact :
    ∀ x ∈ [0x3F800000, 0x80000001, 0x7F7FFFFF], ∃ s m e, decode .fp32 x = .finite s m e := by
  simp only [List.mem_cons, List.mem_nil_iff, or_false, forall_eq_or_imp, forall_eq]
  exact ⟨⟨_, _, _, rfl⟩, ⟨_, _, _, rfl⟩, ⟨_, _, _, rfl⟩⟩

theorem witness_RegionCommands :
    takes (.regionAlloc (pk 5 0xFFFF (le 8 4096))) reducing ∧ loftRail reducing = true ∧ reducing.power.loftReady = true ∧
    reducing.loft.regions.length < 16384 ∧ reducing.loft.nextHandle < 2 ^ 32 ∧ freeBase 4096 reducing = some 524288 ∧
    takes (.regionInfo (pk 5 0xFFFF (le 4 1 ++ zs 4))) reducing ∧ (findRegion 1 reducing).isSome ∧
    takes (.regionList (pk 5 0xFFFF (le 4 0 ++ le 2 4 ++ zs 2))) reducing ∧
    takes (.regionFind (pk 5 0xFFFF (digestBytes 0xAB))) reducing ∧ digestOf (digestBytes 0xAB) = 0xAB ∧
    (∀ h, h < 5 → takes (.regionSeal (pk 5 0xFFFF (le 4 h ++ zs 4))) reducing) ∧
    ((findRegion 2 reducing).map (·.kind)) = some .working ∧ refCount 2 reducing = 0 ∧
    (let s := { reducing with loft.seals := [2] }
     takes (.regionSeal (pk 5 0xFFFF (le 4 2 ++ zs 4))) s ∧ refCount 2 s ≠ 0) ∧
    takes (.regionFree (pk 5 0xFFFF (le 4 2 ++ zs 4))) reducing ∧
    takes (.regionFree (pk 5 0xFFFF (le 4 1 ++ le 4 1))) reducing ∧ refCount 1 reducing ≠ 0 := by
  decide +kernel

theorem witness_AllocatedRangeIsFreshAndDisjoint :
    freeBase 4096 reducing = some 524288 ∧ LoftCanonical { reducing with loft.cells := [(1, 5), (70000, 9)] } := by
  exact ⟨by decide +kernel, by unfold LoftCanonical; decide⟩

/-- A request that waits at Loft block 0. -/
def request (write : Bool) : LoftRequest :=
  { block := 0, write := write, port := 5, header := hdr 0 (if write then 4 else 2) 0 0xFFFF, address := 131073, length := 70
    data := List.replicate 70 7, handle := 2, forced := false, lost := false }

theorem witness_LoftEvents :
    (let s := { reducing with loft.requests := [request false] }
     waferLive s = true ∧ (s.loft.requests.find? fun q => q.block = 0 && !q.refused) = some (request false)) ∧
    loftCartFaulted 0 reducing = false ∧ cartOf 4 = 0 ∧ 4 < loftSize reducing ∧
    (let s := { reducing with loft.seals := [3] }
     waferLive s = true ∧ (findRegion 3 s).isSome) ∧
    (findRegion 4 reducing).any (·.resealing) ∧ loftRail reducing = true ∧ hasLoft reducing = true := by
  decide +kernel

/-- R605: a refused request behind one of its input, class and block is answered after it. -/
theorem test_refused_request_waits :
    (let s := loftAccept { request true with address := 0, length := 0 } { reducing with loft.requests := [request false] }
     s.loft.requests.length = 2 ∧ s.out.length = reducing.out.length ∧
     (answerRefused [] (s.loft.requests.drop 1) s).loft.requests = []) := by
  decide +kernel

theorem witness_LoftWritesLandOnlyInRange :
    (request true).forced = false ∧ (request true).lost = false ∧
    LoftCanonical { reducing with loft := { reducing.loft with cells := [(131075, 1)], poisonLines := [131072, 131136] } } := by
  exact ⟨rfl, rfl, by unfold LoftCanonical; decide⟩

/-! ### Journal, tally and counters -/

def segment (n : Nat) (signed : Bool) : Segment :=
  { number := n, signed := signed, acked := false, lost := false, reclaimed := false, sealTally := 0, prev := 0, digest := 0
    sigR := 0, sigS := 0 }

/-- `ready` with one signed and one unsigned segment and a waiting record. -/
def journalled : State :=
  let s := journalWafer (.mark 0 1 0 [] 0 0) ready
  { s with journal.segments := [segment 1 true, segment 2 false] }

/-- `ready` in Open mode with a journal whose one bank has no block left. -/
def brimful (m : Mode) : State :=
  let s := journalWafer (.mark 0 1 0 [] 0 0) ready
  { s with mode := m, journal.bankA.factoryBad := 699050, journal.bankB.state := .offline }

theorem witness_JournalCommands :
    takes (.journalStatus (pk 6 0xFFFF [])) ready ∧
    (let c : Instr := .journalExport (au 6 0xFFFF (le 8 1 ++ zs 8))
     takes c journalled ∧ exportTarget 1 (bs c journalled) = .inl 1 ∧
     ((bs c journalled).batten.ops.filter fun o => isExport o.kind && o.originator = 0x10002).length < 16 ∧
     (let o := opOf (.journalExport 1 false) (au 6 0xFFFF []) 0x61
      let s := { journalled with batten.ops := List.replicate 16 o }
      takes c s ∧ 16 ≤ ((bs c s).batten.ops.filter fun o => isExport o.kind && o.originator = 0x10002).length)) ∧
    takes (.journalMark (pk 6 0xFFFF (zs 40))) ready ∧ ledgerHalt (bs (.journalMark (pk 6 0xFFFF (zs 40))) ready) = none ∧
    (let s := { ready with journal.halted := true }
     takes (.journalMark (pk 6 0xFFFF (zs 40))) s ∧ ledgerHalt (bs (.journalMark (pk 6 0xFFFF (zs 40))) s) = some rFull) ∧
    (let s := brimful .openMode
     takes (.journalMark (pk 6 0xFFFF (zs 40))) s ∧ ledgerHalt (bs (.journalMark (pk 6 0xFFFF (zs 40))) s) = none ∧
     unjournalled (bs (.journalMark (pk 6 0xFFFF (zs 40))) s) = true) ∧
    (let c : Instr := .bankSet (pk 6 0 (zs 8))
     takes c ready ∧ (bank 1 (bs c ready)).accepts = true ∧
     (let s := { ready with journal.bankB.state := .offline }
      takes c s ∧ (bs c s).mode = .ledger ∧ (bank 0 (bs c s)).accepts = true ∧ (bank 1 (bs c s)).accepts = false)) := by
  decide +kernel

/-- A JOURNAL_ACK of segment 1 with a digest. -/
def ackOf (d : Digest) : Instr := .journalAck (au 6 0xFFFF (le 8 1 ++ digestBytes d ++ zs 8))

theorem digestOf_digestBytes (d : Digest) : digestOf (digestBytes d) = d := by
  have h : ∀ n v, leVal (le n v) = v % 256 ^ n := by
    intro n
    induction n with
    | zero => intro v; simp [le, leVal, Nat.mod_one]
    | succ n ih =>
      intro v
      have e : (256 : Nat) ^ (n + 1) = 256 * 256 ^ n := by rw [Nat.pow_succ, Nat.mul_comm]
      rw [e, Nat.mod_mul]
      simp only [le, leVal, ih, BitVec.toNat_ofNat]
  simp only [digestOf, digestBytes, List.reverse_reverse, h]
  apply BitVec.eq_of_toNat_eq
  simp only [BitVec.toNat_ofNat]
  have := d.isLt
  omega

/-- `ready` with one signed segment. -/
def sealedJournal : State := { ready with journal.segments := [segment 1 true, segment 2 false] }

set_option maxRecDepth 100000 in
theorem takes_ackOf (d : Digest) : takes (ackOf d) sealedJournal = true := by with_unfolding_all rfl

theorem digest_beside (x : Digest) : x + 1 ≠ x := by
  intro h
  have e : (x.toNat + 1) % 2 ^ 256 = x.toNat := congrArg BitVec.toNat h
  have := x.isLt
  omega

theorem ack_digests (x : Digest) :
    (∃ v, takes (ackOf v) sealedJournal = true ∧ digestOf (digestBytes v) = x) ∧
    (∃ v, takes (ackOf v) sealedJournal = true ∧ digestOf (digestBytes v) ≠ x) :=
  ⟨⟨x, takes_ackOf x, digestOf_digestBytes x⟩,
    ⟨x + 1, takes_ackOf (x + 1), fun h => digest_beside x ((digestOf_digestBytes (x + 1)).symm.trans h)⟩⟩

theorem witness_JournalCommands_ack :
    findSegment 1 (bs (ackOf 0) sealedJournal) = some (segment 1 true) ∧
    (∃ v, takes (ackOf v) sealedJournal = true ∧ digestOf (digestBytes v) = sha256 (segmentImage (segment 1 true) sealedJournal)) ∧
    (∃ v, takes (ackOf v) sealedJournal = true ∧ digestOf (digestBytes v) ≠ sha256 (segmentImage (segment 1 true) sealedJournal)) :=
  ⟨by decide +kernel, ack_digests _⟩

theorem witness_JournalEvents :
    (journalled.freezeUnit.frozen = false ∧ journalled.power.banksMounted = true ∧ journalled.journal.waiting ≠ []) ∧
    (buildsRecords journalled = true ∧ (journalled.journal.next - 1) % 4096 ≠ 0 ∧ bankAccepts journalled = true) ∧
    (journalled.referee.booted = true ∧
      (journalled.journal.segments.find? fun x => !x.signed) = some (segment 2 false)) ∧
    (bank 0 ready).accepts = true ∧
    (let s := { ready with journal.bankB.state := .offline }
     (bank 1 s).accepts = false ∧ (bank 1 s).state ≠ .absent) ∧
    (let s := { ready with journal.bankB.state := .resyncing }
     waferLive s = true ∧ (bank 1 s).state = .resyncing) ∧
    (let s := { journalled with batten.ops := [opOf (.journalExport 1 false) (au 6 0xFFFF []) 0x61] }
     waferLive s = true ∧ ((s.batten.ops.find? fun x => isExport x.kind).map (·.kind)) = some (.journalExport 1 false) ∧
     findSegment 1 s = some (segment 1 true) ∧ s.journal.bankA.state = .primary) := by
  decide +kernel

/-- A COLLECTIVE record of an aborted collective. -/
def abortedRecord : CollectiveRecord :=
  { collective := 1, decision := 7, decisionRecord := 0, groupRecord := 0, group := 1, elements := 16, members := 2
    contributed := 0, op := 0, input := 0, output := 0, cflags := 0, flags := 0, abortCause := 1, admission := 0
    release := 0, delay := 0, digest := 0 }

def replaying : State :=
  { ready with journal.replays := [{ id := 1, decision := 7, input := 1, regions := [], plan := [(abortedRecord, 0, 0)]
                                     outcomes := [], state := 0 }] }

theorem witness_JournalEvents_replay_and_halt :
    waferLive replaying = true ∧ (replaying.journal.replays.find? fun x => x.state = 0).isSome ∧
    abortedRecord.abortCause ≠ 0 ∧
    ((brimful .ledger).mode = .ledger ∧ (brimful .ledger).journal.halted = false ∧ 98 ≤ fill (brimful .ledger)) ∧
    (let s := { brimful .ledger with journal.halted := true }
     s.mode = .ledger ∧ s.journal.halted = true ∧ 97 ≤ fill s) ∧
    (let s := { ready with journal.halted := true }
     s.journal.halted = true ∧ fill s < 97) ∧ (brimful .openMode).mode = .openMode := by
  decide +kernel

theorem witness_RecordsAreChained :
    buildsRecords ready = true ∧ unjournalled ready = false := by
  decide +kernel

theorem witness_JournalEvents_waits :
    buildsRecords { ready with freezeUnit.frozen := true } = false ∧
    (buildsRecords (brimful .openMode) = true ∧ unjournalled (brimful .openMode) = true) := by
  decide +kernel

/-- `ready` with its tally at a step of acquisition. -/
def acquiring (a : Acquire) : State :=
  { ready with tally := { ready.tally with state := .acquiring, acquire := a, counting := false, announced := some 0x30000 } }

theorem witness_TallyIsAcquired :
    (waferLive (acquiring .waitPll) = true ∧ (acquiring .waitPll).tally.syncPresent = true ∧
      (acquiring .waitPll).tally.acquire = .waitPll) ∧
    ((acquiring .waitMarker).tally.acquire = .waitMarker ∧ (acquiring .waitMarker).tally.announced = some 0x30000) ∧
    ((acquiring (.checkMarkers 2)).tally.acquire = .checkMarkers (0 + 2) ∧
      tallyNat (acquiring (.checkMarkers 2)) % 65536 = 0) ∧
    (let s := { acquiring (.checkMarkers 2) with tally.value := 5 }
     s.tally.acquire = .checkMarkers 2 ∧ tallyNat s % 65536 ≠ 0) ∧
    takes (.tallyReacquire (pk 7 0xFFFF [])) ready ∧ takes (.tallyStatus (pk 7 0xFFFF [])) ready := by
  decide +kernel

theorem witness_TallyEvents :
    (waferLive ready = true ∧ ready.tally.syncPresent = true ∧ ready.tally.pllLocked = true ∧ ready.tally.counting = true) ∧
    0 < { ready with tally.slewLeft := 5 }.tally.slewLeft ∧ { ready with tally.slewLeft := -5 }.tally.slewLeft < 0 ∧
    ready.tally.state = .locked ∧ { ready with tally.syncPresent := false }.tally.syncPresent = false ∧
    (let s := { ready with tally.state := .holdover }
     waferLive s = true ∧ s.tally.state = .holdover) ∧
    ((port 5 ready).state = .up ∧ (port 5 ready).requestAnswered = false) ∧
    (let s := withPort 5 fun q => { q with requestAnswered := true }
     (port 5 s).state = .up ∧ (port 5 s).requestAnswered = true) ∧
    (let s := { ready with referee := { ready.referee with rackId := 0x80000001, rowPos := 0x80000101 } }
     waferLive s = true ∧ (rowUplinks s).contains 128 = true) ∧
    (ready.referee.a.booted = true ∧ ready.referee.b.booted = true) ∧
    (ready.tally.counting = true ∧ ready.freezeUnit.frozen = false) := by
  decide +kernel

theorem witness_CountersSnapAndRead :
    takes (.counterSnap (pk 0 0xFFFF (zs 8))) ready ∧ takes (.counterRead (pk 0 0xFFFF (le 4 0 ++ le 2 5 ++ zs 2))) ready ∧
    (let s := { ready with counters.armed := some (1, 0x200000) }
     marksSent s = true ∧ s.counters.armed = some (1, 0x200000)) ∧
    (let s := { ready with params := put pSnapPeriod 100 ready.params }
     marksSent s = true ∧ param pSnapPeriod s ≠ 0) ∧
    (ready.counters.shadow.map Prod.fst).Nodup ∧ waferCounter (cFinial 1) = false := by
  decide +kernel

theorem witness_CountersWrapAndAreApart :
    (exec .counterSnapshot { ready with counters.armed := some (1, 0x200000) } |> goes) = true ∧
    counter 7 (countBy 7 3 { ready with counters.live := [(7, 2 ^ 64 - 1)] }) = 2 := by
  decide +kernel

/-! ### Coping unit, firmware and freeze -/

theorem witness_CopingCommands :
    takes (.senseRead (pk 0xB 0xFFFF (le 2 0xFFFF ++ zs 6))) ready ∧
    (let c : Instr := .senseSync (pk 0xB 0xFFFF [])
     takes c ready ∧ marksSent (bs c ready) = true ∧
     (let s := { ready with tally.counting := false }
      takes c s ∧ marksSent (bs c s) = false)) ∧
    takes (.channelMask (pk 0xB 0xFFFF (zs 8))) ready ∧ takes (.channelMask (pk 0xB 0xFFFF (le 2 0x8000 ++ zs 6))) ready ∧
    takes (.aoutWrite (pk 0xC 4 (le 2 0x1234 ++ zs 6))) ready ∧ takes (.aoutRead (pk 0xC 0xFFFF [])) ready ∧
    (takes (.calRun (pk 0xB 0 (zs 8))) ready ∧ calMatches 0 0xB 0 = true) ∧
    (takes (.calRun (pk 0xB 2 (zs 8))) ready = false ∧ calMatches (field (zs 8) 0 1) 0xB 2 = false) ∧
    3 < field [4, 0, 0, 0, 0, 0, 0, 0] 0 1 := by
  decide +kernel

/-- `ready` with one SENSE channel changed. -/
def withSense (ch : Nat) (f : SenseChannel → SenseChannel) : State := setSense ch f ready

/-- A comparator channel in a state. -/
def comparing (c : Comparator) : SenseChannel := { raw := 0, last := some 0, settling := 0, valid := true, comparator := c }

/-- A channel with comparator NORMAL that reads a word. -/
def reading (w : Int) : SenseChannel := { comparing .normal with raw := w, last := some w }

/-- A state whose coolant flows at a temperature that the gate passes. -/
def cooled (s : State) : State :=
  setSense 6 (fun _ => reading 780636) (setSense 1 (fun _ => reading 6000000) (setSense 0 (fun _ => reading 6000000) s))

theorem witness_SensingAndCoolant :
    (ready.power.aonUp = true ∧ 0 < (sense 5 ready).settling) ∧
    (sense 5 (withSense 5 fun c => { c with settling := 0 })).settling = 0 ∧
    ((comparing .normal).comparator = .normal ∧ (comparing .alarm).comparator = .alarm) ∧
    (entersAlarm 10 0 ready = true ∨ entersAlarm 10 8388607 ready = true) ∧
    (sense 10 (withSense 10 fun _ => comparing .indeterminate)).comparator = .indeterminate ∧
    (let s := withSense 10 fun _ => { comparing .normal with responsePending := true }
     (sense 10 s).responsePending = true ∧ inAlarm 10 s = false) ∧
    (let s := withSense 10 fun _ => { comparing .alarm with responsePending := true }
     (sense 10 s).responsePending = true ∧ heard 1 10 s = false ∧ inAlarm 10 s = true ∧ noEave s = false ∧
     noEave { s with referee.noController := true } = true) ∧
    (let s := setSense 0 (fun _ => comparing .alarm) (withSense 1 fun _ => comparing .alarm)
     { s with coping.flowAlarm := true }.coping.flowAlarm = true ∧ flowAlarmed { s with coping.flowAlarm := true } = true) ∧
    (let s := withSense 8 fun _ => { comparing .alarm with responsePending := true }
     (sense 8 s).responsePending = true ∧ inAlarm 8 s = true ∧ zoneWOn s = true) := by
  decide +kernel

/-- `ready` with one AOUT channel changed. -/
def withAout (ch : Nat) (f : AoutChannel → AoutChannel) : State := setAout ch f ready

/-- `ready` with a calibration of SENSE channel 6 against its references at a step. -/
def calibrating (kind step : Nat) (failed bad : Bool) : State :=
  let k : Calibration := { kind := kind, channel := 6, step := step, mean := 0, offset := 0, gain := 0, failed := failed
                           referencesBad := bad }
  { ready with coping.calibration := some k }

theorem witness_OutputsAndCalibration :
    (aout 4 (withAout 4 fun c => { c with holding := true })).holding = true ∧
    (4 < ready.coping.aout.length ∧ (aout 4 ready).holding = false) ∧
    (ready.power.aonUp = true ∧ complianceApplies 4 .headroom ready = true ∧ param (pAout 4 3) ready = 0) ∧
    (complianceApplies 0 .openLoop ready = true) ∧
    (∀ step ∈ [1, 2, 3], ∀ failed bad, ((calibrating 3 step failed bad).coping.calibration.any fun k =>
      decide (k.step = step) && decide (k.failed = failed) && decide (k.referencesBad = bad) &&
        calHolds k (calibrating 3 step failed bad)) = true) ∧
    ((calibrating 2 2 false false).coping.calibration.any fun k =>
      decide (k.kind = 2) && decide (k.step = 2) && !k.failed) = true := by
  decide +kernel

/-- A manifest of Table 17.3's format that lists nothing. -/
def emptyManifest : List Byte := ascii "NVRELMAN" ++ le 2 1 ++ zs 22 ++ zs 112

/-- An image slot that holds bytes. -/
def imageSlot (kind slot : Nat) (st : SlotState) : ImageSlot :=
  { kind := kind, slot := slot, target := 0, state := st, owner := 0x10001, total := 300, image := zs 16 ++ [1, 1] ++ zs 250 }

/-- `ready` with one slot stored. -/
def holding (m : Mode) (x : ImageSlot) : State := storeSlot x { ready with mode := m }

def imageBody (kind slot : Nat) : List Byte := le 1 kind ++ le 1 slot ++ zs 6
def chunkBody (kind slot total off n : Nat) : List Byte :=
  imageBody kind slot ++ le 8 total ++ le 8 off ++ le 4 n ++ zs 4 ++ zs n

/-- A running image of an Eave whose epoch of the wafer interface is 2. -/
def otherEave : Running := { kind := 1, slot := 0, target := 0, version := 1, sha := 0, epochs := 2, generations := [1] }

theorem witness_FirmwareCommands :
    takes (.fwIdentity (pk 0 0xFFFF [])) ready ∧ takes (.imgStatus (pk 0x10 0xFFFF (zs 8))) ready ∧
    takes (.manifestRead (pk 0x10 0xFFFF [])) ready ∧
    (manifestGood emptyManifest = true ∧
      takes (.manifestLoad (pk 0x10 0xFFFF (le 4 144 ++ zs 4 ++ emptyManifest))) ready) ∧
    (manifestGood [] = false ∧ takes (.manifestLoad (pk 0x10 0xFFFF (zs 8))) ready) ∧
    takes (.imgDownload (pk 0x10 0xFFFF (chunkBody 3 1 100 0 8))) ready ∧
    (takes (.imgDownload (pk 0x10 0xFFFF (chunkBody 3 1 300 8 8))) ready ∧ (slotOf 3 1 0 ready).state ≠ .incomplete) ∧
    (takes (.imgDownload (pk 0x10 0xFFFF (chunkBody 3 1 300 0 8))) ready ∧ slotBusy 3 1 0 ready = false) ∧
    (let s := holding .ledger { imageSlot 3 1 .incomplete with busy := true }
     takes (.imgDownload (pk 0x10 0xFFFF (chunkBody 3 1 300 0 8))) s ∧ slotBusy 3 1 0 s = true) ∧
    (takes (.imgVerify (pk 0x10 0xFFFF (imageBody 3 1))) (holding .ledger (imageSlot 3 1 .unverified)) ∧
      (slotOf 3 1 0 (holding .ledger (imageSlot 3 1 .unverified))).state = .unverified) ∧
    (takes (.imgVerify (pk 0x10 0xFFFF (imageBody 3 1))) ready ∧ (slotOf 3 1 0 ready).state = .empty) ∧
    takes (.imgActivate (pk 0x10 0xFFFF (imageBody 6 1))) (holding .openMode (imageSlot 6 1 .verified)) ∧
    activateRefusal 6 1 0 (holding .openMode (imageSlot 6 1 .verified)) = none ∧
    (confirmedRunning 6 1 0 ready = false ∧ (slotOf 6 1 0 ready).state ≠ .verified) ∧
    (let s := { holding .ledger (imageSlot 0 1 .verified) with firmware.running := [otherEave] }
     let x := slotOf 0 1 0 s
     confirmedRunning 0 1 0 s = false ∧ x.state = .verified ∧ clash (runningFrom x) x.factory s = some 0) ∧
    (let s := holding .ledger (imageSlot 3 1 .verified)
     let x := slotOf 3 1 0 s
     confirmedRunning 3 1 0 s = false ∧ x.state = .verified ∧ clash (runningFrom x) x.factory s = none ∧
     activationTested (withImage (runningFrom x) s) s = false) ∧
    (takes (.imgConfirm (pk 0x10 0xFFFF (imageBody 3 1))) (holding .ledger (imageSlot 3 1 .trial)) ∧
      (slotOf 3 1 0 (holding .ledger (imageSlot 3 1 .trial))).state = .trial) ∧
    (takes (.imgConfirm (pk 0x10 0xFFFF (imageBody 3 1))) ready ∧ (slotOf 3 1 0 ready).state ≠ .trial) := by
  decide +kernel

/-- `ready` with an activation in progress. -/
def activating (kind : Nat) (loading : List Nat) : State :=
  { ready with firmware.activation := some { kind := kind, slot := 1, target := if kind = 5 then 16 else 0, loading := loading } }

/-- A slate's re-homing to a target. -/
def move (drain : Bool) : Rehoming :=
  { site := 8, target := some 0, ports := [], lofts := [], drain := drain, startTally := 0, cause := 0 }

theorem witness_FirmwareEvents :
    (let o := opOf (.imgVerify 3 1 0) (pk 0x10 0xFFFF []) 0x81
     let s := { holding .ledger (imageSlot 3 1 .unverified) with batten.ops := [o] }
     (s.batten.ops.find? fun o => match o.kind with | .imgVerify _ _ _ => true | _ => false) = some o ∧
     (slotOf 3 1 0 s).factory = false ∧ imageGood (slotOf 3 1 0 s) = false) ∧
    ((activating 0 [8]).firmware.activation.isSome ∧ waferLive (activating 0 [8]) = true) ∧
    ((activating 4 []).firmware.activation.any fun a => decide (a.kind = 4 ∧ a.target = 0)) ∧
    (let s := setSite 8 (fun t => { t with bistRunning := true }) ready
     (site 8 s).bistRunning = true ∧ waferLive s = true ∧ s.patrol.mbistSite = none ∧ s.firmware.activation = none ∧
     { s with patrol.mbistSite := some 8 }.patrol.mbistDone = false ∧
     { s with patrol.mbistSite := some 8 }.patrol.mbistWait = false) ∧
    (let s := { ready with switch.rehomings := [move true] }
     s.switch.rehomings = [move true] ∧ waferLive s = true ∧ drained 8 s = true) ∧
    (pointerOf 3 0 ready).inForce.isSome ∧
    (∀ left, left < 2 → (let s := writePointer 3 0 1 true left ready
      (pointerOf 3 0 s).inForce = some { valid := true, generation := 2, slot := 1, trial := true, left := left })) := by
  decide +kernel

/-- `ready` frozen at its tally. -/
def frozen : State := { ready with freezeUnit.frozen := true, freezeUnit.notice := 10 }

theorem witness_FreezeCommands :
    takes (.freeze (pk 0xF 0xFFFF [])) frozen ∧
    (takes (.freeze (pk 0xF 0xFFFF [])) ready ∧ triggerPhase ready = true) ∧
    (let s := { ready with power.phase := .bist }
     takes (.freeze (pk 0xF 0xFFFF [])) s ∧ triggerPhase s = false) ∧
    (takes (.freezeAt (pk 0xF 0xFFFF (le 8 5))) ready ∧ 5 ≤ tallyNat ready) ∧
    (takes (.freezeAt (pk 0xF 0xFFFF (le 8 0x200000))) ready ∧ tallyNat ready < 0x200000 ∧
      ready.tally.state ≠ .acquiring ∧ ready.tally.state ≠ .unlocked) ∧
    takes (.freezeAt (pk 0xF 0xFFFF (zs 8))) ready ∧
    (let s := { ready with tally.state := .unlocked }
     takes (.freezeAt (pk 0xF 0xFFFF (zs 8))) s ∧ ¬(s.tally.state ≠ .acquiring ∧ s.tally.state ≠ .unlocked)) ∧
    (takes (.thaw (pk 0xF 0xFFFF [])) frozen ∧ mayThaw frozen = true) ∧
    (let s := { frozen with freezeUnit.destructive := true }
     takes (.thaw (pk 0xF 0xFFFF [])) s ∧ mayThaw s = false) ∧
    takes (.thaw (pk 0xF 0xFFFF [])) ready ∧
    (takes (.restart (pk 0xF 0xFFFF [])) frozen ∧ frozen.freezeUnit.powerFail = false) ∧
    takes (.restart (pk 0xF 0xFFFF [])) ready ∧ takes (.snapStart (pk 0xF 0xFFFF (zs 8))) frozen ∧
    takes (.snapStart (pk 0xF 0xFFFF (zs 8))) ready := by
  decide +kernel

/-- `ready` with a request to freeze. -/
def asked (code : Nat) : State := { ready with freezeUnit.requests := [{ code := code, collective := 0, classes := 4 }] }

theorem witness_FreezeEvents :
    (ready.freezeUnit.frzLow = false ∧ triggerPhase ready = true) ∧
    triggerPhase { ready with power.phase := .bist } = false ∧
    (let s := { ready with freezeUnit.armed := some 0x200000 }
     s.freezeUnit.armed = some 0x200000 ∧ marksSent s = true) ∧
    ((asked 2).freezeUnit.frozen = false ∧ (asked 2).freezeUnit.requests ≠ [] ∧ (asked 2).power.waferRunning = true) ∧
    (let s := { frozen with params := put pAutoThaw 100 frozen.params }
     s.freezeUnit.frozen = true ∧ param pAutoThaw s ≠ 0 ∧ s.freezeUnit.snapRequested = false) ∧
    (frozen.freezeUnit.frozen = true ∧ frozen.freezeUnit.reading = none) ∧
    (let o := opOf (.snapshot true) (pk 0xF 0xFFFF []) 0x94
     let s := { frozen with freezeUnit.reading := some true, batten.ops := [o] }
     s.freezeUnit.reading = some true ∧ (opsOf isSnapshotOp s).head? = some o) ∧
    waferLive frozen = false := by
  decide +kernel

theorem witness_FreezeHoldsTheTray :
    (asked 2).freezeUnit.frozen = false ∧ (asked 2).freezeUnit.requests ≠ [] ∧
    ∀ r ∈ (asked 2).freezeUnit.requests, r.code ≤ 4 := by
  decide +kernel

/-! ### Controllers, power and the rack -/

theorem witness_ControllerCommands :
    (takes (.roleSwap (pk 8 0xFFFF (zs 8))) ready ∧ swapPermitted (bs (.roleSwap (pk 8 0xFFFF (zs 8))) ready) = true) ∧
    (let s := setEave .b (fun e => { e with cleanRun := 0 }) ready
     takes (.roleSwap (pk 8 0xFFFF (zs 8))) s ∧ swapPermitted (bs (.roleSwap (pk 8 0xFFFF (zs 8))) s) = false) ∧
    takes (.controllerStatus (pk 8 0xFFFF [])) ready ∧ takes (.inventory (pk 0 0xFFFF (le 2 0 ++ le 2 4 ++ zs 4))) ready ∧
    (authority ready).isSome = true := by
  decide +kernel

/-- A heartbeat of an Eave. -/
def beat (e : Eave) (count : U32) (selftest : U16) (good : Bool) : Heartbeat :=
  { eave := e, state := 1, selftest := selftest, count := count, ridgeH := 0, digestSeq := 0, stateDigest := 0, crcGood := good }

/-- A divergence of the ridge originator's sequence 5. -/
def report : Diverged :=
  { originator := 1, sequence := 5, digestA := 0xA, digestB := 0xB, pathA := .ridge .a, pathB := .ridge .b }

def judging : State := { ready with referee.selftest := .diverged report }
def voting : State := { ready with referee.vote := some { id := 3, report := report } }

/-- `ready` with both Eaves' runs of missed heartbeats set. -/
def missing (a b : Nat) : State :=
  setEave .a (fun e => { e with missedRun := a }) (setEave .b (fun e => { e with missedRun := b }) ready)

theorem witness_RefereeJudges :
    (ready.referee.booted = true ∧ recognised .b ready = true ∧ (beat .b 9 0 true).crcGood = true ∧
      (eave .b ready).lastCount.any (fun n => (beat .b 9 0 true).count.toNat ≤ n) = false) ∧
    (beat .b 9 4 true).selftest ≠ 0#16 ∧ (beat .b 9 0 false).crcGood = false ∧
    (let t := intervalEnd .b (intervalEnd .a (missing 2 2))
     silent .a t = true ∧ silent .b t = true) ∧
    (let t := intervalEnd .b (intervalEnd .a (missing 2 0))
     silent .a t = true ∧ silent .b t = false) ∧
    (let t := intervalEnd .b (intervalEnd .a (missing 0 2))
     silent .a t = false ∧ silent .b t = true) ∧
    (let t := intervalEnd .b (intervalEnd .a ready)
     silent .a t = false ∧ silent .b t = false) ∧
    (recognised .a ready = true ∧ (eave .a ready).heard = false) ∧
    (eave .a (setEave .a (fun e => { e with heard := true }) ready)).heard = true ∧
    (noVerdict ready = true ∧ (stored pErrorMask ready).testBit 0 = false) ∧
    (judging.referee.selftest = .diverged report ∧ recognised .a judging = true ∧ recognised .b judging = true ∧
      param pVoteMs judging ≠ 0 ∧ param pVoteMs { judging with params := put pVoteMs 0 judging.params } = 0) ∧
    (let s := { ready with referee.selftest := .swap 0x200000 }
     s.referee.selftest = .swap 0x200000 ∧ standby s = some .b) ∧
    (voting.referee.vote = some { id := 3, report := report } ∧ (0x301 : U32).toNat / 256 = 3 % 2 ^ 24 ∧
      (0x301 : U32).toNat % 4 = 1 ∧ (0x302 : U32).toNat % 4 = 2 ∧ (0x303 : U32).toNat % 4 = 3 ∧
      recognised .a { voting with referee.vote := none } = true ∧ recognised .b { voting with referee.vote := none } = true ∧
      (0x401 : U32).toNat / 256 ≠ 3 % 2 ^ 24) := by
  decide +kernel

theorem witness_EavesReturnAndSwap :
    (eave .b (setEave .b (fun e => { e with releasing := true }) ready)).releasing = true ∧
    (let s := setEave .b (fun e => { e with state := .resyncing }) ready
     (eave .b s).state = .resyncing ∧ (eave .b s).booted = true ∧ (authority s).isSome = true ∧ (eave .b s).mismatches < 2) ∧
    2 ≤ (eave .b (setEave .b (fun e => { e with state := .resyncing, mismatches := 2 }) ready)).mismatches ∧
    ((nextSwap ready).isSome ∧ marksSent ready = true ∧ ready.referee.booted = true ∧ ready.referee.swapped = none ∧
      ready.referee.selftest = .none ∧ swapPermitted ready = true) ∧
    (let s := { ready with referee.selftest := .swap 0x200000 }
     s.referee.selftest = .swap 0x200000 ∧ standby (advanceTo 0x200000 s) = some .b) ∧
    (let s := setEave .b (fun e => { e with state := .failed }) { ready with referee.selftest := .swap 0x200000 }
     standby (advanceTo 0x200000 s) = none) ∧
    (let s := { ready with referee.swapped := some .a }
     s.referee.swapped = some .a ∧ (eave (peer .a) s).state = .standby) ∧
    (eave (peer .a) (setEave .b (fun e => { e with state := .failed }) ready)).state ≠ .standby := by
  decide +kernel

/-- A LATCH_WRITE body. -/
def latchBody (group mask value : Nat) : List Byte := le 1 group ++ zs 7 ++ le 8 mask ++ le 8 value

theorem witness_TrayCommands :
    takes (.trayState (pk 0 0xFFFF [])) ready ∧
    (let s := { ready with power.phase := .links }
     takes (.modeSet (pk 0 0xFFFF (zs 8))) s ∧ s.power.phase ≠ .ready) ∧
    (takes (.modeSet (pk 0 0xFFFF (zs 8))) { ready with journal.bankA.state := .offline, journal.bankB.state := .offline } ∧
      ledgerRefusal { ready with journal.bankA.state := .offline, journal.bankB.state := .offline } = some rBanks) ∧
    (takes (.modeSet (pk 0 0xFFFF (le 8 1))) ready ∧ ready.power.phase = .ready ∧ ready.reduction.collectives.length = 0) ∧
    (takes (.modeSet (pk 0 0xFFFF (le 8 1))) reducing ∧ reducing.reduction.collectives.length ≠ 0) ∧
    (takes (.latchWrite (pk 0xA 0xFFFF (latchBody 6 3 3))) ready ∧ isLedger ready = true) ∧
    takes (.latchWrite (pk 0xA 0xFFFF (latchBody 0 3 0))) ready ∧
    takes (.latchWrite (pk 0xA 0xFFFF (latchBody 6 3 1))) ready ∧
    takes (.latchWrite (pk 0xA 0xFFFF (latchBody 3 0x100 0))) ready := by
  decide +kernel

theorem witness_PowerUpSteps :
    State.reset.power.step = 1 ∧ ready.power.aonUp = true ∧
    (let s := { State.reset with power.step := 2 }
     s.power.aonUp = true ∧ s.referee.booted = false ∧ 2 ≤ s.power.step) ∧
    (let s := { ready with power.phase := .coolantGate, coping.masks := 0xFFFF }
     s.power.phase = .coolantGate ∧ (authority s).isSome = true) ∧
    (let s := cooled { ready with power.phase := .coolantGate, coping.masks := 0xFFFF }
     gatePasses s = true ∧
     authority (setEave .a (fun e => { e with state := .failed }) s) = none) ∧
    (let s := { ready with power.phase := .waferRamp, power.step := 7 }
     s.power.phase = .waferRamp ∧ s.power.step = 7 ∧ rimRail s = true) ∧
    (let s := setEave .a (fun e => { e with booted := false }) ready
     s.referee.booted = true ∧ eaveRstN .a s = true ∧ (eave .a s).booted = false ∧ (bootTarget 1 0 s).2.1 = some 0) := by
  decide +kernel

/-- A wafer BIST that finds nothing, or a failed control block. -/
def bistWith (rim : List Nat) : BistResult := { sites := [], rim := rim, engines := [], slices := [], links := [] }

/-- What the wafer finds when its firmware loads. -/
def load (bootable pushed : Bool) : LoadResult :=
  { bootable := bootable, pushVerified := pushed, recoveryVerified := true, steppingListed := true, wafer := 0, version := 1
    epochs := 0, generations := [1] }

/-- `ready` in FIRMWARE with a boot source. -/
def booting (src : BitVec 2) : State :=
  { ready with power := { ready.power with phase := .firmware, step := 11, bootSrcSampled := src, slatesRunning := false } }

theorem witness_WaferBoots :
    (let s := { ready with power.phase := .waferRamp, power.step := 9 }
     s.power.phase = .waferRamp ∧ s.power.step = 9 ∧ rimRail s = true) ∧
    (let s := { ready with power.phase := .bist }
     s.power.phase = .bist ∧ waferHeld [76] s = true ∧ waferHeld [] s = false) ∧
    ((booting 1).power.bootSrcSampled = 1 ∧ (booting 1).power.phase = .firmware ∧ (booting 1).power.step < 12) ∧
    ((booting 0).power.phase = .firmware ∧ (booting 0).power.step = 11 ∧ (bootTarget 0 0 (booting 0)).2.1 ≠ none ∧
      (load true false).bootable = true ∧ (load false false).bootable = false ∧ (load true true).pushVerified = true) ∧
    ((booting 2).power.bootSrcSampled = 2 ∧ (booting 3).power.bootSrcSampled = 3) ∧
    mountDue { ready with power.step := 12, power.banksMounted := false } = true := by
  decide +kernel

theorem witness_PinsAndSideband :
    (ready.power.aonUp = true ∧ ready.power.phase = .ready ∧ ready.power.shelfFault = false) ∧
    (let s := { ready with power.phase := .waferRamp, power.step := 8 }
     s.power.phase = .waferRamp ∧ s.power.step < 9) ∧
    { ready with power.powerFail := true }.power.powerFail = true ∧
    (let s := { cooled ready with coping.masks := 0xFFFF, power.phase := .held, power.cause := 0x44 }
     s.power.phase = .held ∧ s.power.cause.toNat = rBusRange ∧ gatePasses s = true ∧ (authority s).isSome = true ∧
     eaveBooting .a s = false ∧ eaveBooting .b s = false) ∧
    (2 ≤ ready.power.step ∧ (4 : BitVec 5) ≠ ready.power.slotPins ∧ (0 : BitVec 5) = ready.power.slotPins) ∧
    (ready.power.faultedCartridges.contains (cartKey (.cable 0)) = false ∧
      { ready with power.faultedCartridges := [0] }.power.faultedCartridges.contains (cartKey (.cable 0)) = true) ∧
    (rackReserved 0x10000 = true ∧ rackReserved 1 = false ∧ rackIdValid ready = false ∧
      (let s := { ready with referee.rackId := 0x80000001 }
       rackIdValid s = true ∧ s.referee.rackId ≠ (2 : U32) ||| 0x80000000 ∧ s.referee.rackId = (1 : U32) ||| 0x80000000)) ∧
    (rowReserved 8 = true ∧ rowReserved 0x101 = false ∧ ready.referee.rowPos.getLsbD 31 = false) ∧
    (ready.tally.pllLocked = true ∧ ready.tally.syncPresent = true ∧
      { ready with tally.pllLocked := false }.tally.pllLocked = false) ∧
    (let e : Event := { number := 1, kind := 1, channel := 10, heard := false }
     oldestEvent { ready with referee.events := [e] } = some e) := by
  decide +kernel

theorem witness_PacketsThatDoNotRun :
    ((carry (.identity (pk 0 0xFFFF [])) (pk 0 0xFFFF []) ready).2 = true ∧
      headerFault { pk 0 0xFFFF [] with version := 0x20 } = some (3, rVersion, 0) ∧
      headerFault { pk 0 0xFFFF [] with reserved27 := 1 } = some (4, rReserved, 0xFFFF)) ∧
    originatorPermitted (.identity { pk 0 0xFFFF [] with originator := 7 }) { pk 0 0xFFFF [] with originator := 7 } ready =
      false ∧
    (headerFault (sq 0 (pk 0 0xFFFF [])) = none ∧
      originatorPermitted (.identity (sq 0 (pk 0 0xFFFF []))) (sq 0 (pk 0 0xFFFF [])) ready = true) ∧
    (let p := pk 0 0xFFFF [1]
     inTurn (.identity p) p ready = true ∧ (refusal (keyOf (.identity p) p ready) (.identity p) p (recorded (.identity p) p ready)).isSome) ∧
    (opcodeAssigned 0x6F = false ∧ inTurn (.unassignedOpcode 0x6F (pk 0 0xFFFF [])) (pk 0 0xFFFF []) ready = true) ∧
    (hearsRidge .wafer = true ∧ unitRuns .wafer ready = true ∧ hearsFinial .coping = true ∧ unitRuns .coping ready = true) := by
  decide +kernel

/-- `ready` whose ADMIN session's window remembers sequences. -/
def remembering (d : Digest) : State :=
  setWindow 0x10001 { highWater := 300, marks := [(300, .executed d (.management 1)), (299, .skipped)] } ready

theorem witness_WindowsOrderCommands :
    ∀ q ∈ [300, 299, 5, 302, 556, 557],
      let p := sq (BitVec.ofNat 64 q) (pk 0 0xFFFF [])
      let w := windowOf 0x10001 (arrived (.identity p) p (remembering 9))
      reached (.identity p) p (remembering 9) = true ∧
      (q = 300 → lookup w.marks q = some (.executed 9 (.management 1)) ∧ (9 : Digest) ≠ contentDigest (.identity p) p) ∧
      (q = 299 → lookup w.marks q = some .skipped) ∧ (q = 5 → lookup w.marks q = none ∧ q ≤ w.highWater) ∧
      (q = 302 ∨ q = 556 → lookup w.marks q = none ∧ w.highWater + 1 < q ∧ q ≤ w.highWater + 256) ∧
      (q = 557 → lookup w.marks q = none ∧ w.highWater + 256 < q) := by
  decide +kernel

theorem witness_WindowsOrderCommands_same :
    let p := sq 300 (pk 0 0xFFFF [])
    let s := remembering (contentDigest (.identity p) p)
    reached (.identity p) p s = true ∧
      lookup (windowOf 0x10001 (arrived (.identity p) p s)).marks 300 =
        some (.executed (contentDigest (.identity p) p) (.management 1)) := by
  decide +kernel

theorem witness_GapsAndMalformedPackets :
    (oldestHeld (windowOf 0x10001 windowed)).isSome ∧
    (let p := pk 0 0xFFFF []
     opcodeAssigned 0x6F = false ∧ inTurn (.unassignedOpcode 0x6F p) p ready = true ∧
     (windowOf 0x10001 (carry (.unassignedOpcode 0x6F p) p ready).1).anchored = true) ∧
    (let p := { pk 0 0xFFFF [] with path := .ridge .a, originator := 1, sequence := 9 }
     let c : Instr := .unassignedOpcode 0x6F p
     let s := setWindow 1 { anchored := false } ready
     (carry c p s).2 = true ∧ headerFault p = none ∧ originatorPermitted c p (carry c p s).1 = true ∧ p.sequence ≠ 0 ∧
     (windowOf 1 (carry c p s).1).anchored = false) ∧
    ((connection 1 ready).isSome ∧ eaveAnswers .a ready = true) ∧
    (let s := setPort 5 (fun q => { q with grantOut := { c7 := 100 } }) ready
     (battenIn 5 7 (zs 40) s).2 = true) ∧
    (ready.power.waferRunning = true ∧ (eave .a ready).booted = true ∧ ready.referee.booted = true) := by
  decide +kernel

theorem witness_AnswersTouchOnlyTheirRecords :
    let p := pk 0 0xFFFF []
    let c : Instr := .features p
    let s := ready
    (carry c p s).2 = true ∧
    (let u := replied c p s (base c p s) (ok (le 8 (featureWord (base c p s))))
     let w := windowOf p.originator.toNat u
     restartDue u = false ∧ readyNow u = false ∧ lookup w.marks (w.highWater + 1) = none) := by
  decide +kernel

/-- Answers whether a command of a kind answers a next state on `ready`. -/
theorem witness_frames :
    (portEvent (.fecSwitch 5) && goes (exec (.fecSwitch 5) ready)) = true ∧
    (journalEvent_ .recordDurable && goes (exec .recordDurable journalled)) = true ∧
    (scanEvent .tapReset && goes (exec .tapReset ready)) = true ∧
    (analogueTimer .aoutSelfCodeSwitch && goes (exec .aoutSelfCodeSwitch ready)) = true ∧
    (pinEvent .shelfFault && goes (exec .shelfFault ready)) = true ∧
    (tallyEvent .tallyPllLock && goes (exec .tallyPllLock ready)) = true ∧
    (receiverEvent (.creditRefresh 5) && goes (exec (.creditRefresh 5) ready)) = true ∧
    (sidebandEvent (.rowPosWrite 1) && goes (exec (.rowPosWrite 1) ready)) = true ∧
    (connectionEvent (.connectionClose 1) && goes (exec (.connectionClose 1) ready)) = true ∧
    (clockEvent .tallySlewStep && goes (exec .tallySlewStep ready)) = true := by
  decide +kernel

theorem witness_StepKeepsLoftCanonical : LoftCanonical reducing ∧ goes (step reducing) = true :=
  ⟨by unfold LoftCanonical; decide, by decide +kernel⟩

theorem witness_NoStepChangesIdentity : goes (step { ready with pending := [.tapReset] }) = true := by decide +kernel

/-! ### A replay input (Table 12.8) with one segment of 4,096 chained records -/

theorem sub_left {a b : List Byte} {off n : Nat} (h : off + n ≤ a.length) : sub (a ++ b) off n = sub a off n := by
  have : off ≤ a.length := by omega
  rw [sub, sub, List.drop_append_of_le_length this, List.take_append_of_le_length]
  rw [List.length_drop]; omega

theorem sub_right {a b : List Byte} {off n k : Nat} (h : a.length = k) (o : k ≤ off) :
    sub (a ++ b) off n = sub b (off - k) n := by
  rw [sub, sub, List.drop_append, List.drop_eq_nil_of_le (by omega), List.nil_append, h]

theorem sub_whole {a : List Byte} {n : Nat} (h : a.length = n) : sub a 0 n = a := by
  rw [sub, List.drop_zero, ← h, List.take_length]

theorem sub_inner {g m : List Byte} {off n a k : Nat} (h : sub g off n = m) (o : a + k ≤ n) :
    sub g (off + a) k = sub m a k := by
  subst h
  simp only [sub, List.drop_take, List.take_take, List.drop_drop]
  congr 1
  omega

/-- What a record of the segment holds before and after its `prev` hash. -/
def recordHead (i : Nat) : List Byte :=
  [if i = 0 then 2 else if i = 1 then 1 else 8, 0, 0, 0, 0, 1, 0, 0] ++ le 8 (i + 1) ++ zs 32

def recordTail (i : Nat) : List Byte :=
  if i = 0 then le 8 7 ++ zs 8 ++ digestBytes (sha256 []) ++ zs 64
  else if i = 1 then le 8 1 ++ le 8 7 ++ zs 33 ++ [1] ++ zs 62 else zs 112

/-- Record i + 1 of the segment: a DECISION, an aborted COLLECTIVE of it, and MARK records. -/
def recordAt (i : Nat) (h : Digest) : List Byte := recordHead i ++ digestBytes h ++ recordTail i

def chained : Nat → Nat → Digest → List (List Byte)
  | 0, _, _ => []
  | k + 1, i, h => recordAt i h :: chained k (i + 1) (sha256 (recordAt i h))

theorem le_length (n v : Nat) : (le n v).length = n := by
  induction n generalizing v with
  | zero => rfl
  | succ n ih => simp [le, ih]

theorem digestBytes_length (d : Digest) : (digestBytes d).length = 32 := by
  rw [digestBytes, List.length_reverse, le_length]

theorem recordHead_length (i : Nat) : (recordHead i).length = 48 := by
  simp [recordHead, le_length, zs]

theorem recordTail_length (i : Nat) : (recordTail i).length = 112 := by
  unfold recordTail
  split
  · simp [le_length, digestBytes_length, zs]
  · split <;> simp [le_length, zs]

theorem recordAt_length (i : Nat) (h : Digest) : (recordAt i h).length = 192 := by
  simp [recordAt, recordHead_length, digestBytes_length, recordTail_length]

theorem recordAt_head (i : Nat) (h : Digest) {off n : Nat} (b : off + n ≤ 48) :
    field (recordAt i h) off n = field (recordHead i) off n := by
  unfold field recordAt
  rw [List.append_assoc, sub_left (by rw [recordHead_length]; omega)]

theorem recordAt_tail (i : Nat) (h : Digest) {off n : Nat} (b : 80 ≤ off) :
    field (recordAt i h) off n = field (recordTail i) (off - 80) n := by
  unfold field recordAt
  rw [sub_right (k := 80) (by simp [recordHead_length, digestBytes_length]) b]

theorem recordAt_prev (i : Nat) (h : Digest) : digestOf (sub (recordAt i h) 48 32) = h := by
  unfold recordAt
  rw [List.append_assoc, sub_right (recordHead_length i) (by omega), sub_left (by rw [digestBytes_length]),
    sub_whole (digestBytes_length h), digestOf_digestBytes]

theorem chained_length (k i : Nat) (h : Digest) : (chained k i h).length = k := by
  induction k generalizing i h with
  | zero => rfl
  | succ k ih => simp [chained, ih]

theorem chained_lengths (k i : Nat) (h : Digest) : ∀ r ∈ chained k i h, r.length = 192 := by
  induction k generalizing i h with
  | zero => intro r hr; simp [chained] at hr
  | succ k ih =>
    intro r hr
    rcases List.mem_cons.mp hr with rfl | hr
    · exact recordAt_length i h
    · exact ih _ _ r hr

theorem leVal_le (n v : Nat) : leVal (le n v) = v % 256 ^ n := by
  induction n generalizing v with
  | zero => simp [le, leVal, Nat.mod_one]
  | succ n ih =>
    have e : (256 : Nat) ^ (n + 1) = 256 * 256 ^ n := by rw [Nat.pow_succ, Nat.mul_comm]
    rw [e, Nat.mod_mul]
    simp only [le, leVal, ih, BitVec.toNat_ofNat]

theorem recordHead_number (i : Nat) (b : i < 4096) : field (recordHead i) 8 8 = i + 1 := by
  unfold field recordHead
  rw [sub_left (by simp [le_length]), sub_right (k := 8) rfl (by omega), sub_whole (le_length 8 (i + 1)), leVal_le]
  exact Nat.mod_eq_of_lt (by omega)

theorem chained_good (k i : Nat) (h : Digest) (b : i + k ≤ 4096) : chainGood (i + 1) (some h) (chained k i h) = true := by
  induction k generalizing i h with
  | zero => rfl
  | succ k ih =>
    simp only [chained, chainGood, Bool.and_eq_true, decide_eq_true_eq]
    refine ⟨⟨?_, recordAt_prev i h⟩, ih _ _ (by omega)⟩
    rw [recordAt_head i h (by omega), recordHead_number i (by omega)]

theorem chained_marks (k i : Nat) (h : Digest) (b : 2 ≤ i) : ∀ r ∈ chained k i h, field r 0 1 = 8 := by
  induction k generalizing i h with
  | zero => intro r hr; simp [chained] at hr
  | succ k ih =>
    intro r hr
    rcases List.mem_cons.mp hr with rfl | hr
    · rw [recordAt_head i h (by omega), recordHead, if_neg (by omega), if_neg (by omega)]; rfl
    · exact ih _ _ (by omega) r hr

theorem sub_flatten {recs : List (List Byte)} (h : ∀ r ∈ recs, r.length = 192) {T : List Byte} (i : Nat)
    (b : i < recs.length) : sub (recs.flatten ++ T) (192 * i) 192 = recs[i] := by
  induction recs generalizing i with
  | nil => simp at b
  | cons r rest ih =>
    have hr : r.length = 192 := h r (List.mem_cons_self ..)
    rw [List.flatten_cons, List.append_assoc]
    cases i with
    | zero => rw [Nat.mul_zero, sub_left (by omega), sub_whole hr]; rfl
    | succ i =>
      rw [sub_right hr (by omega), show 192 * (i + 1) - 192 = 192 * i by omega,
        ih (fun r hr => h r (List.mem_cons_of_mem _ hr)) i (by simpa using b)]
      rfl

theorem flatten_length {recs : List (List Byte)} (h : ∀ r ∈ recs, r.length = 192) : recs.flatten.length = 192 * recs.length := by
  induction recs with
  | nil => rfl
  | cons r rest ih =>
    rw [List.flatten_cons, List.length_append, h r (List.mem_cons_self ..), ih fun r hr => h r (List.mem_cons_of_mem _ hr),
      List.length_cons]
    omega

/-- The header of the segment image (Table 12.4). -/
def imageHead : List Byte :=
  ascii "NVTHATCH" ++ le 2 1 ++ le 2 128 ++ le 4 4096 ++ le 8 1 ++ le 8 1 ++ zs 16 ++ zs 80

def imageRest : List Byte := (chained 4096 0 0).flatten
def imageSeal : List Byte := digestBytes (sha256 (imageHead ++ imageRest)) ++ le 8 1 ++ zs 16 ++ zs 120
def image : List Byte := imageHead ++ (imageRest ++ imageSeal)

/-- The header of the replay input: one image, no collective's data. -/
def inputHead : List Byte := ascii "NVREPLAY" ++ le 2 1 ++ le 2 1 ++ zs 4 ++ le 8 7 ++ zs 8 ++ le 8 64 ++ zs 24
def input : List Byte := inputHead ++ (image ++ zs 3728)

theorem imageRest_length : imageRest.length = 786432 := by
  rw [imageRest, flatten_length (chained_lengths _ _ _), chained_length]

theorem imageHead_length : imageHead.length = 128 := by decide +kernel

theorem imageSeal_length : imageSeal.length = 176 := by
  simp [imageSeal, digestBytes_length, le_length, zs]

theorem image_length : image.length = 786736 := by
  rw [image, List.length_append, List.length_append, imageHead_length, imageRest_length, imageSeal_length]

theorem inputHead_length : inputHead.length = 64 := by decide +kernel

theorem input_length : input.length = 790528 := by
  rw [input, List.length_append, List.length_append, image_length, inputHead_length, zs, List.length_replicate]

theorem input_field {off n : Nat} (h : off + n ≤ 64) : sub input off n = sub inputHead off n := by
  rw [input, sub_left (by rw [inputHead_length]; omega)]

theorem image_field {off n : Nat} (h : off + n ≤ 128) : sub image off n = sub imageHead off n := by
  rw [image, sub_left (by rw [imageHead_length]; omega)]

theorem input_sub {off n : Nat} {v : List Byte} (h : off + n ≤ 64) (e : sub inputHead off n = v) : sub input off n = v := by
  rw [input_field h, e]

theorem input_num {off n v : Nat} (h : off + n ≤ 64) (e : field inputHead off n = v) : field input off n = v := by
  unfold field; rw [input_field h]; exact e

theorem input_header : replayHeaderGood input 790528 7 = true := by
  simp only [replayHeaderGood, replayDir, input_num (off := 12) (n := 2) (v := 0) (by omega) (by decide +kernel),
    input_sub (off := 0) (n := 8) (v := ascii "NVREPLAY") (by omega) (by decide +kernel),
    input_num (off := 8) (n := 2) (v := 1) (by omega) (by decide +kernel),
    input_num (off := 10) (n := 2) (v := 1) (by omega) (by decide +kernel),
    input_num (off := 14) (n := 2) (v := 0) (by omega) (by decide +kernel),
    input_num (off := 16) (n := 8) (v := 7) (by omega) (by decide +kernel),
    input_num (off := 24) (n := 4) (v := 0) (by omega) (by decide +kernel),
    input_num (off := 28) (n := 4) (v := 0) (by omega) (by decide +kernel),
    input_num (off := 32) (n := 8) (v := 64) (by omega) (by decide +kernel),
    input_num (off := 40) (n := 8) (v := 0) (by omega) (by decide +kernel),
    input_sub (off := 48) (n := 16) (v := zs 16) (by omega) (by decide +kernel)]
  decide

theorem input_images : replayImages input = [image] := by
  have h1 : field input 10 2 = 1 := by unfold field; rw [input_field (by omega)]; decide +kernel
  have h2 : field input 32 8 = 64 := by unfold field; rw [input_field (by omega)]; decide +kernel
  rw [replayImages, h1, h2]
  show [sub input (64 + 786736 * 0) 786736] = [image]
  rw [input, sub_right inputHead_length (by omega), sub_left (by rw [image_length]), sub_whole image_length]

theorem image_records : imageRecords image = chained 4096 0 0 := by
  apply List.ext_getElem
  · simp [imageRecords, chained_length]
  · intro i h1 h2
    rw [chained_length] at h2
    simp only [imageRecords, List.getElem_map, List.getElem_range]
    rw [image, sub_right imageHead_length (by omega), show 128 + 192 * i - 128 = 192 * i by omega, imageRest]
    exact sub_flatten (chained_lengths _ _ _) i (by rw [chained_length]; omega)

theorem image_seal : sub image 786560 176 = imageSeal := by
  rw [image, sub_right imageHead_length (by omega), sub_right imageRest_length (by omega), sub_whole imageSeal_length]

theorem image_body : sub image 0 786560 = imageHead ++ imageRest := by
  rw [image, ← List.append_assoc, sub_left (by rw [List.length_append, imageHead_length, imageRest_length]),
    sub_whole (by rw [List.length_append, imageHead_length, imageRest_length])]

theorem image_verified (h : Config.sealVerifies [] imageSeal = true) : imagesGood [] none [image] = true := by
  have f16 : field image 16 8 = 1 := by unfold field; rw [image_field (by omega)]; decide +kernel
  have f24 : field image 24 8 = 1 := by unfold field; rw [image_field (by omega)]; decide +kernel
  have f12 : field image 12 4 = 4096 := by unfold field; rw [image_field (by omega)]; decide +kernel
  have f0 : sub image 0 8 = ascii "NVTHATCH" := by rw [image_field (by omega)]; decide +kernel
  have f32 : sub image 32 16 = zs 16 := by rw [image_field (by omega)]; decide +kernel
  have s0 : digestOf (sub imageSeal 0 32) = sha256 (imageHead ++ imageRest) := by
    rw [imageSeal, List.append_assoc, List.append_assoc, sub_left (by rw [digestBytes_length]),
      sub_whole (digestBytes_length _), digestOf_digestBytes]
  have s32 : field imageSeal 32 8 = 1 := by
    unfold field
    rw [imageSeal, List.append_assoc, List.append_assoc, sub_right (digestBytes_length _) (by omega)]
    decide +kernel
  have s40 : sub imageSeal 40 16 = zs 16 := by
    rw [imageSeal, List.append_assoc, List.append_assoc, sub_right (digestBytes_length _) (by omega)]
    decide +kernel
  simp only [imagesGood, verifySegment, f16, f24, f12, f0, f32, image_seal, image_body, s0, s32, s40, h, image_records,
    if_true, decide_true, Bool.and_true, Bool.true_and]
  exact chained_good 4096 0 0 (by omega)

theorem chained_succ (k i : Nat) (h : Digest) :
    chained (k + 1) i h = recordAt i h :: chained k (i + 1) (sha256 (recordAt i h)) := rfl

/-- The first two records, and the rest. -/
theorem chained_split : chained 4096 0 0 = recordAt 0 0 :: recordAt 1 (sha256 (recordAt 0 0)) ::
    chained 4094 2 (sha256 (recordAt 1 (sha256 (recordAt 0 0)))) := by
  rw [show 4096 = 4094 + 1 + 1 by rfl, chained_succ, chained_succ]

theorem decision_collectives : ∃ x, decisionCollectives (chained 4096 0 0) 7 = [x] ∧ x.2.abortCause ≠ 0 := by
  rw [chained_split]
  generalize sha256 (recordAt 0 0) = h1
  generalize sha256 (recordAt 1 h1) = h2
  refine ⟨(field (recordAt 1 h1) 8 8, parseCollective (recordAt 1 h1)), ?_, ?_⟩
  · have no0 : field (recordAt 0 0) 0 1 ≠ 1 := by
      rw [recordAt_head 0 _ (by omega)]; decide +kernel
    have yes : (decide (field (recordAt 1 h1) 0 1 = 1) && decide (field (recordAt 1 h1) 88 8 = 7) &&
        decide (field (recordAt 1 h1) 127 1 / 4 % 2 = 0)) = true := by
      rw [recordAt_head 1 _ (by omega), recordAt_tail 1 _ (by omega), recordAt_tail 1 _ (by omega)]
      decide +kernel
    unfold decisionCollectives
    rw [List.filter_cons_of_neg (by
        intro h; simp only [Bool.and_eq_true, decide_eq_true_eq] at h; exact no0 h.1.1), List.filter_cons_of_pos (by simpa using yes),
      List.filter_eq_nil_iff.mpr (by intro r hr; simp [chained_marks 4094 2 h2 (by omega) r hr])]
    rfl
  · show field (recordAt 1 h1) 129 1 ≠ 0
    rw [recordAt_tail 1 _ (by omega)]
    decide +kernel

theorem decision_digests : decisionDigests (chained 4096 0 0) 7 = some [] := by
  have nocont : ∀ c ∈ chained 4096 0 0, field c 0 1 ≠ 4 := by
    intro c hc
    rw [chained_split] at hc
    rcases List.mem_cons.mp hc with rfl | hc
    · rw [recordAt_head 0 _ (by omega)]; decide
    · rcases List.mem_cons.mp hc with rfl | hc
      · rw [recordAt_head 1 _ (by omega)]; decide
      · rw [chained_marks 4094 2 _ (by omega) c hc]; decide
  have first : (chained 4096 0 0).find? (fun r => field r 0 1 = 2 && field r 80 8 = 7 && field r 88 1 = 0) =
      some (recordAt 0 0) := by
    rw [chained_split, List.find?_cons_of_pos]
    rw [recordAt_head 0 _ (by omega), recordAt_tail 0 _ (by omega), recordAt_tail 0 _ (by omega)]
    decide +kernel
  have n0 : field (recordAt 0 0) 89 1 = 0 := by rw [recordAt_tail 0 _ (by omega)]; decide +kernel
  have d0 : digestOf (sub (recordAt 0 0) 96 32) = sha256 [] := by
    rw [recordAt, sub_right (k := 80) (by simp [recordHead_length, digestBytes_length]) (by omega)]
    decide +kernel
  unfold decisionDigests
  rw [first]
  simp only [n0, d0]
  rw [List.filter_eq_nil_iff.mpr (by intro c hc; simp [nocont c hc])]
  rfl

theorem collective_recorded : ∀ x ∈ chained 4096 0 0, field x 0 1 = 1 → field x 88 8 = 7 → field x 5 1 = 1 := by
  intro c hc
  rw [chained_split] at hc
  rcases List.mem_cons.mp hc with rfl | hc
  · intro h; rw [recordAt_head 0 _ (by omega)] at h; exact absurd h (by decide)
  · rcases List.mem_cons.mp hc with rfl | hc
    · intro _ _; rw [recordAt_head 1 _ (by omega)]; decide
    · intro h; rw [chained_marks 4094 2 _ (by omega) c hc] at h; exact absurd h (by decide)

/-- A running wafer image of arithmetic generation AG1. -/
def waferImage : Running := { otherEave with kind := 0 }

/-- `ready` with that input in sealed region 1 and with running images. -/
def inputState (rs : List Running) : State :=
  { ready with firmware.running := rs, loft := { ready.loft with
      regions := [{ handle := 1, kind := .isSealed, base := 0, size := 790528, digest := 0, poisonSeen := false
                    resealing := false }]
      cells := writeBytes 0 input [] } }

/-- REPLAY_START of decision 7 from region 1. -/
def startPacket : Packet := au 6 0xFFFF (le 8 7 ++ le 4 1 ++ zs 4)

theorem base_loft (rs : List Running) :
    (base (.replayStart startPacket) startPacket (inputState rs)).loft = (inputState rs).loft := by
  set_option maxRecDepth 100000 in
  with_unfolding_all rfl

theorem input_read (rs : List Running) :
    readLoft 0 790528 (base (.replayStart startPacket) startPacket (inputState rs)) = input := by
  unfold readLoft
  rw [base_loft]
  apply List.ext_getElem
  · rw [List.length_map, List.length_range, input_length]
  · intro i h1 h2
    simp only [List.getElem_map, List.getElem_range]
    have e : (inputState rs).loft.poisonLines = [] := rfl
    have c : (inputState rs).loft.cells = writeBytes 0 input [] := by simp only [inputState]
    rw [e, c]
    simp only [List.contains_nil, Bool.false_eq_true, if_false]
    exact read_writeBytes_inside nil_wf h2

/-- Which keys verify is no value of the spec: the witness holds for every choice of them that accepts this input. -/
theorem witness_ReplayCommands (hc : Config.chainVerifies [] = true) (hs : Config.sealVerifies [] imageSeal = true) :
    let b := base (.replayStart startPacket) startPacket (inputState [waferImage])
    let g := readLoft 0 790528 b
    let chain := sub g 64 (field g 24 4)
    let rs := (replayImages g).flatMap imageRecords
    takes (.replayStart startPacket) (inputState [waferImage]) = true ∧ (findRegion 1 b).any (fun r => r.size = 790528 && r.base = 0) = true ∧
    replayHeaderGood g 790528 7 = true ∧ Config.chainVerifies chain = true ∧ imagesGood chain none (replayImages g) = true ∧
    decisionDigests rs 7 = some [] ∧ (∃ x, decisionCollectives rs 7 = [x] ∧ x.2.abortCause ≠ 0) ∧
    (∀ x ∈ rs, field x 0 1 = 1 → field x 88 8 = 7 → listsGeneration (field x 5 1) b = true) ∧ ledgerHalt b = none ∧
    (∀ x ∈ b.journal.replays, x.state ≠ 0) := by
  have c0 : field input 24 4 = 0 := by unfold field; rw [input_field (by omega)]; decide +kernel
  have ch : sub input 64 0 = [] := by simp [sub]
  intro b g chain rs
  have hg : g = input := input_read _
  have hch : chain = [] := by show sub g 64 (field g 24 4) = []; rw [hg, c0, ch]
  have hrs : rs = chained 4096 0 0 := by
    show (replayImages g).flatMap imageRecords = _
    rw [hg, input_images, List.flatMap_cons, List.flatMap_nil, List.append_nil, image_records]
  rw [hch, hrs, hg, input_images]
  exact ⟨by decide +kernel, by decide +kernel, input_header, hc, image_verified hs, decision_digests, decision_collectives,
    fun x hx h1 h2 => by rw [collective_recorded x hx h1 h2]; decide +kernel, by decide +kernel, by decide +kernel⟩

theorem witness_ReplayCommands_others :
    (let s := { inputState [] with loft.cells := [] }
     takes (.replayStart startPacket) s ∧ replayHeaderGood (readLoft 0 64 s) 790528 7 = false) ∧
    takes (.replayStart startPacket) (setSite 0 id { reducing with loft.regions := [
      { handle := 1, kind := .working, base := 0, size := 4096, digest := 0, poisonSeen := false, resealing := false }] }) ∧
    takes (.replayStatus (au 6 0xFFFF (le 4 1 ++ zs 4))) replaying ∧
    takes (.replayCancel (au 6 0xFFFF (le 4 1 ++ zs 4))) replaying ∧ (∃ x ∈ replaying.journal.replays, x.id = 1) ∧
    takes (.replayCancel (au 6 0xFFFF (le 4 2 ++ zs 4))) replaying ∧ (∀ x ∈ replaying.journal.replays, x.id ≠ 2) := by
  decide +kernel

/-! ### Further clauses of the statements, each with a state that meets its hypotheses -/

theorem witness_SessionOpenBindsConnection_bounds :
    connection 3 ready = some { id := 3, eave := .a, fingerprint := 7, issuers := [], session := none } ∧
    eaveAnswers .a ready = true ∧ 36 + openNew.body.length ≤ pathLimit openNew ∧
    36 + rejoin.body.length ≤ pathLimit rejoin := by
  decide +kernel

/-- `ready` with 1,024 parameters staged by the ADMIN session. -/
def fullSet : State :=
  { ready with batten := { ready.batten with staged := [(0x10001, (List.range 1024).map fun i => (i + 1, 0))] } }

theorem witness_ParametersStagedAndApplied_bounds :
    takes (.paramStage (pk 0 0xFFFF stageBody)) fullSet = true ∧
    1024 < ((stageEntries stageBody).foldl (fun m e => put e.1 e.2 m) (stagedOf 0x10001 fullSet)).length ∧
    ((stageEntries stageBody).foldl (fun m e => put e.1 e.2 m) (stagedOf 0x10001 ready)).length ≤ 1024 ∧
    (let c : Instr := .paramCommit (pk 0 0xFFFF (le 8 0))
     let s : State := { staged with batten.scheduled := [] }
     takes c s = true ∧ stagedOf 0x10001 (bs c s) ≠ [] ∧ setFault (stagedOf 0x10001 (bs c s)) (bs c s) = none ∧
     (∀ x ∈ (bs c s).batten.scheduled, x.originator ≠ 0x10001) ∧
     conflicts 0x10001 (tickUsed 0 (bs c s)) (stagedOf 0x10001 (bs c s)) (bs c s) = false) ∧
    (bs (.paramDiscard (pk 0 0xFFFF [])) ready).batten.appliedBy.contains 0x10001 = false ∧
    takes (.paramDiscard (pk 0 0xFFFF [])) ready = true ∧ marksSent ready = true := by
  decide +kernel

theorem witness_PortCommands_others :
    (takes (.opticRead (pk 0x11 16 [0, 0, 0, 0, 8, 0, 0, 0])) ready = true ∧ (port 128 ready).moduleReady = false) ∧
    (let s := withPort 5 fun q => { q with state := .disabled }
     (port 5 s).state = .disabled ∧ portHold 5 s = none) ∧
    (let s := withPort 5 fun q => { q with state := .down }
     (port 5 s).state = .down ∧ portHold 5 s = none) := by
  decide +kernel

theorem witness_PortsTrainAndCheckPlan_steps :
    (let s := training 3
     mayTrain s = true ∧ (port 5 s).state = .training ∧ (port 5 s).step = 3 ∧
     selectsFecL 5 9 9 (setPort 5 (fun q => { q with ownBer := 9, farBer := 9 }) s) = false) ∧
    (let s := withPort 5 fun q => { q with state := .training, step := 3, farFecL := true }
     selectsFecL 5 9 9 (setPort 5 (fun q => { q with ownBer := 9, farBer := 9 }) { s with params := put pFecPolicy 1 s.params }) =
       true) ∧
    (mayTrain (training 5) = true ∧ (port 5 (training 5)).state = .training ∧ (port 5 (training 5)).farSelectBad = false) ∧
    (let s := { ready with planLoaded := true, plan := List.replicate 160 (BitVec.ofNat 64 (identityWord idBlock)) }
     sameIdentity 5 idBlock s = none ∧ param pPlanPolicy s ≠ 1 ∧ planMatches (s.plan.getD 5 0) idBlock = true ∧
     planMatches ((setPort 5 id { s with plan := List.replicate 160 0 }).plan.getD 5 0) idBlock = false) ∧
    (let s := withPort 5 fun q => { q with state := .identity }
     (port 5 s).state = .identity ∧ s.tally.state ≠ .acquiring ∧ { s with tally.state := .acquiring }.tally.state = .acquiring) := by
  decide +kernel

theorem witness_ReceiverCases_strays :
    (preempted 5 openFrame ready).1 = openFrame ∧
    (let s := withPort 5 fun q => { q with openRx := some { openFrame with cls := 2 } }
     receives 5 s = true ∧ (port 5 s).parked = none ∧ (∀ o, (port 5 s).openRx = some o → o.cls ≠ 7) ∧
     (preempted 5 { openFrame with blocksSeen := 3 } s).1.blocksSeen < 4) ∧
    (let s := withPort 5 fun q => { q with parked := some openFrame }
     (port 5 s).openRx = none ∧ (port 5 s).parked.isSome = true ∧ (3#2).toNat ≠ (openFrame.fragment + 1) % 4) ∧
    waferLive ready = true ∧ trained 5 ready = true := by
  decide +kernel

/-- A frame whose end has not come yet, and the rest of one. -/
def partFrame : RxFrame := { data 0 with eof := .pending, blocks := 0, payload := [] }
def restFrame : RxFrame := { data 0 with rest := true }

/-- `granting` with a port as it stands in reception. -/
def receiving (f : Port → Port) : State := setPort 0 f granting

theorem witness_FramesScreenedAndQueued_parts :
    ((port 0 (receiving fun q => { q with openRx := some (openOf 0 partFrame granting) })).openRx =
        some (openOf 0 partFrame granting)) ∧
    ((port 0 granting).openRx = none ∧ (port 0 granting).discarding = false ∧
      (port 0 (receiving fun q => { q with discarding := true })).discarding = true) ∧
    (partFrame.eof = .pending ∧ headerCheck 0 partFrame granting = .good ∧ restFrame.rest = true) ∧
    ((data 0).eof ≠ .pending ∧ headerCheck 0 (data 0) (receiving fun q => { q with state := .down }) = .notUp ∧
      headerCheck 0 { data 0 with hcrc := 0 } granting = .header ∧
      headerCheck 0 (frameOf { hdr 0 1 8 5 with flags := 0x80 } (zs 8)) granting = .framing ∧
      headerCheck 0 (frameOf (hdr 0 3 0 0xFFFF) []) granting = .type ∧ headerCheck 0 (data 0) ready = .credit ∧
      headerCheck 0 (data 0) granting = .good) ∧
    (endCheck (data 0) = .good ∧ endCheck { data 0 with eof := .stomp } = .stomp ∧ endCheck { data 0 with crc := 0 } = .crc ∧
      endCheck { data 0 with lastValid := 9 } = .framing) := by
  decide +kernel

theorem witness_FramesScreenedAndQueued_cut :
    (let t := useCredits 0 0 1 granting
     let d := dataQFrame 0 ((servingSite 0 t).getD 0) (data 0).header (data 0).payload
     goesCut 0 d (lossyRoom 0 d t) = true ∧ (openOf 0 (data 0) t).cutTo = some 5 ∧
     goesCut 0 d (lossyRoom 0 d { t with params := put pCutThrough 0 t.params }) = false ∧
     (openOf 0 (data 0) { t with params := put pCutThrough 0 t.params }).cutTo = none) ∧
    ((port 0 granting).stale.get 0 = 0 ∧ 0 < granting.ports.length) ∧
    (let f := dataQFrame 0 ((servingSite 0 granting).getD 0) (hdr 4 1 8 5) (zs 8)
     let s := { granting with params := put pLimit 0 granting.params }
     dropsTail 0 f (lossyRoom 0 f s) = true ∧ dropsTail 0 f (lossyRoom 0 f granting) = false) := by
  decide +kernel

theorem witness_OutputsServeEligibleHeads_crossing :
    (let s := withPort 5 fun q => { q with sending := some { frame := waitingFrame 0, fragment := 0, sent := 0, since := 0 } }
     crossingFull .fabToPtx 5 s = false ∧ expressSuspends 5 s = false) ∧
    (let f := { waitingFrame 0 with header := hdr 0 1 4096 5, payload := zs 4096 }
     let s := withPort 5 fun q => { q with sending := some { frame := f, fragment := 0, sent := 0, since := ready.now } }
     crossingFull .fabToPtx 5 s = true ∧ expressSuspends 5 s = false) := by
  decide +kernel

theorem witness_PatrolCyclesAndSlices_ends :
    (let s := atStep (.unit 8 0) .testing
     waferLive s = true ∧ listed (.unit 8 0) s = true ∧ s.patrol.current = some (.unit 8 0, .testing)) ∧
    (let s := { patrolling with params := put pPatrolEnable 0 patrolling.params }
     param pPatrolEnable s = 0 ∧ sliceAt 0 s = some (.unit 8 0) ∧ s.patrol.current = none ∧ s.patrol.next < s.patrol.count) ∧
    sliceDrained (.unit 8 0) (atStep (.unit 8 0) .drainWait) ≠ some false ∧
    sliceDrained (.link 6) (atStep (.link 6) .drainWait) ≠ some true := by
  decide +kernel

/-- A COLLECTIVE_OPEN of group 1 that names no decision. -/
def openPacket : Packet := pk 3 0xFFFF (openBody 5 0 1)

theorem witness_ReductionCommands_collectives :
    (let c : Instr := .collectiveOpen openPacket
     let b := bs c reducing
     let d := describeCollective openPacket.body grp b
     takes c reducing ∧ (b.reduction.groups.find? fun x => x.id = field openPacket.body 16 4) = some grp ∧
     d.decision = 0 ∧ (∀ x ∈ b.reduction.collectives, x.id ≠ d.id) ∧ b.tally.state = .locked ∧
     b.power.powerFail = false ∧ b.power.quiesced = false ∧ ledgerHalt b = none ∧ grp.powerHeavy = false ∧
     b.reduction.collectives.length < 65536 ∧ assignYealms grp d.elements d.op d.canonical d.input b ≠ []) ∧
    (let c : Instr := .collectiveStatus (pk 3 0xFFFF (le 8 3))
     takes c reducing ∧ (((bs c reducing).reduction.collectives ++ (bs c reducing).reduction.done).find? fun x =>
       x.id = field (le 8 3) 0 8) = some { coll with id := 3 }) ∧
    (let c : Instr := .collectiveCancel (pk 3 0xFFFF (le 8 1))
     takes c reducing ∧ (bs c reducing).reduction.rampQueue = [] ∧
     (∀ x ∈ (bs c reducing).reduction.collectives, x.lastWaiting = []) ∧
     (findCollective (field (le 8 1) 0 8) (bs c reducing)).isSome = true) := by
  decide +kernel

theorem witness_CollectivesAdmitted_cancelled :
    (let c (n : Nat) : Instr := .collectiveCancel (pk 3 0xFFFF (le 8 n))
     let s := { reducing with reduction.done := [{ coll with id := 3, state := .released }, { coll with id := 4, state := .aborted }] }
     let t (n : Nat) := settleResults (rampLoop (bs (c n) s).reduction.rampQueue.length (bs (c n) s))
     takes (c 1) s ∧ (findCollective 1 (t 1)).isSome = true ∧
     takes (c 3) s ∧ findCollective 3 (t 3) = none ∧ (∃ x ∈ (t 3).reduction.done, x.id = 3 ∧ x.state = .released) ∧
     takes (c 4) s ∧ findCollective 4 (t 4) = none ∧ (∀ x ∈ (t 4).reduction.done, x.id = 4 → x.state ≠ .released)) ∧
    { reducing with power.quiesced := true }.power.quiesced = true := by
  decide +kernel

theorem witness_ReductionEvents_ramp :
    (param pRampEnable reducing ≠ 0) ∧
    (let s := { reducing with reduction.rampQueue := [1], params := put pRampEnable 0 reducing.params }
     waferLive s = true ∧ findCollective 1 s = some coll ∧ param pRampEnable s = 0) := by
  decide +kernel

/-- `reducing` with an empty sealed region that is verified again. -/
def resealing (d : Digest) : State :=
  { reducing with loft.regions := [{ handle := 4, kind := .isSealed, base := 393216, size := 0, digest := d, poisonSeen := true
                                     resealing := true }] }

theorem witness_LoftEvents_reseal :
    (findRegion 4 (resealing (sha256 []))).any (fun r => r.resealing && regionDigest r (resealing (sha256 [])) == r.digest) =
      true ∧
    (findRegion 4 (resealing 0)).any (fun r => r.resealing && regionDigest r (resealing 0) != r.digest) = true ∧
    (let s := { reducing with loft.requests := [request true] }
     (s.loft.requests.find? fun q => q.block = 0 && !q.refused) = some (request true)) ∧
    (findRegion 3 reducing).any (fun r => r.kind = .sealing) = true := by
  decide +kernel

theorem witness_RegionCommands_free :
    (let c : Instr := .regionFree (pk 5 0xFFFF (le 4 1 ++ zs 4))
     takes c reducing ∧ refCount 1 (bs c reducing) ≠ 0 ∧ (findRegion 1 (bs c reducing)).any (fun r => r.kind ≠ .sealing)) ∧
    (let c : Instr := .regionFree (pk 5 0xFFFF (le 4 3 ++ zs 4))
     takes c reducing ∧ (findRegion 3 (bs c reducing)).any (fun r => r.kind = .sealing)) ∧
    (let c : Instr := .regionSeal (pk 5 0xFFFF (le 4 1 ++ zs 4))
     takes c reducing ∧ (findRegion 1 (bs c reducing)).any (fun r => r.kind ≠ .working)) := by
  decide +kernel

theorem witness_JournalEvents_building :
    (buildsRecords ready = true ∧ buildingWaits ready = false ∧ unjournalled ready = false) ∧
    (let s := { journalled with journal.waiting := (List.replicate 700 journalled.journal.waiting).flatten }
     buildsRecords s = true ∧ buildingWaits s = true) ∧
    (buildsRecords (brimful .openMode) = true ∧ buildingWaits (brimful .openMode) = false ∧
      unjournalled (brimful .openMode) = true) ∧
    (journalled.journal.next - 1 + journalled.journal.frozenNotes.length) % 4096 ≠ 0 := by
  decide +kernel

theorem witness_TallyEvents_others :
    (let v : PtpMessage := { servo := { acquired := true, offsetNs := 40, utcOffset := 37 }
                             domain := param pPtpDomain ready, transport := param pPtpTransport ready }
     v.domain = param pPtpDomain ready ∧ v.transport = param pPtpTransport ready ∧
     { v with domain := v.domain + 1 }.domain ≠ param pPtpDomain ready) ∧
    (let s := { ready with tally.state := .slewing }
     waferLive s = true ∧ s.tally.state = .slewing) := by
  decide +kernel

theorem witness_CountersSnapAndRead_periodic :
    (let s := { ready with params := put pSnapPeriod 1024 ready.params }
     snapHere (param pSnapPeriod s) s = some 0x100000 ∧
     snapHere (param pSnapPeriod s) { s with counters.lastPeriodic := some 0x100000 } = none ∧
     snapHere (param pSnapPeriod s) { s with tally.value := 0x100001, tally.skipped := some 0x100000 } = some 0x100000) := by
  decide +kernel

theorem witness_CopingCommands_masks :
    (let c : Instr := .channelMask (pk 0xB 0xFFFF (le 2 0x8000 ++ zs 6))
     ((bs c ready).coping.masks ||| BitVec.ofNat 16 0x8000) ≠ (bs c ready).coping.masks) ∧
    (let p := pk 0xB 2 (zs 8)
     p.body.length = 8 ∧ calMatches (field p.body 0 1) p.unit.toNat p.inst.toNat = false) := by
  decide +kernel

theorem witness_SensingAndCoolant_flowOff :
    (let s := { ready with coping.flowOff := some ready.now }
     s.coping.flowOff = some s.now) ∧
    (let s := setSense 0 (fun _ => comparing .alarm) (setSense 1 (fun _ => comparing .alarm)
       { ready with coping.flowAlarm := true })
     s.coping.flowOff ≠ some s.now ∧ s.coping.flowAlarm = true ∧ flowAlarmed s = true) ∧
    (let s := { ready with power.phase := .waferRamp, power.step := 7 }
     masked 10 s = false ∧ wets 10 = true ∧ beforeReady (postEvent 1 10 s) = true ∧ 6 ≤ s.power.step) ∧
    (masked 15 ready = false ∧ wets 15 = true) ∧ zoneWOn ready = true ∧
    (∃ raw, entersAlarm 10 raw ready = true) ∧ (∃ raw, leavesAlarm 10 raw ready = true) := by
  refine ⟨by decide +kernel, by decide +kernel, by decide +kernel, by decide +kernel, by decide +kernel, ?_, ?_⟩
  · rcases witness_SensingAndCoolant.2.2.2.1 with h | h
    · exact ⟨_, h⟩
    · exact ⟨_, h⟩
  · by_cases h : leavesAlarm 10 0 ready = true
    · exact ⟨_, h⟩
    · exact ⟨8388607, by revert h; decide +kernel⟩

theorem witness_OutputsAndCalibration_fallback :
    (let s := { ready with params := put (pAout 4 3) 1 ready.params }
     s.power.aonUp = true ∧ complianceApplies 4 .headroom s = true ∧
     param (pAout 4 3) (setAout 4 (fun c => { c with fault := some .headroom }) (count (cAout 4 3) s)) = 1 ∧
     (aout 4 s).fallback = false ∧ (aout 4 s).written ≠ some (d9Cycle s) ∧
     (aout 4 (writeAout 4 0x1234 s)).written = some (d9Cycle (writeAout 4 0x1234 s))) ∧
    (let s := setAout 4 (fun c => { c with holding := true, output := 5 }) ready
     (aout 4 s).holding = true) ∧
    ((calibrating 0 1 false false).coping.calibration.any fun k => !calHolds k (calibrating 0 1 false false)) = true := by
  decide +kernel

theorem witness_FirmwareCommands_refused :
    (takes (.imgDownload (pk 0x10 0xFFFF (chunkBody 3 1 300 0 8))) ready ∧ fieldFault (chunkBody 3 1 300 0 8) 28 4 .zero = none) ∧
    (let s := { holding .ledger (imageSlot 0 1 .verified) with ident.stepping := 9 }
     let x := slotOf 0 1 0 s
     takes (.imgActivate (pk 0x10 0xFFFF (imageBody 0 1))) s ∧ confirmedRunning 0 1 0 s = false ∧ x.state = .verified ∧
     clash (runningFrom x) x.factory s = none ∧
     (x.factory || (imageSteppings x.image).contains s.ident.stepping.toNat) = false) ∧
    (let s := holding .ledger { imageSlot 3 1 .trial with busy := true }
     takes (.imgConfirm (pk 0x10 0xFFFF (imageBody 3 1))) s ∧ (slotOf 3 1 0 s).busy = true) ∧
    (slotOf 3 1 0 (holding .ledger (imageSlot 3 1 .trial))).busy = false ∧
    isLedger (holding .ledger (imageSlot 3 1 .verified)) = true := by
  decide +kernel

theorem witness_FirmwareEvents_kinds :
    { ready with firmware.reverify := [(3, 1, 0)] }.firmware.reverify = (3, 1, 0) :: [] ∧
    (let o := opOf (.imgVerify 3 1 0) (pk 0x10 0xFFFF []) 0x81
     let s := { holding .ledger { imageSlot 3 1 .unverified with image := [] } with batten.ops := [o] }
     s.firmware.reverify = [] ∧ (slotOf 3 1 0 s).factory = true) ∧
    ((activating 0 [8]).firmware.activation.any fun a => decide (a.kind = 0) && a.loading.contains 8 && !a.reverting) = true ∧
    (let s := { ready with firmware.activation := some { kind := 0, slot := 1, target := 0, loading := [8], reverting := true } }
     s.firmware.activation.any fun a => a.reverting && a.loading.contains 8) = true ∧
    ((activating 1 []).firmware.activation.any fun a => decide (a.kind = 1)) = true ∧
    ((activating 2 []).firmware.activation.any fun a => decide (a.kind ≠ 0 ∧ a.kind ≠ 1)) = true ∧
    ((activating 5 []).firmware.activation.any fun a => decide (a.kind = 5 ∧ a.target = 16)) = true ∧
    (let s := setSite 8 (fun t => { t with bistRunning := true }) (activating 0 [8])
     waferLive s = true ∧ (site 8 s).bistRunning = true ∧ s.patrol.mbistSite = none) ∧
    (let s := { ready with switch.rehomings := [move true] }
     drained 8 (landAll s) = true) ∧
    { ready with switch.rehomings := [move false] }.switch.rehomings = [move false] := by
  decide +kernel

theorem witness_FreezeCommands_others :
    (let s := { frozen with freezeUnit.powerFail := true }
     takes (.restart (pk 0xF 0xFFFF [])) s ∧ s.freezeUnit.frozen = true ∧ s.freezeUnit.powerFail = true) ∧
    (takes (.freezeAt (pk 0xF 0xFFFF (le 8 (2 ^ 41)))) ready ∧ tallyNat ready + 2 ^ 40 < 2 ^ 41) ∧
    (let s := { ready with tally.state := .unlocked }
     takes (.freezeAt (pk 0xF 0xFFFF (le 8 0x200000))) s ∧ tallyNat s < 0x200000) := by
  decide +kernel

theorem witness_FreezeEvents_autoThaw :
    (let s := { frozen with params := put pAutoThaw 100 frozen.params }
     mayThaw { s with now := max s.now (s.freezeUnit.notice + param pAutoThaw s * 3125 / 10) } = true) ∧
    (let s := { frozen with params := put pAutoThaw 100 frozen.params, freezeUnit.destructive := true }
     mayThaw { s with now := max s.now (s.freezeUnit.notice + param pAutoThaw s * 3125 / 10) } = false) := by
  decide +kernel

theorem witness_RefereeJudges_answers :
    (let s := setEave .a (fun e => { e with state := .failed }) judging
     recognised .a s = false ∧ recognised .b s = true ∧ s.referee.selftest = .diverged report) ∧
    (let s := { ready with params := put pErrorMask 1 ready.params }
     (stored pErrorMask s).testBit 0 = true) := by
  decide +kernel

theorem witness_TrayCommands_inFlight :
    (let c : Instr := .modeSet (pk 0 0xFFFF (le 8 1))
     let b := bs c ready
     takes c ready ∧ b.reduction.collectives.length + (b.journal.replays.filter fun r => r.state = 0).length +
       bit (openFollows b) = 0) ∧
    (let c : Instr := .modeSet (pk 0 0xFFFF (le 8 1))
     takes c replaying ∧ ((bs c replaying).journal.replays.filter fun r => r.state = 0).length ≠ 0) ∧
    (let c : Instr := .modeSet (pk 0 0xFFFF (zs 8))
     let s := { ready with firmware.manifest := ascii "NVRELMAN" ++ le 2 1 ++ le 2 1 ++ zs 140, firmware.manifestGood := true }
     takes c s ∧ ledgerRefusal (bs c s) = none) := by
  decide +kernel

theorem witness_PowerUpSteps_boots :
    State.reset.power.step = 1 ∧ { ready with power.aonUp := false }.power.aonUp = false ∧ { ready with power.step := 1 }.power.step = 1 ∧
    (let s := { ready with power.phase := .waferRamp, power.step := 8 }
     s.power.phase = .waferRamp ∧ s.power.step = 8) ∧
    { ready with power.phase := .coolantGate }.power.phase = .coolantGate := by
  decide +kernel

/-- What the mount of two empty banks finds. -/
def mounting : MountResult :=
  { aFaulted := false, bFaulted := false, aHighest := 0, bHighest := 0, tornDiscarded := false, heldLost := false
    replaced := false }

theorem witness_WaferBoots_release :
    { ready with power.latches.waferRstN := 0 }.power.latches.waferRstN = 0 ∧
    (startAcquiring (mountAll mounting { ready with power.step := 12, power.banksMounted := false })).power.slatesRunning =
      true ∧
    (let s := { ready with power := { ready.power with step := 12, banksMounted := false, slatesRunning := false } }
     mountDue s = true ∧ (startAcquiring (mountAll mounting s)).power.slatesRunning = false) := by
  decide +kernel

theorem witness_PinsAndSideband_shelf :
    { ready with power.shelfFault := true }.power.shelfFault = true ∧ ready.power.powerFail = false ∧
    (rackReserved 1 = false ∧ rackIdValid { ready with referee.rackId := 0x80000001 } = true) ∧
    ({ ready with referee.rowPos := 0x80000101 }.referee.rowPos.getLsbD 31 = true ∧ (0x80000101 : U32) ≠ 0x102 ||| 0x80000000) ∧
    (let e : Event := { number := 1, kind := 1, channel := 10, heard := false }
     oldestEvent { ready with referee.events := [e] } = some e ∧ e.number ≠ (2 : U32).toNat ∧ e.number = (1 : U32).toNat) := by
  decide +kernel

/-- With no wafer image that lists AG1, the collective's record is one that R72 refuses. -/
theorem witness_ReplayCommands_generation :
    let b := base (.replayStart startPacket) startPacket (inputState [])
    takes (.replayStart startPacket) (inputState []) = true ∧
    ∃ x, ((chained 4096 0 0).filter fun x => field x 0 1 = 1 && field x 88 8 = 7).find?
      (fun x => !listsGeneration (field x 5 1) b) = some x := by
  refine ⟨by decide +kernel, Option.isSome_iff_exists.mp ?_⟩
  have none_listed : ∀ g, listsGeneration g (base (.replayStart startPacket) startPacket (inputState [])) = false := by
    intro g
    set_option maxRecDepth 100000 in
    with_unfolding_all rfl
  rw [List.find?_isSome]
  refine ⟨recordAt 1 (sha256 (recordAt 0 0)), List.mem_filter.mpr ⟨?_, ?_⟩, by simp only [none_listed, Bool.not_false]⟩
  · rw [chained_split]; exact List.mem_cons_of_mem _ (List.mem_cons_self ..)
  · generalize sha256 (recordAt 0 0) = h
    rw [recordAt_head 1 _ (by omega), recordAt_tail 1 _ (by omega)]
    decide +kernel

theorem witness_WindowsOrderCommands_gap :
    ((keysOf 0x10001).findSome? fun k => (oldestHeld (windowOf k windowed)).map fun h => (k, h)) =
      some (0x10001, 4, .identity (pk 0 0xFFFF [])) ∧
    (lookup windowed.batten.windows 0x10001).isSome ∧
    lookup (windowOf 0x10001 windowed).marks ((windowOf 0x10001 windowed).highWater + 1) = none ∧
    (windowOf 0x10001 windowed).highWater + 1 < 4 ∧
    (let w : Window := { highWater := 3, marks := [(4, .held 9 (.identity (pk 0 0xFFFF [])) 0)] }
     lookup w.marks (w.highWater + 1) = some (.held 9 (.identity (pk 0 0xFFFF [])) 0)) := by
  decide +kernel

/-- The command of the frame's witness. -/
def framePacket : Packet := pk 0 0xFFFF []

theorem witness_AnswersTouchOnlyTheirRecords_reads :
    ∃ a, Reads (.features framePacket) framePacket ready a ∧ keyOf (.features framePacket) framePacket ready = 0x10001 :=
  ⟨_, completes_of_run rfl rfl (by decide +kernel) rfl rfl fun _ => rfl, by decide +kernel⟩

/-! ### Worked values of the spec

The register widths, the exact sum and the rounding are the worked cases of spec/09_reeds_and_engines.md and
spec/06_batten_reference.md (Table 1.3); the digest and the CRC are the published check values of their standards. -/

/-- The output element of one collective over these contributions in rank order, with its flag bits. -/
def sumOf (op : ReduceOp) (fi fo : Format) (xs : List Nat) : Nat × Nat :=
  registerResult op false fi fo xs.length (xs.zipIdx.foldl (fun r x => contribute op false fi x.2 x.1 r) { index := 0 })

theorem test_sum_is_exact : sumOf .sum .fp32 .fp32 [0x4B800000, 0x3F800000, 0xCB800000, 0x3F800000] = (0x40000000, 0) := by
  decide +kernel
theorem test_sum_rounds_once :
    (sumOf .sum .fp32 .bf16 [0x400000, 0x4000, 0x4000]).1 = 0x40 ∧
    (sumOf .sum .fp32 .bf16 [0x400000, 0x4000, 0x4000, 1]).1 = 0x41 := by decide +kernel
theorem test_sum_specials :
    sumOf .sum .fp16 .fp16 [0x7C00, 0x3C00, 0xFC00] = (0x7E00, 1) ∧ sumOf .sum .fp16 .fp16 [0x7C00, 0x3C00] = (0x7C00, 0) ∧
    sumOf .sum .fp16 .fp16 [0x7D01, 0x3C00] = (0x7E00, 1) := by decide +kernel
theorem test_sum_overflow_and_zero_signs :
    sumOf .sum .fp16 .fp16 [0x7BFF, 0x7BFF] = (0x7C00, 2) ∧ sumOf .sum .fp16 .fp16 [0x8000, 0x8000] = (0x8000, 0) ∧
    sumOf .sum .fp16 .fp16 [0x8000, 0] = (0, 0) := by decide +kernel
theorem test_sum_int8_saturates : sumOf .sum .int8 .int8 [100, 50] = (0x7F, 4) := by decide +kernel
theorem test_mean_ties_to_even : (sumOf .mean .int8 .int8 [4, 5]).1 = 4 ∧ (sumOf .mean .int8 .int8 [3, 4]).1 = 4 := by
  decide +kernel
/-- One rounding of (1 + 1 + 3 × 2⁻²³) / 3. -/
theorem test_mean_rounds_once : sumOf .mean .fp32 .fp32 [0x3F800000, 0x3F800000, 0x34C00000] = (0x3F2AAAAD, 0) := by
  decide +kernel
theorem test_sum_e4m3_to_bf16 :
    (sumOf .sum .e4m3 .bf16 [0x7E, 0x7E, 0x40]).1 = 0x4460 ∧ (sumOf .sum .e4m3 .bf16 [0x7E, 0x7E, 0x40, 1]).1 = 0x4461 := by
  decide +kernel

/-- FIPS 180-4's own example. -/
theorem test_sha256_abc : sha256 [0x61, 0x62, 0x63] = 0xba7816bf8f01cfea414140de5dae2223b00361a396177a9cb410ff61f20015ad := by
  decide +kernel
/-- The check value of CRC-32C. -/
theorem test_crc32c_check : crc32c [0x31, 0x32, 0x33, 0x34, 0x35, 0x36, 0x37, 0x38, 0x39] = 0xE3069283 := by decide +kernel

/-- The cartridge of a Loft address, and the site that serves cartridge 20: the block's row 3 and column 4. -/
theorem test_loft_interleave : cartOf 0x01234567 = 20 ∧ loftSite 20 State.reset = some 22 := by decide +kernel
/-- Counter 5 of port 47. -/
theorem test_counter_id : cPort 47 5 = 0x01002F05 := by decide +kernel
/-- The shared pool of 512 KiB shingles and the reservation of a slate with ten ports. -/
theorem test_voq_memory : shareTotal ready = 2097152 ∧ reserved 9 ready = 5160 := by decide +kernel
theorem test_feature_word : featureWord { State.reset with ident.variant := .l, ident.loft64 := true, ident.thatchB := false } =
    0x0F := by decide +kernel
theorem test_sense_pressure : senseValue 0 4194304 ready = 60000 := by decide +kernel

/-- The primes up to a bound. -/
def primesTo (n : Nat) : List Nat :=
  (List.range (n + 1)).filter fun p => 2 ≤ p && (List.range p).all fun d => d < 2 || p % d != 0

/-- FIPS 180-4: each word is the first 32 fractional bits of the cube root of a prime; no whole part exceeds 6. -/
theorem test_roundConstants_cubeRoots :
    ((primesTo 311).zip shaConstants).all (fun x => (List.range 7).any fun whole =>
      let r := whole * 2 ^ 32 + x.2
      decide (whole ^ 3 ≤ x.1 ∧ x.1 < (whole + 1) ^ 3) && decide (r ^ 3 ≤ x.1 * 2 ^ 96 ∧ x.1 * 2 ^ 96 < (r + 1) ^ 3)) = true ∧
    (primesTo 311).length = 64 ∧ shaConstants.length = 64 := by
  decide +kernel

/-- FIPS 180-4: the first hash words, of the square roots of the first eight primes. -/
theorem test_initialHash_squareRoots :
    ((primesTo 19).zip (shaInit.upper.toList ++ shaInit.lower.toList)).all (fun x => (List.range 5).any fun whole =>
      let r := whole * 2 ^ 32 + x.2
      decide (whole ^ 2 ≤ x.1 ∧ x.1 < (whole + 1) ^ 2) && decide (r ^ 2 ≤ x.1 * 2 ^ 64 ∧ x.1 * 2 ^ 64 < (r + 1) ^ 2)) = true ∧
    (primesTo 19).length = 8 := by
  decide +kernel

/-- R774: payloads of at most 65,536 bytes, sequence and offset rising; the header of Table 13.6 takes 32 bytes. -/
theorem test_snap_frames :
    (snapFrames 9 [(1, 0, 3, 65537)]).map (fun f => (f.sequence, f.offset, f.length)) =
      [(0, 0, 65536), (1, 65536, 1)] ∧
    ((snapFrames 9 [(1, 0, 3, 65537)]).map fun f => (snapHeader f).length) = [32, 32] := by
  decide +kernel

/-- R179: three ticks of 3.2 ns past an anchor are 9.6 ns, to the nearest nanosecond 10; below it an older anchor counts. -/
theorem test_ptp_of_anchor :
    let s := { ready with tally.anchors := [{ tally := 200, ptpNs := 7000, good := true, at_ := 0, utcOffset := 37 },
                                            { tally := 100, ptpNs := 5000, good := true, at_ := 0, utcOffset := 37 }] }
    ptpRaw 203 s = 7010 ∧ ptpRaw 103 s = 5010 := by
  decide +kernel

/-- R712: a block is retired at 50,000 cycles, and the write point goes past a retired block. -/
theorem test_ring_passes_retired :
    (({ block := 3, retired := [4] } : Ring).nextBlock 10 2).block = 5 ∧
    ({ block := 3, turns := 49999 } : Ring).cycles 3 = 50000 ∧ ({ block := 3, turns := 49999 } : Ring).cycles 4 = 49999 := by
  decide

/-- R397, Table 7.3: an ALIGN block goes out on each of the two active lanes. -/
theorem test_align_on_each_lane :
    (sendAlign 5 (withPort 5 fun q => { q with lanes := 3, width := 2 })).out.length = ready.out.length + 2 := by
  decide +kernel

/-! ### Single steps -/

/-- An output code that moves the top nibble is held, and the next write replaces the waiting code. -/
theorem test_deglitch_holds :
    let s := driveCode 0 0x1000 (setAout 0 (fun c => { c with code := 0x0FFF, output := 0x0FFF }) ready)
    ((aout 0 s).holding, (aout 0 s).code, (aout 0 s).output) = (true, 0x1000, 0x0FFF) := by decide
theorem test_deglitch_passes_same_nibble :
    (aout 0 (driveCode 0 0x1001 (setAout 0 (fun c => { c with code := 0x1000, output := 0x1000 }) ready))).output = 0x1001 := by
  decide
theorem test_no_word_bits : decodeTableWord 32 0x12345678 = none := by decide
/-- The queue is first in, first out: the front command leaves, the second stays. -/
theorem test_step_takes_the_front :
    (match step { ready with pending := [.deglitchHoldEnd 0, .deglitchHoldEnd 1] } with
     | .next u => decide (u.pending = [.deglitchHoldEnd 1])
     | _ => false) = true := by decide +kernel
theorem test_reset_queue_is_empty : State.reset.pending = [] := rfl
theorem test_reset_loft_is_canonical : Memory.wf State.reset.loft.cells = true := by decide

end Sys2Proof.Tests
end

section
/-! The long register (R24, R25, R42): what one contribution does to it, and that its sum is exact. -/

namespace Sys2Proof.Machine

/-! ### One contribution to the long register -/

/-- A decoded element's value in steps of 2^-149 (R25); a NaN or an infinity adds nothing. -/
def stepsOf : Decoded → Int
  | .finite s m e => (if s then -1 else 1) * (m * 2 ^ (e + 149).toNat)
  | _ => 0

/-- Whether an element lets a sum of negative zeros stay one (R34): every finite value but -0 ends it. -/
def sparesNegZero : Decoded → Bool
  | .finite s m _ => s && m = 0
  | _ => true

/-- Each field of a register takes its own part of a contribution: the sum its value, each flag its class. -/
theorem accumulate_eq (f : Format) (x : Nat) (r : LongRegister) :
    accumulate f x r = { r with
      acc := r.acc + BitVec.ofInt 320 (stepsOf (decode f x))
      nan := r.nan || decode f x = .nan
      pinf := r.pinf || decode f x = .pinf
      ninf := r.ninf || decode f x = .ninf
      allNegZero := r.allNegZero && sparesNegZero (decode f x) } := by
  unfold accumulate
  cases decode f x with
  | finite s m e => cases s <;> simp [stepsOf, sparesNegZero]
  | _ => simp [stepsOf, sparesNegZero]

theorem accumulate_acc (f : Format) (x : Nat) (r : LongRegister) :
    (accumulate f x r).acc = r.acc + BitVec.ofInt 320 (stepsOf (decode f x)) := by
  rw [accumulate_eq]

/-- Addition, OR and AND do not depend on the order of two contributions. -/
theorem accumulate_comm (f : Format) (x y : Nat) (r : LongRegister) :
    accumulate f y (accumulate f x r) = accumulate f x (accumulate f y r) := by
  simp only [accumulate_eq, LongRegister.mk.injEq, true_and, and_true]
  exact ⟨add_right_comm .., Bool.or_right_comm .., Bool.or_right_comm .., Bool.or_right_comm ..,
    Bool.and_right_comm ..⟩

/-! ### The sum and its headroom (R24) -/

/-- Modulo 2^320, a register holds what it held and the values that came. -/
theorem foldl_accumulate_acc (f : Format) (xs : List Nat) (r : LongRegister) :
    (xs.foldl (fun r x => accumulate f x r) r).acc =
      r.acc + BitVec.ofInt 320 (xs.map fun x => stepsOf (decode f x)).sum := by
  induction xs generalizing r with
  | nil => simp
  | cons x xs ih => rw [List.foldl_cons, ih, accumulate_acc, List.map_cons, List.sum_cons, BitVec.ofInt_add, add_assoc]

/-- The bits that hold a format's largest magnitude m (R28, R29). -/
def significandBits (f : Format) : Nat := if (fp f).isInt then (fp f).w - 1 else (fp f).p

/-- R42: the exponent field `b` and the significand of a finite float. Only FP8-E4M3 has finite values under the
topmost exponent field. -/
theorem decode_float_finite {f : Format} (hf : (fp f).isInt = false) {x : Nat} {s : Bool} {m : Nat} {e : Int}
    (h : decode f x = .finite s m e) :
    ∃ b : Nat, b < 2 ^ ((fp f).w - (fp f).p) ∧ ((fp f).e4m3 = false → b ≠ 2 ^ ((fp f).w - (fp f).p) - 1) ∧
      m < 2 ^ ((fp f).p - 1) + 2 ^ ((fp f).p - 1) ∧
      (e = (fp f).emin - (fp f).p + 1 ∨ e = b - (fp f).bias - (fp f).p + 1) := by
  have hb := Nat.mod_lt (x % 2 ^ (fp f).w / 2 ^ ((fp f).p - 1)) (Nat.two_pow_pos ((fp f).w - (fp f).p))
  have hr := Nat.mod_lt (x % 2 ^ (fp f).w) (Nat.two_pow_pos ((fp f).p - 1))
  refine ⟨_, hb, ?_⟩
  simp only [decode, hf, Bool.false_eq_true, if_false, Bool.and_eq_true, Bool.not_eq_true', decide_eq_true_eq] at h
  split_ifs at h with _ inf zero
  · obtain ⟨-, rfl, rfl⟩ := Decoded.finite.inj h
    exact ⟨fun n t => inf ⟨n, t⟩, by omega, .inl rfl⟩
  · obtain ⟨-, rfl, rfl⟩ := Decoded.finite.inj h
    exact ⟨fun n t => inf ⟨n, t⟩, by omega, .inr rfl⟩

/-- R29: an integer is its magnitude, and a negative one is at most 2^(w-1) away from zero. -/
theorem decode_int_finite {f : Format} (hf : (fp f).isInt = true) {x : Nat} {s : Bool} {m : Nat} {e : Int}
    (h : decode f x = .finite s m e) : m ≤ 2 ^ ((fp f).w - 1) ∧ e = 0 := by
  have half : 2 ^ (fp f).w ≤ 2 ^ ((fp f).w - 1) * 2 := by
    rw [← pow_succ]
    exact Nat.pow_le_pow_right (by decide) (by omega)
  simp only [decode, hf, if_true] at h
  split_ifs at h with positive
  · obtain ⟨-, rfl, rfl⟩ := Decoded.finite.inj h
    exact ⟨positive.le, rfl⟩
  · obtain ⟨-, rfl, rfl⟩ := Decoded.finite.inj h
    exact ⟨by omega, rfl⟩

/-- No finite value of any format exceeds 2^128: a significand of so many bits and an exponent that leaves it below
(Table 1.1, R29). -/
theorem decode_finite_bounds {f : Format} {x : Nat} {s : Bool} {m : Nat} {e : Int} (h : decode f x = .finite s m e) :
    m ≤ 2 ^ significandBits f ∧ e + significandBits f ≤ 128 := by
  cases f
  case int32 | int8 =>
    obtain ⟨hm, rfl⟩ := decode_int_finite rfl h
    exact ⟨hm, by decide⟩
  all_goals
    obtain ⟨b, hb, htop, hm, he⟩ := decode_float_finite rfl h
    simp [fp, significandBits] at hb htop hm he ⊢
    omega

theorem abs_stepsOf_decode_le (f : Format) (x : Nat) : |stepsOf (decode f x)| ≤ 2 ^ 277 := by
  cases h : decode f x with
  | finite s m e =>
    obtain ⟨hm, he⟩ := decode_finite_bounds h
    have hb : significandBits f ≤ 277 := by cases f <;> decide
    have hv : m * 2 ^ (e + 149).toNat ≤ 2 ^ 277 := calc
      m * 2 ^ (e + 149).toNat ≤ 2 ^ significandBits f * 2 ^ (277 - significandBits f) :=
        Nat.mul_le_mul hm (Nat.pow_le_pow_right (by decide) (by omega))
      _ = 2 ^ 277 := by rw [← pow_add, Nat.add_sub_cancel' hb]
    have ha : |stepsOf (.finite s m e)| = ((m * 2 ^ (e + 149).toNat : Nat) : Int) := by
      cases s <;> simp [stepsOf, abs_mul]
    rw [ha]
    exact_mod_cast hv
  | _ => exact abs_zero.trans_le (by positivity)

/-- 512 contributions stay within 2^286. -/
theorem abs_sum_stepsOf_le (f : Format) {xs : List Nat} (h : xs.length ≤ 512) :
    |(xs.map fun x => stepsOf (decode f x)).sum| ≤ 2 ^ 286 := by
  have each : ∀ v ∈ xs.map fun x => stepsOf (decode f x), -2 ^ 277 ≤ v ∧ v ≤ 2 ^ 277 := by
    intro v hv
    obtain ⟨x, -, rfl⟩ := List.mem_map.mp hv
    exact abs_le.mp (abs_stepsOf_decode_le f x)
  have low := List.card_nsmul_le_sum _ _ fun v hv => (each v hv).1
  have high := List.sum_le_card_nsmul _ _ fun v hv => (each v hv).2
  simp only [List.length_map, nsmul_eq_mul] at low high
  exact abs_le.mpr ⟨by omega, by omega⟩

/-- Settles O22: modulo 2^320 the register holds the sum of the values, and that sum is far inside the signed range. -/
theorem longRegisterIsExact : Obligations.LongRegisterIsExact := by
  intro f i xs hlen _
  obtain ⟨low, high⟩ := abs_le.mp (abs_sum_stepsOf_le f hlen)
  show (xs.foldl (fun r x => accumulate f x r) { index := i }).acc.toInt = (xs.map fun x => stepsOf (decode f x)).sum
  rw [foldl_accumulate_acc]
  show (0#320 + _).toInt = _
  rw [BitVec.zero_add, BitVec.toInt_ofInt_eq_self (by decide) (by omega) (by omega)]

end Sys2Proof.Machine
end

section
/-! Any order of arrival (R18, R24, R46): contributions of different ranks commute in all that a result reads. -/

namespace Sys2Proof.Machine

theorem put_cons_of_lt {α : Type} {n k : Nat} (h : n < k) (v w : α) (rest : List (Nat × α)) :
    put n v ((k, w) :: rest) = (n, v) :: (k, w) :: rest := by
  simp [put, h]

theorem put_cons_self {α : Type} (n : Nat) (v w : α) (rest : List (Nat × α)) :
    put n v ((n, w) :: rest) = (n, v) :: rest := by
  simp [put]

theorem put_cons_of_gt {α : Type} {n k : Nat} (h : k < n) (v w : α) (rest : List (Nat × α)) :
    put n v ((k, w) :: rest) = (k, w) :: put n v rest := by
  simp [put, h.ne', Nat.lt_asymm h]

theorem put_comm_of_lt {α : Type} {j k : Nat} (h : j < k) (v w : α) (m : List (Nat × α)) :
    put j v (put k w m) = put k w (put j v m) := by
  induction m with
  | nil => simp only [put, h, Nat.lt_asymm h, h.ne', if_true, if_false]
  | cons a rest ih =>
    obtain ⟨i, u⟩ := a
    rcases lt_trichotomy i j with l | rfl | l
    · simp (disch := omega) only [put_cons_of_gt, ih]
    · simp (disch := omega) only [put_cons_of_gt, put_cons_self]
    · rcases lt_trichotomy i k with g | rfl | g
      · simp (disch := omega) only [put_cons_of_lt, put_cons_of_gt]
      · simp (disch := omega) only [put_cons_of_lt, put_cons_self, put_cons_of_gt]
      · simp (disch := omega) only [put_cons_of_lt, put_cons_of_gt]

/-- Two keys can be set in either order, whether or not the list ascends. -/
theorem put_comm {α : Type} {j k : Nat} (h : j ≠ k) (v w : α) (m : List (Nat × α)) :
    put j v (put k w m) = put k w (put j v m) := by
  rcases Nat.lt_or_gt_of_ne h with l | l
  · exact put_comm_of_lt l v w m
  · exact (put_comm_of_lt l w v m).symm

/-- A register without its presence bits, which say who has contributed and not what (R554). -/
def unmarked (r : LongRegister) : LongRegister := { r with present := [] }

theorem registerResult_unmarked (op : ReduceOp) (canon : Bool) (fi fo : Format) (n : Nat) (r : LongRegister) :
    registerResult op canon fi fo n (unmarked r) = registerResult op canon fi fo n r := rfl

/-- A rank's contribution to a register whose presence bits are left out. -/
def contributeUnmarked (op : ReduceOp) (canon : Bool) (fi : Format) (r : LongRegister) (x : Nat × Nat) :
    LongRegister :=
  if buffers op canon then { r with buffer := put x.1 x.2 r.buffer } else accumulate fi x.2 r

theorem unmarked_contribute (op : ReduceOp) (canon : Bool) (fi : Format) (r : LongRegister) (x : Nat × Nat) :
    contributeUnmarked op canon fi (unmarked r) x = unmarked (contribute op canon fi x.1 x.2 r) := by
  unfold contributeUnmarked contribute
  split
  · rfl
  · simp only [accumulate_eq, unmarked]

theorem contributeUnmarked_comm (op : ReduceOp) (canon : Bool) (fi : Format) {x y : Nat × Nat} (h : x.1 ≠ y.1)
    (r : LongRegister) :
    contributeUnmarked op canon fi (contributeUnmarked op canon fi r x) y =
      contributeUnmarked op canon fi (contributeUnmarked op canon fi r y) x := by
  unfold contributeUnmarked
  split
  · simp only [put_comm h]
  · exact accumulate_comm ..

/-- Settles O21: the presence bits are the only trace of the order, and contributions of different ranks commute once
these are left out. -/
theorem reductionIgnoresArrivalOrder : Obligations.ReductionIgnoresArrivalOrder := by
  intro op canon fi fo n i cs ds hperm hranks
  have unmark (xs : List (Nat × Nat)) := List.foldl_hom unmarked (l := xs) (init := { index := i })
    (fun r x => unmarked_contribute op canon fi r x)
  show registerResult .. = registerResult ..
  rw [← registerResult_unmarked, ← registerResult_unmarked (r := ds.foldl ..), ← unmark, ← unmark]
  congr 1
  refine hperm.foldl_eq' (fun x hx y hy r => ?_) _
  by_cases h : x = y
  · rw [h]
  · exact contributeUnmarked_comm op canon fi (fun e => h (List.inj_on_of_nodup_map hranks hx hy e)) r

end Sys2Proof.Machine
end

section
/-! TRAY_STATE, MODE_SET and LATCH_WRITE (Table 6.12, R62, R194, R212, R369, R760). -/

namespace Sys2Proof.Machine

/-! ### What MODE_SET answers (R61, R62) -/

/-- The mode that a MODE_SET body names. -/
def namedMode (p : Packet) : Mode := if field p.body 0 1 = 0 then .ledger else .openMode

/-- What stands in the way of a change of mode (R62, R384). -/
def openWork (s : State) : Nat :=
  s.reduction.collectives.length + (s.journal.replays.filter fun r => r.state = 0).length + bit (openFollows s)

section
variable {p : Packet} {s : State}

theorem modeSetRun_phase (h : s.power.phase ≠ .ready) : modeSetRun p s = (s, refusePhase s) := by
  simp [modeSetRun, h]

theorem modeSetRun_ledgerRefusal {r : Nat} (h : s.power.phase = .ready) (hm : namedMode p = .ledger)
    (hr : ledgerRefusal s = some r) : modeSetRun p s = (s, refuse stPrecond r 0) := by
  unfold namedMode at hm
  simp [modeSetRun, h, hm, hr]

/-- Past the phase and the conditions of R61, only what is in flight refuses. -/
theorem modeSetRun_permitted (h : s.power.phase = .ready) (hl : namedMode p = .ledger → ledgerRefusal s = none) :
    modeSetRun p s = if openWork s ≠ 0 then (s, refuse stBusy rInFlight (sat 16 (openWork s)))
      else (changeMode (namedMode p) p.originator (advance 1 s), ok (le 8 (tallyNat s + 1))) := by
  have noRefusal : (if namedMode p = .ledger then ledgerRefusal s else none) = none := by
    split
    · next hm => exact hl hm
    · rfl
  unfold namedMode at noRefusal
  simp only [modeSetRun, h, noRefusal, ne_eq, not_true_eq_false, if_false]
  rfl

/-! ### What LATCH_WRITE answers (R212, R369) -/

/-- The group's value after a LATCH_WRITE: the bits of the mask from the command, the others as they were. -/
def writtenValue (p : Packet) (s : State) : Nat :=
  (latchValue (field p.body 0 1) s.power.latches &&& (2 ^ 64 - 1 - field p.body 8 8)) |||
    (field p.body 16 8 &&& field p.body 8 8)

/-- The state once the changed bits have had their effect and the latches hold the group's new value. -/
def latchesWritten (p : Packet) (s : State) : State :=
  let g := field p.body 0 1
  let new := writtenValue p s
  setLatches (fun _ => withGroup g new s.power.latches)
    (forEach ((List.range 36).filter fun i => (latchValue g s.power.latches).testBit i != new.testBit i)
      (fun i u => latchBit g i (new.testBit i) u) s)

/-- Whatever follows from the bits that change, only the group's latches change (R369). -/
theorem latchesWritten_latches :
    (latchesWritten p s).power.latches = withGroup (field p.body 0 1) (writtenValue p s) s.power.latches := rfl

/-- The factory boot source is refused in Ledger mode (R212), and so are both Eaves' resets at once; any other write is
done. -/
theorem latchWriteRun_eq : latchWriteRun p s =
    if field p.body 0 1 = 6 ∧ writtenValue p s = 3 ∧ isLedger s = true then (s, refuse stPrecond rMode 0)
    else if field p.body 0 1 = 0 ∧ writtenValue p s = 0 then (s, refuse stPrecond rBothEaves 0)
    else (settleFlow (latchesWritten p s),
      ok (le 8 (latchValue (field p.body 0 1) (withGroup (field p.body 0 1) (writtenValue p s) s.power.latches)))) := by
  simp only [latchWriteRun, Bool.and_eq_true, decide_eq_true_eq, and_assoc]
  rfl
end

/-- Settles O46: each answer is a branch of the command's own meaning, concluded as an accepted command is. -/
theorem trayCommands : Obligations.TrayCommands := by
  refine ⟨?trayState, ?modeSet, ?latchWrite⟩
  case trayState =>
    intro p s h
    exact completes_of_run rfl rfl h rfl rfl fun _ => rfl
  case modeSet =>
    intro p s h c b m n
    refine ⟨fun hphase => ?_, fun r hready hm hr => ?_, fun hready hl => ⟨fun hn => ?_, fun hn => ?_⟩⟩
    · exact refuses_of_run rfl rfl h (modeSetRun_phase hphase) rfl
    · exact refuses_of_run rfl rfl h (modeSetRun_ledgerRefusal hready hm hr) rfl
    · exact refuses_of_run rfl rfl h ((modeSetRun_permitted hready hl).trans (if_pos hn)) rfl
    · exact completes_of_run rfl rfl h ((modeSetRun_permitted hready hl).trans (if_neg (not_not.mpr hn))) rfl
        fun _ => rfl
  case latchWrite =>
    intro p s h c b g old mask new
    refine ⟨fun hg hv hl => ?_, fun hg hv => ?_, fun hboot heaves => ⟨latchesWritten_latches, ?_⟩⟩
    · exact refuses_of_run rfl rfl h (latchWriteRun_eq.trans (if_pos ⟨hg, hv, hl⟩)) rfl
    · have hboot : ¬(g = 6 ∧ new = 3 ∧ isLedger b = true) := fun hb => by simp [hg] at hb
      exact refuses_of_run rfl rfl h (latchWriteRun_eq.trans ((if_neg hboot).trans (if_pos ⟨hg, hv⟩))) rfl
    · exact completes_of_run rfl rfl h (latchWriteRun_eq.trans ((if_neg hboot).trans (if_neg heaves))) rfl fun _ => rfl

end Sys2Proof.Machine
end

section
/-! What no step changes (R78): the identity that the wafer descriptor and the factory fixed, and the queue behind the
command; the shared operations leave both. -/

namespace Sys2Proof.Machine

/-- What every command leaves as it is: the tray's identity, and the queue of commands that wait. -/
def fixed (s : State) : Identity × List Instr := (s.ident, s.pending)

/-- The pair of the two fields, folded again after an update of others has been seen through. -/
@[simp] theorem fixed_fold (s : State) : (s.ident, s.pending) = fixed s := (rfl)

@[simp] theorem fixed_mk (ident mode params plan planLoaded power batten tally counters ports sites switch reduction
    loft journal freezeUnit referee coping firmware patrol invCycles invHours invAt out now freeCount pending) :
    fixed ⟨ident, mode, params, plan, planLoaded, power, batten, tally, counters, ports, sites, switch, reduction, loft,
      journal, freezeUnit, referee, coping, firmware, patrol, invCycles, invHours, invAt, out, now, freeCount,
      pending⟩ = (ident, pending) := (rfl)

@[simp] theorem fixed_ite (c : Prop) [Decidable c] (s t : State) :
    fixed (if c then s else t) = if c then fixed s else fixed t := apply_ite fixed c s t

/-- The rules below that hold by definition are proved by `(rfl)`, not `rfl`: `simp` cannot discharge the hypothesis of
this rule with rewrites that leave no proof behind. -/
@[simp] theorem fixed_foldl {α : Type} {f : State → α → State} (h : ∀ u x, fixed (f u x) = fixed u) (xs : List α)
    (s : State) :
    fixed (xs.foldl f s) = fixed s := by
  induction xs generalizing s with
  | nil => rfl
  | cons x xs ih => exact (ih _).trans (h s x)

@[simp] theorem fixed_fst_ite {α : Type} (c : Prop) [Decidable c] (a b : State × α) :
    fixed (if c then a else b).1 = if c then fixed a.1 else fixed b.1 := apply_ite (fun x => fixed x.1) c a b

/-- A run of refusals one after another is taken apart branch by branch. -/
theorem fixed_fst_of_ite {α : Type} {c : Prop} [Decidable c] {a b : State × α} {s : State} (ha : fixed a.1 = fixed s)
    (hb : fixed b.1 = fixed s) : fixed (if c then a else b).1 = fixed s := by
  split
  · exact ha
  · exact hb

/-! ### State and shared operations -/

@[simp] theorem fixed_emit (o : Out) (s : State) : fixed (emit o s) = fixed s := (rfl)

@[simp] theorem fixed_bumpFree (s : State) : fixed (bumpFree s) = fixed s := (rfl)

@[simp] theorem fixed_countBy (id n : Nat) (s : State) : fixed (countBy id n s) = fixed s := (rfl)

@[simp] theorem fixed_count (id : Nat) (s : State) : fixed (count id s) = fixed s := (rfl)

@[simp] theorem fixed_uncount (id : Nat) (s : State) : fixed (uncount id s) = fixed s := (rfl)

@[simp] theorem fixed_clearCounters (which : Nat → Bool) (s : State) : fixed (clearCounters which s) = fixed s := (rfl)

@[simp] theorem fixed_setPort (p : Nat) (f : Port → Port) (s : State) : fixed (setPort p f s) = fixed s := (rfl)

@[simp] theorem fixed_setSite (n : Nat) (f : Site → Site) (s : State) : fixed (setSite n f s) = fixed s := (rfl)

@[simp] theorem fixed_portTo (p : Nat) (st : PortState) (cause : Nat) (s : State) :
    fixed (portTo p st cause s) = fixed s := (rfl)

@[simp] theorem fixed_setPhase (ph : Phase) (cause : Nat) (s : State) : fixed (setPhase ph cause s) = fixed s := (rfl)

@[simp] theorem fixed_setCause (cause : Nat) (s : State) : fixed (setCause cause s) = fixed s := (rfl)

@[simp] theorem fixed_accrue (s : State) : fixed (accrue s) = fixed s := (rfl)

@[simp] theorem fixed_setLatches (f : Latches → Latches) (s : State) : fixed (setLatches f s) = fixed s := (rfl)

@[simp] theorem fixed_setEave (e : Eave) (f : EaveUnit → EaveUnit) (s : State) : fixed (setEave e f s) = fixed s := by
  unfold setEave
  split <;> simp

@[simp] theorem fixed_setBank (n : Nat) (f : Bank → Bank) (s : State) : fixed (setBank n f s) = fixed s := by
  simp [setBank]

@[simp] theorem fixed_trigger (code collective classes : Nat) (s : State) :
    fixed (trigger code collective classes s) = fixed s := by simp [trigger]

@[simp] theorem fixed_errorClass (cls : Nat) (s : State) : fixed (errorClass cls s) = fixed s := by simp [errorClass]

@[simp] theorem fixed_matchTrigger (collective event : Nat) (s : State) :
    fixed (matchTrigger collective event s) = fixed s := by simp [matchTrigger]

@[simp] theorem fixed_forEach {f : Nat → State → State} (h : ∀ n u, fixed (f n u) = fixed u) (xs : List Nat)
    (s : State) :
    fixed (forEach xs f s) = fixed s := fixed_foldl (fun u n => h n u) xs s

@[simp] theorem fixed_setParam (id v : Nat) (s : State) : fixed (setParam id v s) = fixed s := by
  unfold setParam
  split <;> simp

@[simp] theorem fixed_rampRefill (k : Nat) (s : State) : fixed (rampRefill k s) = fixed s := by simp [rampRefill]

@[simp] theorem fixed_advance (k : Nat) (s : State) : fixed (advance k s) = fixed s := by simp [advance]

@[simp] theorem fixed_advanceTo (t : Nat) (s : State) : fixed (advanceTo t s) = fixed s := by simp [advanceTo]

/-! ### Records -/

@[simp] theorem fixed_noteNumber (body : RecordBody) (n : Nat) (s : State) : fixed (noteNumber body n s) = fixed s := by
  unfold noteNumber
  split <;> simp

@[simp] theorem fixed_buildRecord (body : RecordBody) (builder extra : Nat) (s : State) :
    fixed (buildRecord body builder extra s) = fixed s := by simp [buildRecord]

@[simp] theorem fixed_countUnjournalled (s : State) : fixed (countUnjournalled s) = fixed s := (rfl)

@[simp] theorem fixed_countHeld (s : State) : fixed (countHeld s) = fixed s := by simp [countHeld]

@[simp] theorem fixed_journalWith (body : RecordBody) (builder extra : Nat) (s : State) :
    fixed (journalWith body builder extra s) = fixed s := by simp [journalWith]

@[simp] theorem fixed_journalWafer (body : RecordBody) (s : State) : fixed (journalWafer body s) = fixed s := by
  simp [journalWafer]

@[simp] theorem fixed_journalCommand (p : Packet) (body : RecordBody) (s : State) :
    fixed (journalCommand p body s) = fixed s := by simp [journalCommand]

@[simp] theorem fixed_journalEave (body : RecordBody) (s : State) : fixed (journalEave body s) = fixed s := by
  simp [journalEave]

@[simp] theorem fixed_journalFinial (body : RecordBody) (s : State) : fixed (journalFinial body s) = fixed s := by
  simp [journalFinial]

@[simp] theorem fixed_flushNotes (s : State) : fixed (flushNotes s) = fixed s := by simp [flushNotes]

@[simp] theorem fixed_settleBuilding (s : State) : fixed (settleBuilding s) = fixed s := by simp [settleBuilding]

@[simp] theorem fixed_journalBank (n : Nat) (old new : BankState) (s : State) :
    fixed (journalBank n old new s) = fixed s := by simp [journalBank]

@[simp] theorem fixed_tallyTo (st : TallyState) (cause : Nat) (s : State) : fixed (tallyTo st cause s) = fixed s := by
  simp [tallyTo]

@[simp] theorem fixed_journalFwset (reason builder : Nat) (s : State) :
    fixed (journalFwset reason builder s) = fixed s := by simp [journalFwset]

@[simp] theorem fixed_refreshTested (s : State) : fixed (refreshTested s) = fixed s := (rfl)

/-! ### Frames, credits and shingles -/

@[simp] theorem fixed_returnCredits (p cls k : Nat) (s : State) : fixed (returnCredits p cls k s) = fixed s := by
  simp [returnCredits]

@[simp] theorem fixed_sendCredit (p : Nat) (s : State) : fixed (sendCredit p s) = fixed s := (rfl)

@[simp] theorem fixed_takeShingles (n k : Nat) (s : State) : fixed (takeShingles n k s) = fixed s := (rfl)

@[simp] theorem fixed_freeShingles (n k : Nat) (s : State) : fixed (freeShingles n k s) = fixed s := (rfl)

@[simp] theorem fixed_flyShingles (n k : Nat) (s : State) : fixed (flyShingles n k s) = fixed s := (rfl)

@[simp] theorem fixed_landShingles (n k : Nat) (s : State) : fixed (landShingles n k s) = fixed s := (rfl)

@[simp] theorem fixed_holdShingles (n k : Nat) (s : State) : fixed (holdShingles n k s) = fixed s := (rfl)

@[simp] theorem fixed_releaseShingles (n k : Nat) (s : State) : fixed (releaseShingles n k s) = fixed s := (rfl)

@[simp] theorem fixed_freshStore (n : Nat) (s : State) : fixed (freshStore n s) = fixed s := (rfl)

@[simp] theorem fixed_enqueue (f : QFrame) (s : State) : fixed (enqueue f s) = fixed s := (rfl)

@[simp] theorem fixed_takeOut (f : QFrame) (s : State) : fixed (takeOut f s) = fixed s := by
  unfold takeOut
  split <;> simp

@[simp] theorem fixed_unqueue (f : QFrame) (s : State) : fixed (unqueue f s) = fixed s := by simp [unqueue]

@[simp] theorem fixed_gutter (n input output cls : Nat) (s : State) :
    fixed (gutter n input output cls s) = fixed s := by
  simp [gutter]

@[simp] theorem fixed_sever (input output cls cause endpoint tag n : Nat) (s : State) :
    fixed (sever input output cls cause endpoint tag n s) = fixed s := by simp [sever]

@[simp] theorem fixed_discardArrival (n input output cls cause endpoint tag k : Nat) (s : State) :
    fixed (discardArrival n input output cls cause endpoint tag k s) = fixed s := by simp [discardArrival]

@[simp] theorem fixed_flushOne (cause : Nat) (f : QFrame) (s : State) : fixed (flushOne cause f s) = fixed s := by
  unfold flushOne
  split <;> simp

@[simp] theorem fixed_severAll (cause : Nat) (fs : List QFrame) (s : State) : fixed (severAll cause fs s) = fixed s :=
  fixed_foldl (fun t x => by dsimp only; split <;> simp) _ s

@[simp] theorem fixed_landFrame (f : QFrame) (s : State) : fixed (landFrame f s) = fixed s := by simp [landFrame]

@[simp] theorem fixed_landPort (p : Nat) (s : State) : fixed (landPort p s) = fixed s := by
  unfold landPort
  split <;> simp

@[simp] theorem fixed_landAll (s : State) : fixed (landAll s) = fixed s := by simp [landAll]

@[simp] theorem fixed_cutOne (f : QFrame) (s : State) : fixed (cutOne f s) = fixed s := by
  unfold cutOne
  split <;> simp

@[simp] theorem fixed_flush (which : QFrame → Bool) (cut : List QFrame) (mode cause p : Nat) (s : State) :
    fixed (flush which cut mode cause p s) = fixed s := by simp [flush]

@[simp] theorem fixed_sendTray (f : QFrame) (s : State) : fixed (sendTray f s) = fixed s := by simp [sendTray]

@[simp] theorem fixed_dormerCopy (n p at_ : Nat) (egress : Bool) (h : FrameHeader) (payload : List Byte) (s : State) :
    fixed (dormerCopy n p at_ egress h payload s) = fixed s := by simp [dormerCopy]

@[simp] theorem fixed_dormers (p : Nat) (egress : Bool) (h : FrameHeader) (payload : List Byte) (s : State) :
    fixed (dormers p egress h payload s) = fixed s := by simp [dormers]

@[simp] theorem fixed_skylightSample (p at_ : Nat) (h : FrameHeader) (payload : List Byte) (s : State) :
    fixed (skylightSample p at_ h payload s) = fixed s := by simp [skylightSample]

@[simp] theorem fixed_skylight (p : Nat) (h : FrameHeader) (payload : List Byte) (s : State) :
    fixed (skylight p h payload s) = fixed s := by simp [skylight]

@[simp] theorem fixed_useCredits (p cls k : Nat) (s : State) : fixed (useCredits p cls k s) = fixed s := by
  simp [useCredits]

@[simp] theorem fixed_discardFrame (p code cls k : Nat) (s : State) :
    fixed (discardFrame p code cls k s) = fixed s := by
  simp [discardFrame]

@[simp] theorem fixed_admitFrame (p : Nat) (f : RxFrame) (s : State) : fixed (admitFrame p f s) = fixed s := by
  simp [admitFrame]

@[simp] theorem fixed_stompCut (p out : Nat) (s : State) : fixed (stompCut p out s) = fixed s := by
  simp only [stompCut]
  repeat' split
  all_goals simp

@[simp] theorem fixed_dropOpen (p : Nat) (o : OpenFrame) (s : State) : fixed (dropOpen p o s) = fixed s := by
  unfold dropOpen
  repeat' split
  all_goals simp

@[simp] theorem fixed_discardOpen (p : Nat) (s : State) : fixed (discardOpen p s) = fixed s := by
  unfold discardOpen
  split <;> simp

@[simp] theorem fixed_discardParked (p : Nat) (s : State) : fixed (discardParked p s) = fixed s := by
  unfold discardParked
  split <;> simp

@[simp] theorem fixed_dropReception (p : Nat) (s : State) : fixed (dropReception p s) = fixed s := by
  simp [dropReception]

/-! ### Replies and operations in progress -/

@[simp] theorem fixed_setWindow (o : Nat) (w : Window) (s : State) : fixed (setWindow o w s) = fixed s := (rfl)

@[simp] theorem fixed_keep (o seq : Nat) (r : Reply) (final : Bool) (s : State) :
    fixed (keep o seq r final s) = fixed s := by
  unfold keep
  split <;> simp

@[simp] theorem fixed_markExecuted (o q : Nat) (d : Digest) (path : Path) (s : State) :
    fixed (markExecuted o q d path s) = fixed s := (rfl)

@[simp] theorem fixed_originate (path : Path) (o opcode unit inst : Nat) (body : List Byte) (s : State) :
    fixed (originate path o opcode unit inst body s) = fixed s := (rfl)

@[simp] theorem fixed_finialSends (opcode unit inst : Nat) (body : List Byte) (s : State) :
    fixed (finialSends opcode unit inst body s) = fixed s := (rfl)

@[simp] theorem fixed_ridgeSends (opcode unit inst : Nat) (body : List Byte) (s : State) :
    fixed (ridgeSends opcode unit inst body s) = fixed s := by simp [ridgeSends]

@[simp] theorem fixed_byLatchWrites {send : List Byte → State → State} {act : State → State}
    (hsend : ∀ b u, fixed (send b u) = fixed u) (hact : ∀ u, fixed (act u) = fixed u) (s : State) :
    fixed (byLatchWrites send act s) = fixed s := by
  simp [byLatchWrites, hsend, hact]

@[simp] theorem fixed_byFinial {act : State → State} (h : ∀ u, fixed (act u) = fixed u) (s : State) :
    fixed (byFinial act s) = fixed s := by
  simp [byFinial, h]

@[simp] theorem fixed_byEaves {act : State → State} (h : ∀ u, fixed (act u) = fixed u) (s : State) :
    fixed (byEaves act s) = fixed s := by
  simp [byEaves, h]

@[simp] theorem fixed_sendReply (path : Path) (r : Reply) (s : State) : fixed (sendReply path r s) = fixed s := by
  cases path <;> simp [sendReply]

@[simp] theorem fixed_answerIn (o : Nat) (p : Packet) (opcode : Nat) (a : Ans) (s : State) :
    fixed (answerIn o p opcode a s) = fixed s := by
  unfold answerIn
  repeat' split
  all_goals simp

@[simp] theorem fixed_answer (p : Packet) (opcode : Nat) (a : Ans) (s : State) :
    fixed (answer p opcode a s) = fixed s := by simp [answer]

@[simp] theorem fixed_answerUnrecorded (p : Packet) (opcode status reason arg : Nat) (s : State) :
    fixed (answerUnrecorded p opcode status reason arg s) = fixed s := by simp [answerUnrecorded]

@[simp] theorem fixed_startOp (kind : OpKind) (p : Packet) (opcode : Nat) (s : State) :
    fixed (startOp kind p opcode s) = fixed s := (rfl)

@[simp] theorem fixed_finishOp (op : Op) (status reason arg : Nat) (payload : List Byte) (s : State) :
    fixed (finishOp op status reason arg payload s) = fixed s := by simp [finishOp]

@[simp] theorem fixed_finishAll (kind : OpKind → Bool) (status reason arg : Nat) (payload : List Byte) (s : State) :
    fixed (finishAll kind status reason arg payload s) = fixed s := by simp [finishAll]

@[simp] theorem fixed_finishFirst (kind : OpKind → Bool) (status reason arg : Nat) (payload others : List Byte)
    (s : State) :
    fixed (finishFirst kind status reason arg payload others s) = fixed s := by
  unfold finishFirst
  split <;> simp

@[simp] theorem fixed_endSession (o : U32) (s : State) : fixed (endSession o s) = fixed s := (rfl)

@[simp] theorem fixed_hearBefore (n : Nat) (s : State) : fixed (hearBefore n s) = fixed s := (rfl)

@[simp] theorem fixed_postEvent (kind channel : Nat) (s : State) : fixed (postEvent kind channel s) = fixed s := (rfl)

end Sys2Proof.Machine
end

section
/-! What no step changes, in the fabric: reduction, ports, slates, Loft, journal and switch core. -/

namespace Sys2Proof.Machine

/-! ### Collectives and results -/

@[simp] theorem fixed_storeCollective (c : Collective) (s : State) : fixed (storeCollective c s) = fixed s := (rfl)

@[simp] theorem fixed_journalCollective (c : Collective) (s : State) : fixed (journalCollective c s) = fixed s := by
  simp [journalCollective]

@[simp] theorem fixed_retire (c : Collective) (s : State) : fixed (retire c s) = fixed s := (rfl)

@[simp] theorem fixed_settleReeds (s : State) : fixed (settleReeds s) = fixed s := by simp [settleReeds]

@[simp] theorem fixed_settleLending (s : State) : fixed (settleLending s) = fixed s := by simp [settleLending]

@[simp] theorem fixed_engineWork (n e bytes : Nat) (s : State) : fixed (engineWork n e bytes s) = fixed s := (rfl)

@[simp] theorem fixed_abortCollective (id cause reason arg : Nat) (s : State) :
    fixed (abortCollective id cause reason arg s) = fixed s := by
  unfold abortCollective
  split <;> simp

@[simp] theorem fixed_abortWhere (which : Collective → Bool) (cause reason arg : Nat) (s : State) :
    fixed (abortWhere which cause reason arg s) = fixed s := by simp [abortWhere]

@[simp] theorem fixed_sendTile (c : Collective) (t : Nat) (s : State) : fixed (sendTile c t s) = fixed s := by
  simp [sendTile]

@[simp] theorem fixed_sendRetire (c : Collective) (t : Nat) (s : State) : fixed (sendRetire c t s) = fixed s := by
  simp [sendRetire]

@[simp] theorem fixed_finishRelease (c : Collective) (s : State) : fixed (finishRelease c s) = fixed s := by
  simp [finishRelease]

@[simp] theorem fixed_settleCollective (id : Nat) (s : State) : fixed (settleCollective id s) = fixed s := by
  unfold settleCollective
  split <;> simp

@[simp] theorem fixed_settleResults (s : State) : fixed (settleResults s) = fixed s := by simp [settleResults]

@[simp] theorem fixed_releaseHeld (id : Nat) (s : State) : fixed (releaseHeld id s) = fixed s := by
  unfold releaseHeld
  split <;> simp

@[simp] theorem fixed_joinRamp (id : Nat) (s : State) : fixed (joinRamp id s) = fixed s := (rfl)

@[simp] theorem fixed_allTilesDone (c : Collective) (t : Nat) (s : State) : fixed (allTilesDone c t s) = fixed s := by
  simp [allTilesDone]

@[simp] theorem fixed_completeTile (id t : Nat) (s : State) : fixed (completeTile id t s) = fixed s := by
  unfold completeTile
  split <;> simp

@[simp] theorem fixed_intake (c : Collective) (at_ rank : Nat) (h : FrameHeader) (payload : List Byte) (s : State) :
    fixed (intake c at_ rank h payload s) = fixed s := by
  simp only [intake, fixed_ite, fixed_abortCollective, fixed_count]
  rw [fixed_forEach fun t u => by split <;> simp]
  simp

@[simp] theorem fixed_contribTo (c : Collective) (p at_ : Nat) (h : FrameHeader) (payload : List Byte) (s : State) :
    fixed (contribTo c p at_ h payload s) = fixed s := by
  unfold contribTo
  split <;> simp

@[simp] theorem fixed_contribIn (p : Nat) (h : FrameHeader) (payload : List Byte) (s : State) :
    fixed (contribIn p h payload s) = fixed s := by
  simp only [contribIn]
  repeat' split
  all_goals simp

@[simp] theorem fixed_takeEarly (id : Nat) (s : State) : fixed (takeEarly id s) = fixed s :=
  fixed_foldl (fun t e => by split <;> simp) _ _

@[simp] theorem fixed_flushEarlyOne (cause : Nat) (e : EarlyFrame) (s : State) :
    fixed (flushEarlyOne cause e s) = fixed s := by simp [flushEarlyOne]

@[simp] theorem fixed_flushEarly (which : EarlyFrame → Bool) (cause : Nat) (s : State) :
    fixed (flushEarly which cause s) = fixed s := by simp [flushEarly]

@[simp] theorem fixed_takeFlushed (id : Nat) (s : State) : fixed (takeFlushed id s) = fixed s := by
  simp only [takeFlushed]
  repeat' split
  all_goals simp

@[simp] theorem fixed_rampLoop (k : Nat) (s : State) : fixed (rampLoop k s) = fixed s := by
  induction k generalizing s with
  | zero => rfl
  | succ k ih =>
    unfold rampLoop
    split <;> simp [ih]

/-! ### Port states -/

@[simp] theorem fixed_settlePortUp (p : Nat) (s : State) : fixed (settlePortUp p s) = fixed s := by simp [settlePortUp]

@[simp] theorem fixed_adaptFailed (p : Nat) (s : State) : fixed (adaptFailed p s) = fixed s := by simp [adaptFailed]

@[simp] theorem fixed_adaptAborted (p : Nat) (s : State) : fixed (adaptAborted p s) = fixed s := by simp [adaptAborted]

@[simp] theorem fixed_adaptDone (p : Nat) (s : State) : fixed (adaptDone p s) = fixed s := by simp [adaptDone]

@[simp] theorem fixed_flushPort (p mode cause : Nat) (s : State) : fixed (flushPort p mode cause s) = fixed s := by
  simp [flushPort]

@[simp] theorem fixed_portOff (p cause : Nat) (s : State) : fixed (portOff p cause s) = fixed s := (rfl)

@[simp] theorem fixed_portDisabled (p n sv : Nat) (s : State) : fixed (portDisabled p n sv s) = fixed s := by
  simp [portDisabled]

@[simp] theorem fixed_stopPort (p : Nat) (st : PortState) (mode flushCause cause : Nat) (s : State) :
    fixed (stopPort p st mode flushCause cause s) = fixed s := by simp [stopPort]

@[simp] theorem fixed_portFlushed (p mode cause : Nat) (s : State) : fixed (portFlushed p mode cause s) = fixed s := by
  simp [portFlushed]

@[simp] theorem fixed_startTraining (p cause : Nat) (s : State) : fixed (startTraining p cause s) = fixed s := (rfl)

@[simp] theorem fixed_retrain (p cause : Nat) (s : State) : fixed (retrain p cause s) = fixed s := by
  unfold retrain
  split <;> simp

@[simp] theorem fixed_linkLost (p cause : Nat) (s : State) : fixed (linkLost p cause s) = fixed s := by simp [linkLost]

@[simp] theorem fixed_enterUp (p : Nat) (s : State) : fixed (enterUp p s) = fixed s := by simp [enterUp]

@[simp] theorem fixed_enterWaiting (p : Nat) (s : State) : fixed (enterWaiting p s) = fixed s := by
  simp only [enterWaiting]
  repeat' split
  all_goals simp

@[simp] theorem fixed_enterMiswired (p cause : Nat) (s : State) : fixed (enterMiswired p cause s) = fixed s := by
  simp [enterMiswired]

@[simp] theorem fixed_planCheck (p : Nat) (b : IdentityBlock) (s : State) : fixed (planCheck p b s) = fixed s := by
  unfold planCheck
  split <;> simp

@[simp] theorem fixed_enterIdentity (p : Nat) (s : State) : fixed (enterIdentity p s) = fixed s := by
  simp [enterIdentity]

@[simp] theorem fixed_startDrain (p : Nat) (s : State) : fixed (startDrain p s) = fixed s := by simp [startDrain]

@[simp] theorem fixed_holdNoSlate (p : Nat) (s : State) : fixed (holdNoSlate p s) = fixed s := by simp [holdNoSlate]

/-! ### Isolation and re-homing -/

@[simp] theorem fixed_reclaim (t : Option Nat) (s : State) : fixed (reclaim t s) = fixed s := by
  unfold reclaim
  split <;> simp

@[simp] theorem fixed_flushRequest (n : Nat) (r : LoftRequest) (s : State) : fixed (flushRequest n r s) = fixed s := by
  simp [flushRequest]

@[simp] theorem fixed_severRequests (cause : Nat) (rs : List LoftRequest) (s : State) :
    fixed (severRequests cause rs s) = fixed s :=
  fixed_foldl (fun t x => by dsimp only; split <;> simp) _ s

@[simp] theorem fixed_flushLoft (n cause : Nat) (s : State) : fixed (flushLoft n cause s) = fixed s := by
  simp [flushLoft]

@[simp] theorem fixed_flushSlate (n cause : Nat) (s : State) : fixed (flushSlate n cause s) = fixed s := by
  simp [flushSlate]

@[simp] theorem fixed_holdPorts (ps : List Nat) (s : State) : fixed (holdPorts ps s) = fixed s := by simp [holdPorts]

@[simp] theorem fixed_slateRailOff (n : Nat) (s : State) : fixed (slateRailOff n s) = fixed s := (rfl)

@[simp] theorem fixed_leaveRoll (n : Nat) (s : State) : fixed (leaveRoll n s) = fixed s := by simp [leaveRoll]

@[simp] theorem fixed_retarget (n : Nat) (s : State) : fixed (retarget n s) = fixed s := by simp [retarget]

@[simp] theorem fixed_replanTick (s : State) : fixed (replanTick s) = fixed s := by simp [replanTick]

@[simp] theorem fixed_journalIsolation (n cause : Nat) (target : Option Nat) (s : State) :
    fixed (journalIsolation n cause target s) = fixed s := by simp [journalIsolation]

@[simp] theorem fixed_noteSiteFailure (n : Nat) (s : State) : fixed (noteSiteFailure n s) = fixed s := by
  simp [noteSiteFailure]

@[simp] theorem fixed_isolateSite (n cause : Nat) (st : SiteState) (s : State) :
    fixed (isolateSite n cause st s) = fixed s := by simp [isolateSite]

@[simp] theorem fixed_drainSite (n m : Nat) (s : State) : fixed (drainSite n m s) = fixed s := by simp [drainSite]

@[simp] theorem fixed_readvertise (p : Nat) (s : State) : fixed (readvertise p s) = fixed s := by simp [readvertise]

@[simp] theorem fixed_bringUp (m : Nat) (s : State) : fixed (bringUp m s) = fixed s := by simp [bringUp]

@[simp] theorem fixed_applyMap (r : Rehoming) (s : State) : fixed (applyMap r s) = fixed s := by simp [applyMap]

@[simp] theorem fixed_finishRehoming (r : Rehoming) (s : State) : fixed (finishRehoming r s) = fixed s := by
  simp [finishRehoming]

@[simp] theorem fixed_bistOutcome (n : Nat) (r : SlateBist) (s : State) : fixed (bistOutcome n r s) = fixed s := (rfl)

@[simp] theorem fixed_slateRailOn (n : Nat) (s : State) : fixed (slateRailOn n s) = fixed s := (rfl)

@[simp] theorem fixed_slateRelease (n : Nat) (s : State) : fixed (slateRelease n s) = fixed s := (rfl)

/-! ### The Loft -/

@[simp] theorem fixed_storeRegion (r : Region) (s : State) : fixed (storeRegion r s) = fixed s := (rfl)

@[simp] theorem fixed_journalRegion (r : Region) (event kind line : Nat) (s : State) :
    fixed (journalRegion r event kind line s) = fixed s := by simp [journalRegion]

@[simp] theorem fixed_poisonDecisions (h : Nat) (s : State) : fixed (poisonDecisions h s) = fixed s := (rfl)

@[simp] theorem fixed_seePoison (h : Nat) (s : State) : fixed (seePoison h s) = fixed s := by
  unfold seePoison
  split <;> simp

@[simp] theorem fixed_poisonLine (line : Nat) (s : State) : fixed (poisonLine line s) = fixed s := by
  simp only [poisonLine]
  repeat' split
  all_goals simp

@[simp] theorem fixed_respond (p block : Nat) (write : Bool) (h : FrameHeader) (data : List Byte) (poison : Bool)
    (s : State) :
    fixed (respond p block write h data poison s) = fixed s := by simp [respond]

@[simp] theorem fixed_answerPoison (r : LoftRequest) (s : State) : fixed (answerPoison r s) = fixed s := by
  simp [answerPoison]

@[simp] theorem fixed_loftAccept (r : LoftRequest) (s : State) : fixed (loftAccept r s) = fixed s := by
  unfold loftAccept
  split <;> simp

@[simp] theorem fixed_loftIn (write : Bool) (p : Nat) (h : FrameHeader) (payload : List Byte) (s : State) :
    fixed (loftIn write p h payload s) = fixed s := by simp [loftIn]

@[simp] theorem fixed_pumpLoft (block k : Nat) (s : State) : fixed (pumpLoft block k s) = fixed s := by
  induction k generalizing s with
  | zero => rfl
  | succ k ih =>
    unfold pumpLoft
    split <;> simp [ih]

@[simp] theorem fixed_pumpAll (s : State) : fixed (pumpAll s) = fixed s := by simp [pumpAll]

@[simp] theorem fixed_finishRead (r : LoftRequest) (s : State) : fixed (finishRead r s) = fixed s := by
  simp [finishRead]

@[simp] theorem fixed_finishWrite (r : LoftRequest) (s : State) : fixed (finishWrite r s) = fixed s := by
  simp [finishWrite]

@[simp] theorem fixed_answerRefused (kept rs : List LoftRequest) (s : State) :
    fixed (answerRefused kept rs s) = fixed s := by
  induction rs generalizing kept s with
  | nil => rfl
  | cons r rest ih => simp [answerRefused, ih]

@[simp] theorem fixed_accessDone (block : Nat) (ecc : EccResult) (s : State) :
    fixed (accessDone block ecc s) = fixed s := by
  unfold accessDone
  repeat' split
  all_goals simp

@[simp] theorem fixed_clearRange (base size : Nat) (s : State) : fixed (clearRange base size s) = fixed s := (rfl)

@[simp] theorem fixed_forceDecisions (h : Nat) (s : State) : fixed (forceDecisions h s) = fixed s :=
  fixed_foldl (fun t d => by dsimp only; split <;> simp) _ s

@[simp] theorem fixed_endReplay (id state : Nat) (s : State) : fixed (endReplay id state s) = fixed s := by
  unfold endReplay
  split <;> simp

@[simp] theorem fixed_stopReplays (h : Nat) (s : State) : fixed (stopReplays h s) = fixed s := by simp [stopReplays]

@[simp] theorem fixed_freeRegion (r : Region) (force : Bool) (s : State) : fixed (freeRegion r force s) = fixed s := by
  simp [freeRegion]

@[simp] theorem fixed_loftRailLost (s : State) : fixed (loftRailLost s) = fixed s := by simp [loftRailLost]

@[simp] theorem fixed_loftCartLost (n : Nat) (s : State) : fixed (loftCartLost n s) = fixed s := by simp [loftCartLost]

@[simp] theorem fixed_regionAllocRun (p : Packet) (s : State) : fixed (regionAllocRun p s).1 = fixed s := by
  simp only [regionAllocRun]
  repeat' split
  all_goals simp

@[simp] theorem fixed_regionInfoRun (p : Packet) (s : State) : fixed (regionInfoRun p s).1 = fixed s := by
  unfold regionInfoRun
  split <;> simp

@[simp] theorem fixed_regionListRun (p : Packet) (s : State) : fixed (regionListRun p s).1 = fixed s := (rfl)

@[simp] theorem fixed_regionFindRun (p : Packet) (s : State) : fixed (regionFindRun p s).1 = fixed s := by
  simp only [regionFindRun]
  repeat' split
  all_goals simp

@[simp] theorem fixed_regionSealRun (p : Packet) (s : State) : fixed (regionSealRun p s).1 = fixed s := by
  unfold regionSealRun
  split <;> simp

@[simp] theorem fixed_regionFreeRun (p : Packet) (s : State) : fixed (regionFreeRun p s).1 = fixed s := by
  unfold regionFreeRun
  split <;> simp

/-! ### Groups, decisions, reeds and engines -/

@[simp] theorem fixed_journalChain (builder : Nat) (bs : List RecordBody) (s : State) :
    fixed (journalChain builder bs s) = fixed s := by
  induction bs generalizing s with
  | nil => rfl
  | cons b rest ih => cases rest <;> simp [journalChain, ih]

@[simp] theorem fixed_groupDefineRun (p : Packet) (s : State) : fixed (groupDefineRun p s).1 = fixed s := by
  simp only [groupDefineRun]
  repeat' split
  all_goals simp

@[simp] theorem fixed_groupDeleteRun (p : Packet) (s : State) : fixed (groupDeleteRun p s).1 = fixed s := by
  simp only [groupDeleteRun]
  repeat' split
  all_goals simp

@[simp] theorem fixed_collectiveOpenRun (p : Packet) (s : State) : fixed (collectiveOpenRun p s).1 = fixed s := by
  simp only [collectiveOpenRun]
  repeat' split
  all_goals simp

@[simp] theorem fixed_collectiveOpenAfter (p : Packet) (s : State) : fixed (collectiveOpenAfter p s) = fixed s := by
  simp [collectiveOpenAfter]

@[simp] theorem fixed_collectiveStatusRun (p : Packet) (s : State) : fixed (collectiveStatusRun p s).1 = fixed s := by
  simp only [collectiveStatusRun]
  repeat' split
  all_goals simp

@[simp] theorem fixed_collectiveCancelRun (p : Packet) (s : State) : fixed (collectiveCancelRun p s).1 = fixed s := by
  simp [collectiveCancelRun]

@[simp] theorem fixed_decisionOpenRun (p : Packet) (s : State) : fixed (decisionOpenRun p s).1 = fixed s := by
  simp [decisionOpenRun]

@[simp] theorem fixed_decisionCloseRun (p : Packet) (s : State) : fixed (decisionCloseRun p s).1 = fixed s := by
  simp only [decisionCloseRun]
  repeat' split
  all_goals simp

@[simp] theorem fixed_reedDisableRun (p : Packet) (s : State) : fixed (reedDisableRun p s).1 = fixed s := (rfl)

@[simp] theorem fixed_reedDisableAfter (p : Packet) (s : State) : fixed (reedDisableAfter p s) = fixed s := by
  simp [reedDisableAfter]

@[simp] theorem fixed_reedEnableRun (p : Packet) (s : State) : fixed (reedEnableRun p s).1 = fixed s := by
  simp [reedEnableRun]

@[simp] theorem fixed_setEngine (inst : Nat) (f : Engine → Engine) (s : State) : fixed (setEngine inst f s) = fixed s :=
  (rfl)

@[simp] theorem fixed_engineDisableRun (p : Packet) (s : State) : fixed (engineDisableRun p s).1 = fixed s := (rfl)

@[simp] theorem fixed_engineDisableAfter (p : Packet) (s : State) : fixed (engineDisableAfter p s) = fixed s := by
  simp [engineDisableAfter]

@[simp] theorem fixed_engineEnableRun (p : Packet) (s : State) : fixed (engineEnableRun p s).1 = fixed s := (rfl)

/-! ### The journal -/

@[simp] theorem fixed_storeSegment (g : Segment) (s : State) : fixed (storeSegment g s) = fixed s := (rfl)

@[simp] theorem fixed_journalEvent (event number : Nat) (s : State) :
    fixed (journalEvent event number s) = fixed s := by
  simp [journalEvent]

@[simp] theorem fixed_settleWarning (s : State) : fixed (settleWarning s) = fixed s := by simp [settleWarning]

@[simp] theorem fixed_settleHalt (s : State) : fixed (settleHalt s) = fixed s := by simp [settleHalt]

@[simp] theorem fixed_settleUnjournalled (s : State) : fixed (settleUnjournalled s) = fixed s := by
  simp [settleUnjournalled]

@[simp] theorem fixed_reclaimOldest (s : State) : fixed (reclaimOldest s) = fixed s := by
  unfold reclaimOldest
  repeat' split
  all_goals simp

@[simp] theorem fixed_settleJournal (s : State) : fixed (settleJournal s) = fixed s := by simp [settleJournal]

@[simp] theorem fixed_bankTo (n : Nat) (st : BankState) (s : State) : fixed (bankTo n st s) = fixed s := by
  simp [bankTo]

@[simp] theorem fixed_startResync (n : Nat) (s : State) : fixed (startResync n s) = fixed s := by simp [startResync]

@[simp] theorem fixed_bankOffline (n : Nat) (s : State) : fixed (bankOffline n s) = fixed s := by simp [bankOffline]

@[simp] theorem fixed_setLevel (id v : Nat) (s : State) : fixed (setLevel id v s) = fixed s := (rfl)

@[simp] theorem fixed_retireBlock (n : Nat) (s : State) : fixed (retireBlock n s) = fixed s := by simp [retireBlock]

@[simp] theorem fixed_setRing (n : Nat) (f : Ring → Ring) (s : State) : fixed (setRing n f s) = fixed s := by
  simp [setRing]

@[simp] theorem fixed_leaveBlock (n : Nat) (s : State) : fixed (leaveBlock n s) = fixed s := by simp [leaveBlock]

@[simp] theorem fixed_nextPage (n : Nat) (s : State) : fixed (nextPage n s) = fixed s := by simp [nextPage]

@[simp] theorem fixed_closePage (n : Nat) (s : State) : fixed (closePage n s) = fixed s := by simp [closePage]

@[simp] theorem fixed_programRecord (n number : Nat) (s : State) : fixed (programRecord n number s) = fixed s := by
  simp [programRecord]

@[simp] theorem fixed_onAccepting {f : Nat → State → State} (h : ∀ n u, fixed (f n u) = fixed u) (s : State) :
    fixed (onAccepting f s) = fixed s := by
  simp [onAccepting, h]

@[simp] theorem fixed_dropFull (s : State) : fixed (dropFull s) = fixed s := by simp [dropFull]

@[simp] theorem fixed_takeDurable (r : Record) (s : State) : fixed (takeDurable r s) = fixed s := (rfl)

@[simp] theorem fixed_makeDurable (s : State) : fixed (makeDurable s) = fixed s := by
  unfold makeDurable
  split <;> simp

@[simp] theorem fixed_flushDurable (s : State) : fixed (flushDurable s) = fixed s := by simp [flushDurable]

@[simp] theorem fixed_resyncDone (n : Nat) (s : State) : fixed (resyncDone n s) = fixed s := by simp [resyncDone]

@[simp] theorem fixed_mountChain (r : MountResult) (s : State) : fixed (mountChain r s) = fixed s := by
  simp only [mountChain]
  repeat' split
  all_goals simp

@[simp] theorem fixed_mountBanks (r : MountResult) (s : State) : fixed (mountBanks r s) = fixed s := by
  simp [mountBanks]

@[simp] theorem fixed_unmountBanks (program : Bool) (s : State) : fixed (unmountBanks program s) = fixed s := by
  simp [unmountBanks]

@[simp] theorem fixed_journalStatusRun (p : Packet) (s : State) : fixed (journalStatusRun p s).1 = fixed s := (rfl)

@[simp] theorem fixed_journalExportRun (p : Packet) (s : State) : fixed (journalExportRun p s).1 = fixed s := by
  unfold journalExportRun
  split <;> simp

@[simp] theorem fixed_journalAckRun (p : Packet) (s : State) : fixed (journalAckRun p s).1 = fixed s := by
  simp only [journalAckRun]
  repeat' split
  all_goals simp

@[simp] theorem fixed_journalMarkRun (p : Packet) (s : State) : fixed (journalMarkRun p s).1 = fixed s := by
  unfold journalMarkRun
  split <;> simp

@[simp] theorem fixed_bankSetRun (p : Packet) (s : State) : fixed (bankSetRun p s).1 = fixed s := by simp [bankSetRun]

@[simp] theorem fixed_bankSettled (n : Nat) (s : State) : fixed (bankSettled n s) = fixed s := by
  unfold bankSettled
  split <;> simp

@[simp] theorem fixed_bankSetAfter (p : Packet) (s : State) : fixed (bankSetAfter p s) = fixed s := by
  simp [bankSetAfter]

@[simp] theorem fixed_startReplayed (id : Nat) (s : State) : fixed (startReplayed id s) = fixed s := (rfl)

@[simp] theorem fixed_replayStartRun (p : Packet) (s : State) : fixed (replayStartRun p s).1 = fixed s := by
  unfold replayStartRun
  extract_lets
  split
  · rfl
  · refine fixed_fst_of_ite rfl ?_
    extract_lets
    refine fixed_fst_of_ite rfl ?_
    extract_lets
    refine fixed_fst_of_ite rfl ?_
    extract_lets
    split
    · rfl
    · refine fixed_fst_of_ite rfl (fixed_fst_of_ite rfl ?_)
      split
      · rfl
      · extract_lets
        refine fixed_fst_of_ite rfl (fixed_fst_of_ite rfl ?_)
        split
        · rfl
        · exact fixed_fst_of_ite rfl (fixed_fst_of_ite rfl rfl)

@[simp] theorem fixed_replayStatusRun (p : Packet) (s : State) : fixed (replayStatusRun p s).1 = fixed s := by
  unfold replayStatusRun
  split <;> simp

@[simp] theorem fixed_replayCancelRun (p : Packet) (s : State) : fixed (replayCancelRun p s).1 = fixed s := by
  simp [replayCancelRun]

/-! ### The switch core -/

@[simp] theorem fixed_depart (p : Nat) (f : QFrame) (ds : List Nat) (turn : Nat) (s : State) :
    fixed (depart p f ds turn s) = fixed s := by
  simp only [depart]
  repeat' split
  all_goals simp

@[simp] theorem fixed_completeSend (p : Nat) (f : QFrame) (s : State) : fixed (completeSend p f s) = fixed s := by
  simp [completeSend]

@[simp] theorem fixed_sendFrame (p : Nat) (f : QFrame) (ds : List Nat) (turn : Nat) (s : State) :
    fixed (sendFrame p f ds turn s) = fixed s := by simp [sendFrame]

@[simp] theorem fixed_grant (p : Nat) (s : State) : fixed (grant p s) = fixed s := by
  unfold grant
  repeat' split
  all_goals simp

@[simp] theorem fixed_makeRoom (n k : Nat) (fs : List QFrame) (s : State) : fixed (makeRoom n k fs s) = fixed s := by
  induction fs generalizing s with
  | nil => rfl
  | cons f rest ih =>
    unfold makeRoom
    split
    · rfl
    · rw [ih]
      split <;> simp

@[simp] theorem fixed_tailDrop (at_ p output cls : Nat) (s : State) : fixed (tailDrop at_ p output cls s) = fixed s :=
  (rfl)

@[simp] theorem fixed_startCut (f : QFrame) (s : State) : fixed (startCut f s) = fixed s := by
  simp only [startCut]
  repeat' split
  all_goals simp

@[simp] theorem fixed_lossyRoom (p : Nat) (f : QFrame) (s : State) : fixed (lossyRoom p f s) = fixed s := by
  simp [lossyRoom]

@[simp] theorem fixed_dataIn (p : Nat) (h : FrameHeader) (payload : List Byte) (s : State) :
    fixed (dataIn p h payload s) = fixed s := by simp [dataIn]

@[simp] theorem fixed_newSof (p cls : Nat) (s : State) : fixed (newSof p cls s) = fixed s := by
  simp only [newSof]
  repeat' split
  all_goals simp

@[simp] theorem fixed_dispatch (p : Nat) (f : RxFrame) (s : State) : fixed (dispatch p f s) = fixed s := by
  simp only [dispatch]
  repeat' split
  all_goals simp

@[simp] theorem fixed_frameEnd (p : Nat) (f : RxFrame) (o : OpenFrame) (s : State) :
    fixed (frameEnd p f o s) = fixed s := by
  unfold frameEnd
  split <;> simp

@[simp] theorem fixed_frameStart (p : Nat) (f : RxFrame) (s : State) : fixed (frameStart p f s) = fixed s := by
  unfold frameStart
  split <;> simp

@[simp] theorem fixed_frameRest (p : Nat) (f : RxFrame) (s : State) : fixed (frameRest p f s) = fixed s := by
  simp only [frameRest]
  repeat' split
  all_goals simp

@[simp] theorem fixed_frameIn (p : Nat) (f : RxFrame) (s : State) : fixed (frameIn p f s) = fixed s := by simp [frameIn]

/-! ### Bring-up and the ports' own events -/

@[simp] theorem fixed_sendLstate (p request round : Nat) (s : State) : fixed (sendLstate p request round s) = fixed s :=
  (rfl)

@[simp] theorem fixed_refreshHold (p : Nat) (s : State) : fixed (refreshHold p s) = fixed s := (rfl)

@[simp] theorem fixed_refreshHolds (s : State) : fixed (refreshHolds s) = fixed s := (rfl)

@[simp] theorem fixed_tryTrain (p : Nat) (s : State) : fixed (tryTrain p s) = fixed s := by simp [tryTrain]

@[simp] theorem fixed_trainingFailed (p : Nat) (s : State) : fixed (trainingFailed p s) = fixed s := by
  simp [trainingFailed]

@[simp] theorem fixed_identityKnown (p : Nat) (b : IdentityBlock) (s : State) :
    fixed (identityKnown p b s) = fixed s := by
  simp only [identityKnown]
  repeat' split
  all_goals simp

@[simp] theorem fixed_adaptDrain (p : Nat) (s : State) : fixed (adaptDrain p s) = fixed s := by simp [adaptDrain]

@[simp] theorem fixed_takeGrant (p cls grant : Nat) (s : State) : fixed (takeGrant p cls grant s) = fixed s := by
  simp [takeGrant]

@[simp] theorem fixed_sendAlign (p : Nat) (s : State) : fixed (sendAlign p s) = fixed s := by simp [sendAlign]

@[simp] theorem fixed_markLost (p lane : Nat) (s : State) : fixed (markLost p lane s) = fixed s := (rfl)

@[simp] theorem fixed_preempted (p : Nat) (f : OpenFrame) (s : State) : fixed (preempted p f s).2 = fixed s := by
  unfold preempted
  split <;> simp

@[simp] theorem fixed_selectApplication (p : Nat) (offers : Bool) (s : State) :
    fixed (selectApplication p offers s) = fixed s := by simp [selectApplication]

@[simp] theorem fixed_portStatusRun (p : Packet) (s : State) : fixed (portStatusRun p s).1 = fixed s := (rfl)

@[simp] theorem fixed_portUpRun (p : Packet) (s : State) : fixed (portUpRun p s).1 = fixed s := (rfl)

@[simp] theorem fixed_portUpAfter (p : Packet) (s : State) : fixed (portUpAfter p s) = fixed s := by
  simp only [portUpAfter]
  repeat' split
  all_goals simp

@[simp] theorem fixed_portDownRun (p : Packet) (s : State) : fixed (portDownRun p s).1 = fixed s := (rfl)

@[simp] theorem fixed_portDownAfter (p : Packet) (s : State) : fixed (portDownAfter p s) = fixed s := by
  simp only [portDownAfter]
  repeat' split
  all_goals simp

@[simp] theorem fixed_portAdaptRun (p : Packet) (s : State) : fixed (portAdaptRun p s).1 = fixed s := by
  simp [portAdaptRun]

@[simp] theorem fixed_portAdaptAfter (p : Packet) (s : State) : fixed (portAdaptAfter p s) = fixed s := by
  simp [portAdaptAfter]

@[simp] theorem fixed_recheckPort (p : Nat) (s : State) : fixed (recheckPort p s) = fixed s := by
  simp only [recheckPort]
  repeat' split
  all_goals simp

@[simp] theorem fixed_cablePlanLoadRun (p : Packet) (s : State) : fixed (cablePlanLoadRun p s).1 = fixed s := by
  simp only [cablePlanLoadRun]
  repeat' split
  all_goals simp

@[simp] theorem fixed_cablePlanReadRun (p : Packet) (s : State) : fixed (cablePlanReadRun p s).1 = fixed s := (rfl)

@[simp] theorem fixed_opticReadRun (p : Packet) (s : State) : fixed (opticReadRun p s).1 = fixed s := by
  simp [opticReadRun]

end Sys2Proof.Machine
end

section
/-! What no step changes, in the units around the wafer: rails, firmware, tally, Coping unit, counters, parameters,
freeze, controllers, power, boot and patrol. -/

namespace Sys2Proof.Machine

/-! ### Rails, zones and the reset of the wafer -/

@[simp] theorem fixed_quiesce (s : State) : fixed (quiesce s) = fixed s := by simp [quiesce]

@[simp] theorem fixed_endFreeze (ended : Option Nat) (s : State) : fixed (endFreeze ended s) = fixed s := by
  simp [endFreeze]

@[simp] theorem fixed_cancelArm (s : State) : fixed (cancelArm s) = fixed s := by
  unfold cancelArm
  split <;> simp

@[simp] theorem fixed_clearWafer (s : State) : fixed (clearWafer s) = fixed s := (rfl)

@[simp] theorem fixed_waferDown (restart : Bool) (s : State) : fixed (waferDown restart s) = fixed s := by
  simp [waferDown]

@[simp] theorem fixed_discardScheduled (s : State) : fixed (discardScheduled s) = fixed s := by simp [discardScheduled]

@[simp] theorem fixed_restartWafer (s : State) : fixed (restartWafer s) = fixed s := by simp [restartWafer]

@[simp] theorem fixed_railPortsOff (ps : List Nat) (s : State) : fixed (railPortsOff ps s) = fixed s := by
  simp [railPortsOff]

@[simp] theorem fixed_cartRailOff (b : Nat) (s : State) : fixed (cartRailOff b s) = fixed s := (rfl)

@[simp] theorem fixed_cableOff (s : State) : fixed (cableOff s) = fixed s := by simp [cableOff]

@[simp] theorem fixed_loftOff (s : State) : fixed (loftOff s) = fixed s := by simp [loftOff]

@[simp] theorem fixed_opticalOff (s : State) : fixed (opticalOff s) = fixed s := by simp [opticalOff]

@[simp] theorem fixed_waferRailsOff (s : State) : fixed (waferRailsOff s) = fixed s := by simp [waferRailsOff]

@[simp] theorem fixed_zoneWOff (s : State) : fixed (zoneWOff s) = fixed s := by simp [zoneWOff]

@[simp] theorem fixed_rimOff (s : State) : fixed (rimOff s) = fixed s := by simp [rimOff]

@[simp] theorem fixed_gateLost (s : State) : fixed (gateLost s) = fixed s := by simp [gateLost]

@[simp] theorem fixed_zoneOff (z : Zone) (s : State) : fixed (zoneOff z s) = fixed s := by
  unfold zoneOff
  split <;> simp

@[simp] theorem fixed_journalAction (builder channel : Nat) (s : State) :
    fixed (journalAction builder channel s) = fixed s := by simp [journalAction]

/-! ### The commands of Table 6.8 -/

@[simp] theorem fixed_topologyReadRun (p : Packet) (s : State) : fixed (topologyReadRun p s).1 = fixed s := (rfl)

@[simp] theorem fixed_dormerStatusRun (p : Packet) (s : State) : fixed (dormerStatusRun p s).1 = fixed s := (rfl)

@[simp] theorem fixed_skylightReadRun (p : Packet) (s : State) : fixed (skylightReadRun p s).1 = fixed s := (rfl)

@[simp] theorem fixed_slateIsolateRun (p : Packet) (s : State) : fixed (slateIsolateRun p s).1 = fixed s := by
  simp [slateIsolateRun]

@[simp] theorem fixed_finishRestore (n status reason arg : Nat) (payload : List Byte) (s : State) :
    fixed (finishRestore n status reason arg payload s) = fixed s := by
  unfold finishRestore
  split <;> simp

@[simp] theorem fixed_tryRestore (n : Nat) (s : State) : fixed (tryRestore n s) = fixed s := by simp [tryRestore]

@[simp] theorem fixed_retryRestores (s : State) : fixed (retryRestores s) = fixed s := by simp [retryRestores]

@[simp] theorem fixed_slateRestoreRun (p : Packet) (s : State) : fixed (slateRestoreRun p s).1 = fixed s := by
  simp [slateRestoreRun]

@[simp] theorem fixed_slateRestoreAfter (p : Packet) (s : State) : fixed (slateRestoreAfter p s) = fixed s := by
  simp [slateRestoreAfter]

@[simp] theorem fixed_restoreDone (n : Nat) (r : SlateBist) (s : State) : fixed (restoreDone n r s) = fixed s := by
  simp [restoreDone]

/-! ### Connections and reset lines -/

@[simp] theorem fixed_dropConnection (c : Connection) (s : State) : fixed (dropConnection c s) = fixed s := by
  unfold dropConnection
  split <;> simp

@[simp] theorem fixed_closeConnection (c : Connection) (s : State) : fixed (closeConnection c s) = fixed s := by
  simp [closeConnection]

@[simp] theorem fixed_dropEave (e : Eave) (s : State) : fixed (dropEave e s) = fixed s := by simp [dropEave]

@[simp] theorem fixed_dropSessions (s : State) : fixed (dropSessions s) = fixed s := by
  simp [dropSessions]

@[simp] theorem fixed_eaveTo (e : Eave) (st : ControllerState) (s : State) : fixed (eaveTo e st s) = fixed s := by
  simp [eaveTo]

@[simp] theorem fixed_dropWindows (e : Eave) (s : State) : fixed (dropWindows e s) = fixed s := (rfl)

@[simp] theorem fixed_splitWindows (e : Eave) (s : State) : fixed (splitWindows e s) = fixed s := (rfl)

@[simp] theorem fixed_holdEave (e : Eave) (s : State) : fixed (holdEave e s) = fixed s := by simp [holdEave]

@[simp] theorem fixed_releaseEave (e : Eave) (s : State) : fixed (releaseEave e s) = fixed s := by simp [releaseEave]

@[simp] theorem fixed_nameAuthority (e : Eave) (s : State) : fixed (nameAuthority e s) = fixed s := by
  simp [nameAuthority]

@[simp] theorem fixed_swapRecord (s : State) : fixed (swapRecord s) = fixed s := by simp [swapRecord]

/-! ### Firmware -/

@[simp] theorem fixed_storeSlot (x : ImageSlot) (s : State) : fixed (storeSlot x s) = fixed s := (rfl)

@[simp] theorem fixed_writePointer (kind target slot : Nat) (trial : Bool) (left : Nat) (s : State) :
    fixed (writePointer kind target slot trial left s) = fixed s := (rfl)

@[simp] theorem fixed_runImage (r : Running) (s : State) : fixed (runImage r s) = fixed s := (rfl)

@[simp] theorem fixed_setSlotState (kind slot target : Nat) (st : SlotState) (s : State) :
    fixed (setSlotState kind slot target st s) = fixed s := (rfl)

@[simp] theorem fixed_bootTarget (kind target : Nat) (s : State) : fixed (bootTarget kind target s).1 = fixed s := by
  unfold bootTarget
  repeat' split
  all_goals simp

@[simp] theorem fixed_checkCartridges (s : State) : fixed (checkCartridges s) = fixed s := (rfl)

@[simp] theorem fixed_finishActivation (status reason arg : Nat) (payload : List Byte) (s : State) :
    fixed (finishActivation status reason arg payload s) = fixed s := by
  simp only [finishActivation]
  repeat' split
  all_goals simp

@[simp] theorem fixed_activated (a : Activation) (s : State) : fixed (activated a s) = fixed s := by
  unfold activated
  split <;> simp

@[simp] theorem fixed_loadSites (a : Activation) (ns : List Nat) (s : State) : fixed (loadSites a ns s) = fixed s := by
  simp [loadSites]

@[simp] theorem fixed_rollDone (a : Activation) (s : State) : fixed (rollDone a s) = fixed s := by simp [rollDone]

@[simp] theorem fixed_rollNext (s : State) : fixed (rollNext s) = fixed s := by
  simp only [rollNext]
  repeat' split
  all_goals simp

@[simp] theorem fixed_rollStop (a : Activation) (n : Nat) (s : State) : fixed (rollStop a n s) = fixed s := by
  simp [rollStop]

@[simp] theorem fixed_rollBistFailed (n : Nat) (r : SlateBist) (a : Activation) (s : State) :
    fixed (rollBistFailed n r a s) = fixed s := by simp [rollBistFailed]

@[simp] theorem fixed_holdForSwitch (a : Activation) (e : Eave) (s : State) :
    fixed (holdForSwitch a e s) = fixed s := by
  simp [holdForSwitch]

@[simp] theorem fixed_switchDone (a : Activation) (s : State) : fixed (switchDone a s) = fixed s := by simp [switchDone]

@[simp] theorem fixed_startActivation (s : State) : fixed (startActivation s) = fixed s := by
  simp only [startActivation]
  repeat' split
  all_goals simp

@[simp] theorem fixed_settleActivations (s : State) : fixed (settleActivations s) = fixed s := by
  simp [settleActivations]

@[simp] theorem fixed_isolate (n cause : Nat) (st : SiteState) (s : State) :
    fixed (isolate n cause st s) = fixed s := by
  unfold isolate
  split <;> simp

@[simp] theorem fixed_activationMarker (s : State) : fixed (activationMarker s) = fixed s := by
  unfold activationMarker
  split <;> simp

@[simp] theorem fixed_activationMark (s : State) : fixed (activationMark s) = fixed s := by
  unfold activationMark
  split <;> simp

@[simp] theorem fixed_eaveReady (e : Eave) (s : State) : fixed (eaveReady e s) = fixed s := by
  unfold eaveReady
  split <;> simp

@[simp] theorem fixed_eaveReverted (e : Eave) (s : State) : fixed (eaveReverted e s) = fixed s := by
  unfold eaveReverted
  split <;> simp

@[simp] theorem fixed_restartTarget (a : Activation) (s : State) : fixed (restartTarget a s) = fixed s := by
  simp [restartTarget]

@[simp] theorem fixed_startMbist (s : State) : fixed (startMbist s) = fixed s := by
  unfold startMbist
  split <;> simp

@[simp] theorem fixed_mbistEnds (n : Nat) (pass : Bool) (s : State) : fixed (mbistEnds n pass s) = fixed s := by
  simp [mbistEnds]

@[simp] theorem fixed_imgDownloadRun (p : Packet) (s : State) : fixed (imgDownloadRun p s).1 = fixed s := by
  simp only [imgDownloadRun]
  repeat' split
  all_goals simp

@[simp] theorem fixed_imgVerifyRun (p : Packet) (s : State) : fixed (imgVerifyRun p s).1 = fixed s := by
  simp [imgVerifyRun]

@[simp] theorem fixed_verifyAgain (x : ImageSlot) (result : VerifyResult) (s : State) :
    fixed (verifyAgain x result s) = fixed s := by simp [verifyAgain]

@[simp] theorem fixed_imgActivateRun (p : Packet) (s : State) : fixed (imgActivateRun p s).1 = fixed s := by
  unfold imgActivateRun
  repeat' split
  all_goals simp

@[simp] theorem fixed_imgActivateAfter (p : Packet) (s : State) : fixed (imgActivateAfter p s) = fixed s := by
  simp [imgActivateAfter]

@[simp] theorem fixed_imgConfirmRun (p : Packet) (s : State) : fixed (imgConfirmRun p s).1 = fixed s := by
  simp [imgConfirmRun]

@[simp] theorem fixed_imgStatusRun (p : Packet) (s : State) : fixed (imgStatusRun p s).1 = fixed s := (rfl)

@[simp] theorem fixed_manifestLoadRun (p : Packet) (s : State) : fixed (manifestLoadRun p s).1 = fixed s := by
  simp [manifestLoadRun]

@[simp] theorem fixed_manifestReadRun (p : Packet) (s : State) : fixed (manifestReadRun p s).1 = fixed s := (rfl)

@[simp] theorem fixed_fwIdentityRun (p : Packet) (s : State) : fixed (fwIdentityRun p s).1 = fixed s := (rfl)

/-! ### The tally -/

@[simp] theorem fixed_finishRestart (s : State) : fixed (finishRestart s) = fixed s := by simp [finishRestart]

@[simp] theorem fixed_reachHeld (cause : Nat) (s : State) : fixed (reachHeld cause s) = fixed s := by simp [reachHeld]

@[simp] theorem fixed_checkReady (s : State) : fixed (checkReady s) = fixed s := by simp [checkReady]

@[simp] theorem fixed_startAcquiring (s : State) : fixed (startAcquiring s) = fixed s := (rfl)

@[simp] theorem fixed_releaseWaiting (s : State) : fixed (releaseWaiting s) = fixed s := by simp [releaseWaiting]

@[simp] theorem fixed_tallyLocked (s : State) : fixed (tallyLocked s) = fixed s := by simp [tallyLocked]

@[simp] theorem fixed_loadTally (m : Nat) (s : State) : fixed (loadTally m s) = fixed s := by simp [loadTally]

@[simp] theorem fixed_noteError (e : Int) (s : State) : fixed (noteError e s) = fixed s := by simp [noteError]

@[simp] theorem fixed_handleError (e : Int) (expected : Nat) (s : State) :
    fixed (handleError e expected s) = fixed s := by
  simp [handleError]

@[simp] theorem fixed_markTally (s : State) : fixed (markTally s) = fixed s := by
  simp only [markTally]
  repeat' split
  all_goals simp

@[simp] theorem fixed_anchorAt (capture : Option PtpCapture) (s : State) : fixed (anchorAt capture s) = fixed s := by
  unfold anchorAt
  split <;> simp

@[simp] theorem fixed_broadcastTally (s : State) : fixed (broadcastTally s) = fixed s := by
  unfold broadcastTally
  split <;> simp

@[simp] theorem fixed_toMarker (s : State) : fixed (toMarker s) = fixed s := by
  unfold toMarker
  split <;> simp

@[simp] theorem fixed_syncLost (s : State) : fixed (syncLost s) = fixed s := by
  simp only [syncLost]
  repeat' split
  all_goals simp

@[simp] theorem fixed_tallyStatusRun (p : Packet) (s : State) : fixed (tallyStatusRun p s).1 = fixed s := (rfl)

@[simp] theorem fixed_tallyReacquireRun (p : Packet) (s : State) : fixed (tallyReacquireRun p s).1 = fixed s := (rfl)

@[simp] theorem fixed_tallyReacquireAfter (p : Packet) (s : State) : fixed (tallyReacquireAfter p s) = fixed s := by
  simp [tallyReacquireAfter]

/-! ### The Coping unit -/

@[simp] theorem fixed_setSense (ch : Nat) (f : SenseChannel → SenseChannel) (s : State) :
    fixed (setSense ch f s) = fixed s := (rfl)

@[simp] theorem fixed_setAout (ch : Nat) (f : AoutChannel → AoutChannel) (s : State) :
    fixed (setAout ch f s) = fixed s := (rfl)

@[simp] theorem fixed_driveCode (ch : Nat) (code : U16) (s : State) : fixed (driveCode ch code s) = fixed s := by
  simp [driveCode]

@[simp] theorem fixed_disturb (kind : Nat → Bool) (ch : Nat) (s : State) : fixed (disturb kind ch s) = fixed s := by
  unfold disturb
  split <;> simp

@[simp] theorem fixed_dropEntry (ch : Nat) (s : State) : fixed (dropEntry ch s) = fixed s := by
  unfold dropEntry
  split <;> simp

@[simp] theorem fixed_writeAout (ch : Nat) (code : U16) (s : State) : fixed (writeAout ch code s) = fixed s := by
  simp [writeAout]

@[simp] theorem fixed_enterFallback (ch : Nat) (s : State) : fixed (enterFallback ch s) = fixed s := by
  simp [enterFallback]

@[simp] theorem fixed_applySpan (ch v : Nat) (s : State) : fixed (applySpan ch v s) = fixed s := by simp [applySpan]

@[simp] theorem fixed_aoutWriteRun (p : Packet) (s : State) : fixed (aoutWriteRun p s).1 = fixed s := by
  simp [aoutWriteRun]

@[simp] theorem fixed_aoutReadRun (p : Packet) (s : State) : fixed (aoutReadRun p s).1 = fixed s := (rfl)

@[simp] theorem fixed_settleFlow (s : State) : fixed (settleFlow s) = fixed s := (rfl)

@[simp] theorem fixed_finialAction (ch : Nat) (s : State) : fixed (finialAction ch s) = fixed s := by
  simp [finialAction]

@[simp] theorem fixed_leakCheck (s : State) : fixed (leakCheck s) = fixed s := by
  unfold leakCheck
  repeat' split
  all_goals simp

@[simp] theorem fixed_safeAout (s : State) : fixed (safeAout s) = fixed s := by simp [safeAout]

@[simp] theorem fixed_leakAction (ch : Nat) (s : State) : fixed (leakAction ch s) = fixed s := by simp [leakAction]

@[simp] theorem fixed_enterTrigger (ch : Nat) (s : State) : fixed (enterTrigger ch s) = fixed s := by
  simp [enterTrigger]

@[simp] theorem fixed_comparatorTo (ch : Nat) (st : Comparator) (s : State) :
    fixed (comparatorTo ch st s) = fixed s := by
  simp [comparatorTo]

@[simp] theorem fixed_noteFlow (ch : Nat) (raw : Int) (s : State) : fixed (noteFlow ch raw s) = fixed s := by
  simp [noteFlow]

@[simp] theorem fixed_resetChannel (ch : Nat) (s : State) : fixed (resetChannel ch s) = fixed s := by
  simp [resetChannel]

@[simp] theorem fixed_syncAll (s : State) : fixed (syncAll s) = fixed s := by simp [syncAll]

@[simp] theorem fixed_senseSyncRun (p : Packet) (s : State) : fixed (senseSyncRun p s).1 = fixed s := by
  simp [senseSyncRun]

@[simp] theorem fixed_senseReadRun (p : Packet) (s : State) : fixed (senseReadRun p s).1 = fixed s := (rfl)

@[simp] theorem fixed_channelMaskRun (p : Packet) (s : State) : fixed (channelMaskRun p s).1 = fixed s := by
  simp [channelMaskRun]

@[simp] theorem fixed_endCalibration (status reason : Nat) (payload : List Byte) (s : State) :
    fixed (endCalibration status reason payload s) = fixed s := by
  unfold endCalibration
  split <;> simp

@[simp] theorem fixed_calRunRun (p : Packet) (s : State) : fixed (calRunRun p s).1 = fixed s := (rfl)

@[simp] theorem fixed_calRunAfter (p : Packet) (s : State) : fixed (calRunAfter p s) = fixed s := by
  unfold calRunAfter
  repeat' split
  all_goals simp

@[simp] theorem fixed_calResult (k : Calibration) (s : State) : fixed (calResult k s).1 = fixed s := by simp [calResult]

/-! ### Counters -/

@[simp] theorem fixed_capture (id : Nat) (s : State) : fixed (capture id s) = fixed s := (rfl)

@[simp] theorem fixed_captureOthers (s : State) : fixed (captureOthers s) = fixed s := by simp [captureOthers]

@[simp] theorem fixed_snapNow (id : Nat) (s : State) : fixed (snapNow id s) = fixed s := by simp [snapNow]

@[simp] theorem fixed_takeArmed (s : State) : fixed (takeArmed s) = fixed s := by
  unfold takeArmed
  split <;> simp

@[simp] theorem fixed_takePeriodic (m : Nat) (s : State) : fixed (takePeriodic m s) = fixed s := by simp [takePeriodic]

@[simp] theorem fixed_snapsBefore (tick : Nat) (s : State) : fixed (snapsBefore tick s) = fixed s := by
  simp only [snapsBefore]
  repeat' split
  all_goals simp

@[simp] theorem fixed_counterSnapRun (p : Packet) (s : State) : fixed (counterSnapRun p s).1 = fixed s := (rfl)

@[simp] theorem fixed_counterReadRun (p : Packet) (s : State) : fixed (counterReadRun p s).1 = fixed s := (rfl)

/-! ### Parameters -/

@[simp] theorem fixed_policyChanged (s : State) : fixed (policyChanged s) = fixed s := by
  refine fixed_forEach (fun p t => ?_) _ s
  dsimp only
  repeat' split
  all_goals simp

@[simp] theorem fixed_shareChanged (old : Nat) (s : State) : fixed (shareChanged old s) = fixed s := by
  simp [shareChanged]

@[simp] theorem fixed_paramEffect (id oldShare : Nat) (s : State) : fixed (paramEffect id oldShare s) = fixed s := by
  simp [paramEffect]

@[simp] theorem fixed_applyParam (id v : Nat) (s : State) : fixed (applyParam id v s) = fixed s := by simp [applyParam]

@[simp] theorem fixed_paramStageRun (p : Packet) (s : State) : fixed (paramStageRun p s).1 = fixed s := by
  simp only [paramStageRun]
  repeat' split
  all_goals simp

@[simp] theorem fixed_paramReadRun (p : Packet) (s : State) : fixed (paramReadRun p s).1 = fixed s := by
  simp only [paramReadRun]
  repeat' split
  all_goals simp

@[simp] theorem fixed_paramDescribeRun (p : Packet) (s : State) : fixed (paramDescribeRun p s).1 = fixed s := by
  simp only [paramDescribeRun]
  repeat' split
  all_goals simp

@[simp] theorem fixed_paramCommitRun (p : Packet) (s : State) : fixed (paramCommitRun p s).1 = fixed s := by
  simp only [paramCommitRun, fixed_fst_ite]
  cases setFault (stagedOf p.originator s) s <;> simp

@[simp] theorem fixed_paramDiscardRun (p : Packet) (s : State) : fixed (paramDiscardRun p s).1 = fixed s := by
  simp [paramDiscardRun]

@[simp] theorem fixed_applyMarked (id v : Nat) (s : State) : fixed (applyMarked id v s) = fixed s := by
  simp [applyMarked]

@[simp] theorem fixed_applySet (x : Scheduled) (s : State) : fixed (applySet x s) = fixed s := by simp [applySet]

/-! ### Freeze and snapshot -/

@[simp] theorem fixed_disarm (rs : List FreezeRequest) (s : State) : fixed (disarm rs s) = fixed s := by simp [disarm]

@[simp] theorem fixed_freezePort (p : Nat) (s : State) : fixed (freezePort p s) = fixed s := by simp [freezePort]

@[simp] theorem fixed_freezeNow (s : State) : fixed (freezeNow s) = fixed s := by simp [freezeNow]

@[simp] theorem fixed_thawPort (p : Nat) (s : State) : fixed (thawPort p s) = fixed s := by simp [thawPort]

@[simp] theorem fixed_thawTally (s : State) : fixed (thawTally s) = fixed s := by
  unfold thawTally
  split <;> simp

@[simp] theorem fixed_repeatSlice (s : State) : fixed (repeatSlice s) = fixed s := by
  unfold repeatSlice
  split <;> simp

@[simp] theorem fixed_thawNow (s : State) : fixed (thawNow s) = fixed s := by simp [thawNow]

@[simp] theorem fixed_thawRun (p : Packet) (s : State) : fixed (thawRun p s).1 = fixed s := by simp [thawRun]

@[simp] theorem fixed_restartRun (p : Packet) (s : State) : fixed (restartRun p s).1 = fixed s := by simp [restartRun]

@[simp] theorem fixed_abortOutside (s : State) : fixed (abortOutside s) = fixed s := by simp [abortOutside]

@[simp] theorem fixed_restartAfter (p : Packet) (s : State) : fixed (restartAfter p s) = fixed s := by
  simp [restartAfter]

@[simp] theorem fixed_freezeRun (p : Packet) (s : State) : fixed (freezeRun p s).1 = fixed s := by simp [freezeRun]

@[simp] theorem fixed_freezeAtRun (p : Packet) (s : State) : fixed (freezeAtRun p s).1 = fixed s := by
  unfold freezeAtRun
  split <;> simp

@[simp] theorem fixed_snapStartRun (p : Packet) (s : State) : fixed (snapStartRun p s).1 = fixed s := by
  simp [snapStartRun]

@[simp] theorem fixed_startReadout (s : State) : fixed (startReadout s) = fixed s := by
  unfold startReadout
  repeat' split
  all_goals simp

/-! ### The referee -/

@[simp] theorem fixed_dropSwap (s : State) : fixed (dropSwap s) = fixed s := by simp [dropSwap]

@[simp] theorem fixed_restartOnly (e : Eave) (s : State) : fixed (restartOnly e s) = fixed s := by simp [restartOnly]

@[simp] theorem fixed_failEave (e : Eave) (verdict originator sequence : Nat) (d1 d2 : Digest) (s : State) :
    fixed (failEave e verdict originator sequence d1 d2 s) = fixed s := by
  simp only [failEave]
  repeat' split
  all_goals simp

@[simp] theorem fixed_failStandby (r : Diverged) (s : State) : fixed (failStandby r s) = fixed s := by
  unfold failStandby
  split <;> simp

@[simp] theorem fixed_divergedToFinial (r : Diverged) (s : State) : fixed (divergedToFinial r s) = fixed s := by
  simp [divergedToFinial]

@[simp] theorem fixed_passSchedule (ts : Nat) (s : State) : fixed (passSchedule ts s) = fixed s := by
  simp [passSchedule]

@[simp] theorem fixed_skipSwap (ts : Nat) (s : State) : fixed (skipSwap ts s) = fixed s := by
  simp only [skipSwap]
  repeat' split
  all_goals simp

@[simp] theorem fixed_compareDigests (s : State) : fixed (compareDigests s) = fixed s := by simp [compareDigests]

@[simp] theorem fixed_swapReported (s : State) : fixed (swapReported s) = fixed s := by simp [swapReported]

@[simp] theorem fixed_intervalEnd (e : Eave) (s : State) : fixed (intervalEnd e s) = fixed s := by simp [intervalEnd]

@[simp] theorem fixed_roleSwapRun (p : Packet) (s : State) : fixed (roleSwapRun p s).1 = fixed s := by
  simp [roleSwapRun]

@[simp] theorem fixed_adoptAuthority (reportA reportB : Byte) (s : State) :
    fixed (adoptAuthority reportA reportB s) = fixed s := by
  unfold adoptAuthority
  split <;> simp

@[simp] theorem fixed_controllerStatusRun (p : Packet) (s : State) : fixed (controllerStatusRun p s).1 = fixed s :=
  (rfl)

@[simp] theorem fixed_inventoryRun (p : Packet) (s : State) : fixed (inventoryRun p s).1 = fixed s := (rfl)

/-! ### Power -/

@[simp] theorem fixed_eraseDownloads (kind : Nat) (s : State) : fixed (eraseDownloads kind s) = fixed s := (rfl)

@[simp] theorem fixed_retained (s : State) : fixed (retained s) = fixed s := by simp [retained]

@[simp] theorem fixed_cartBoot (b : Nat) (s : State) : fixed (cartBoot b s) = fixed s := by simp [cartBoot]

@[simp] theorem fixed_cartRailOn (b : Nat) (s : State) : fixed (cartRailOn b s) = fixed s := by simp [cartRailOn]

@[simp] theorem fixed_railsOn (s : State) : fixed (railsOn s) = fixed s := by simp [railsOn]

@[simp] theorem fixed_stepSeven (s : State) : fixed (stepSeven s) = fixed s := by simp [stepSeven]

@[simp] theorem fixed_railUp (n : Nat) (s : State) : fixed (railUp n s) = fixed s := by simp [railUp]

@[simp] theorem fixed_enableNext (s : State) : fixed (enableNext s) = fixed s := by
  unfold enableNext
  repeat' split
  all_goals simp

@[simp] theorem fixed_raisePowerFail (s : State) : fixed (raisePowerFail s) = fixed s := by simp [raisePowerFail]

@[simp] theorem fixed_busReturned (s : State) : fixed (busReturned s) = fixed s := by simp [busReturned]

@[simp] theorem fixed_cartridgeLost (c : CartridgeId) (s : State) : fixed (cartridgeLost c s) = fixed s := by
  unfold cartridgeLost
  split <;> simp

@[simp] theorem fixed_trayStateRun (p : Packet) (s : State) : fixed (trayStateRun p s).1 = fixed s := (rfl)

@[simp] theorem fixed_changeMode (m : Mode) (originator : U32) (s : State) :
    fixed (changeMode m originator s) = fixed s := by simp [changeMode]

@[simp] theorem fixed_modeSetRun (p : Packet) (s : State) : fixed (modeSetRun p s).1 = fixed s := by
  simp only [modeSetRun]
  repeat' split
  all_goals simp

/-! ### Boot -/

@[simp] theorem fixed_noteEpoch (i v : Nat) (s : State) : fixed (noteEpoch i v s) = fixed s := (rfl)

@[simp] theorem fixed_quarantine (e : Eave) (s : State) : fixed (quarantine e s) = fixed s := by simp [quarantine]

@[simp] theorem fixed_settleAdmission (s : State) : fixed (settleAdmission s) = fixed s := by simp [settleAdmission]

@[simp] theorem fixed_admitOne (s : State) : fixed (admitOne s) = fixed s := by
  simp only [admitOne]
  repeat' split
  all_goals simp

@[simp] theorem fixed_firstBoot (e : Eave) (bad : Bool) (ee : EpochResult) (s : State) :
    fixed (firstBoot e bad ee s) = fixed s := by
  unfold firstBoot
  repeat' split
  all_goals simp

@[simp] theorem fixed_laterBoot (e : Eave) (bad : Bool) (ee : EpochResult) (s : State) :
    fixed (laterBoot e bad ee s) = fixed s := by
  unfold laterBoot
  split <;> simp

@[simp] theorem fixed_resetServo (e : Eave) (s : State) : fixed (resetServo e s) = fixed s := by
  unfold resetServo
  split <;> simp

@[simp] theorem fixed_raiseWaferReset (s : State) : fixed (raiseWaferReset s) = fixed s := by simp [raiseWaferReset]

@[simp] theorem fixed_releaseWafer (s : State) : fixed (releaseWafer s) = fixed s := by simp [releaseWafer]

@[simp] theorem fixed_siteBist (r : BistResult) (n : Nat) (s : State) : fixed (siteBist r n s) = fixed s := by
  simp [siteBist]

@[simp] theorem fixed_holdWafer (cause : Nat) (s : State) : fixed (holdWafer cause s) = fixed s := by simp [holdWafer]

@[simp] theorem fixed_recover (r : LoadResult) (s : State) : fixed (recover r s) = fixed s := by simp [recover]

@[simp] theorem fixed_bootRecovery {release : State → State} (h : ∀ u, fixed (release u) = fixed u) (s : State) :
    fixed (bootRecovery release s) = fixed s := by
  simp [bootRecovery, h]

@[simp] theorem fixed_fallBack (s : State) : fixed (fallBack s) = fixed s := by simp [fallBack]

@[simp] theorem fixed_startSite (n : Nat) (s : State) : fixed (startSite n s) = fixed s := by simp [startSite]

@[simp] theorem fixed_rehomeAtBoot (n : Nat) (s : State) : fixed (rehomeAtBoot n s) = fixed s := by simp [rehomeAtBoot]

@[simp] theorem fixed_unanchorInBand (s : State) : fixed (unanchorInBand s) = fixed s := (rfl)

@[simp] theorem fixed_bootEndsActivation (reverted : Bool) (s : State) :
    fixed (bootEndsActivation reverted s) = fixed s := by
  unfold bootEndsActivation
  split <;> simp

@[simp] theorem fixed_startSlates (reverted : Bool) (s : State) : fixed (startSlates reverted s) = fixed s := by
  simp [startSlates]

@[simp] theorem fixed_checkManifest (reverted : Bool) (s : State) : fixed (checkManifest reverted s) = fixed s := by
  simp [checkManifest]

@[simp] theorem fixed_checkWafer (reverted : Bool) (s : State) : fixed (checkWafer reverted s) = fixed s := by
  unfold checkWafer
  split <;> simp

theorem fixed_of_rechoose {s t : State} (h : rechoose s = some t) : fixed t = fixed s := by
  simp only [rechoose] at h
  repeat' split at h
  all_goals cases h
  all_goals simp

@[simp] theorem fixed_loaded (r : LoadResult) (reverted : Bool) (s : State) :
    fixed (loaded r reverted s) = fixed s := by
  simp only [loaded]
  split
  · simp
  · split
    · next hr => simp [fixed_of_rechoose hr]
    · simp

@[simp] theorem fixed_bootRecords (replaced : Bool) (s : State) : fixed (bootRecords replaced s) = fixed s := by
  simp [bootRecords]

@[simp] theorem fixed_mountAll (r : MountResult) (s : State) : fixed (mountAll r s) = fixed s := by
  simp only [mountAll]
  split
  · rfl
  · simp

@[simp] theorem fixed_latchEave (e : Eave) (on : Bool) (s : State) : fixed (latchEave e on s) = fixed s := by
  simp [latchEave]

@[simp] theorem fixed_thatchOff (s : State) : fixed (thatchOff s) = fixed s := by simp [thatchOff]

@[simp] theorem fixed_latchCart (b : Nat) (on : Bool) (s : State) : fixed (latchCart b on s) = fixed s := by
  unfold latchCart
  repeat' split
  all_goals simp

@[simp] theorem fixed_latchReset (n : Nat) (on : Bool) (s : State) : fixed (latchReset n on s) = fixed s := by
  simp [latchReset]

@[simp] theorem fixed_latchWafer (on : Bool) (s : State) : fixed (latchWafer on s) = fixed s := by simp [latchWafer]

@[simp] theorem fixed_latchBit (g i : Nat) (on : Bool) (s : State) : fixed (latchBit g i on s) = fixed s := by
  unfold latchBit
  split <;> simp

@[simp] theorem fixed_latchWriteRun (p : Packet) (s : State) : fixed (latchWriteRun p s).1 = fixed s := by
  simp [latchWriteRun]

/-! ### Patrol and boundary scan -/

@[simp] theorem fixed_withdraw (x : Slice) (s : State) : fixed (withdraw x s) = fixed s := by
  unfold withdraw
  split <;> simp

@[simp] theorem fixed_endSlice (x : Slice) (s : State) : fixed (endSlice x s) = fixed s := by simp [endSlice]

@[simp] theorem fixed_swapRam (n h : Nat) (s : State) : fixed (swapRam n h s) = fixed s := by simp [swapRam]

@[simp] theorem fixed_failSlice (x : Slice) (s : State) : fixed (failSlice x s) = fixed s := by
  unfold failSlice
  split <;> simp

@[simp] theorem fixed_patrolStatusRun (p : Packet) (s : State) : fixed (patrolStatusRun p s).1 = fixed s := (rfl)

@[simp] theorem fixed_setTap (t : Tap) (u : TapUnit) (s : State) : fixed (setTap t u s) = fixed s := by
  unfold setTap
  split <;> simp

@[simp] theorem fixed_loadTap (t : Tap) (ir : Byte) (dr : Nat) (s : State) : fixed (loadTap t ir dr s) = fixed s := by
  simp [loadTap]

@[simp] theorem fixed_bypassTap (t : Tap) (s : State) : fixed (bypassTap t s) = fixed s := by simp [bypassTap]

@[simp] theorem fixed_destructive {f : State → State} (h : ∀ u, fixed (f u) = fixed u) (t : Tap) (s : State) :
    fixed (destructive t f s) = fixed s := by
  simp [destructive, h]

@[simp] theorem fixed_captureFree (t : Tap) (ir : Byte) (s : State) : fixed (captureFree t ir s) = fixed s := by
  simp [captureFree]

@[simp] theorem fixed_leaveMbist (s : State) : fixed (leaveMbist s) = fixed s := by
  unfold leaveMbist
  split <;> simp

@[simp] theorem fixed_askMbist (n : Nat) (s : State) : fixed (askMbist n s) = fixed s := by simp [askMbist]

/-! ### The sideband -/

@[simp] theorem fixed_sidebandError (s : State) : fixed (sidebandError s) = fixed s := (rfl)

@[simp] theorem fixed_rackKnown (p : Nat) (s : State) : fixed (rackKnown p s) = fixed s := by
  simp only [rackKnown]
  repeat' split
  all_goals simp

end Sys2Proof.Machine
end

section
/-! What no step changes, in the reception of commands, in every arm of `exec` and in a step (R78). -/

namespace Sys2Proof.Machine

/-! ### Sessions -/

@[simp] theorem fixed_admitClient (conn : Nat) (e : Eave) (hello : TlsHello) (s : State) :
    fixed (admitClient conn e hello s) = fixed s := by simp [admitClient]

@[simp] theorem fixed_answerHere (p : Packet) (opcode status reason arg : Nat) (payload : List Byte) (s : State) :
    fixed (answerHere p opcode status reason arg payload s) = fixed s := by
  unfold answerHere
  cases p.path <;> simp

@[simp] theorem fixed_bindConnection (n : Nat) (o : U32) (s : State) : fixed (bindConnection n o s) = fixed s := (rfl)

@[simp] theorem fixed_newSession (c : Connection) (p : Packet) (s : State) : fixed (newSession c p s).1 = fixed s :=
  (rfl)

@[simp] theorem fixed_sessionOpen (c : Connection) (p : Packet) (s : State) : fixed (sessionOpen c p s) = fixed s := by
  unfold sessionOpen
  split <;> simp

@[simp] theorem fixed_identityRun (p : Packet) (s : State) : fixed (identityRun p s).1 = fixed s := (rfl)

@[simp] theorem fixed_featuresRun (p : Packet) (s : State) : fixed (featuresRun p s).1 = fixed s := (rfl)

@[simp] theorem fixed_certReadRun (p : Packet) (s : State) : fixed (certReadRun p s).1 = fixed s := (rfl)

@[simp] theorem fixed_completionReadRun (p : Packet) (s : State) : fixed (completionReadRun p s).1 = fixed s := (rfl)

@[simp] theorem fixed_sessionCloseRun (p : Packet) (s : State) : fixed (sessionCloseRun p s).1 = fixed s := (rfl)

@[simp] theorem fixed_sessionCloseAfter (p : Packet) (s : State) : fixed (sessionCloseAfter p s) = fixed s := (rfl)

@[simp] theorem fixed_rolemapReadRun (p : Packet) (s : State) : fixed (rolemapReadRun p s).1 = fixed s := (rfl)

@[simp] theorem fixed_rolemapWriteRun (p : Packet) (s : State) : fixed (rolemapWriteRun p s).1 = fixed s := by
  simp [rolemapWriteRun]

@[simp] theorem fixed_rolemapWriteAfter (p : Packet) (s : State) : fixed (rolemapWriteAfter p s) = fixed s := by
  simp [rolemapWriteAfter]

/-! ### Reception of Batten packets -/

@[simp] theorem fixed_countAt (c : Instr) (p : Packet) (code : Nat) (s : State) :
    fixed (countAt c p code s) = fixed s := (rfl)

@[simp] theorem fixed_run (c : Instr) (s : State) : fixed (run c s).1 = fixed s := by
  unfold run
  split <;> simp

@[simp] theorem fixed_follow (c : Instr) (s : State) : fixed (follow c s) = fixed s := by
  unfold follow
  split <;> simp

@[simp] theorem fixed_takeCopy (key : Nat) (c : Instr) (p : Packet) (s : State) :
    fixed (takeCopy key c p s) = fixed s := by
  unfold takeCopy
  repeat' split
  all_goals simp

@[simp] theorem fixed_settleDue (s : State) : fixed (settleDue s) = fixed s := by simp [settleDue]

@[simp] theorem fixed_conclude (c : Instr) (p : Packet) (before s : State) (a : Ans) :
    fixed (conclude c p before s a) = fixed s := by
  simp [conclude]

@[simp] theorem fixed_again (c : Instr) (p : Packet) (first : Digest) (path : Path) (s : State) :
    fixed (again c p first path s) = fixed s := by simp [again]

@[simp] theorem fixed_stale (c : Instr) (p : Packet) (s : State) : fixed (stale c p s) = fixed s := by simp [stale]

theorem fixed_of_judged {key : Nat} {c : Instr} {p : Packet} {s t : State} (h : judged key c p s = some t) :
    fixed t = fixed s := by
  simp only [judged] at h
  repeat' split at h
  all_goals cases h
  all_goals simp

@[simp] theorem fixed_record (key : Nat) (c : Instr) (p : Packet) (s : State) : fixed (record key c p s) = fixed s :=
  (rfl)

@[simp] theorem fixed_runNow (key : Nat) (c : Instr) (p : Packet) (s : State) : fixed (runNow key c p s) = fixed s := by
  simp [runNow]

@[simp] theorem fixed_perform (key : Nat) (c : Instr) (p : Packet) (s : State) :
    fixed (perform key c p s) = fixed s := by
  unfold perform
  split
  · simp
  · split
    · simp
    · cases hj : judged p.originator.toNat c p s with
      | none => simp
      | some t => exact fixed_of_judged hj

@[simp] theorem fixed_execute (key : Nat) (c : Instr) (p : Packet) (s : State) :
    fixed (execute key c p s) = fixed s := by
  simp [execute]

@[simp] theorem fixed_freePacket (p : Packet) (s : State) : fixed (freePacket p s) = fixed s := by
  unfold freePacket
  split <;> simp

@[simp] theorem fixed_drain (key target receiver fuel : Nat) (s : State) :
    fixed (drain key target receiver fuel s) = fixed s := by
  induction fuel generalizing s with
  | zero => rfl
  | succ fuel ih =>
    simp only [drain]
    repeat' split
    all_goals simp [ih]

@[simp] theorem fixed_drainAfter (key : Nat) (p : Packet) (s : State) : fixed (drainAfter key p s) = fixed s := by
  simp [drainAfter]

@[simp] theorem fixed_sequence (c : Instr) (p : Packet) (s : State) : fixed (sequence c p s) = fixed s := by
  simp only [sequence]
  split
  · next hj => exact fixed_of_judged hj
  · simp

@[simp] theorem fixed_anchor (p : Packet) (s : State) : fixed (anchor p s) = fixed s := by simp [anchor]

@[simp] theorem fixed_anchorAndSequence (c : Instr) (p : Packet) (s : State) :
    fixed (anchorAndSequence c p s) = fixed s := by
  unfold anchorAndSequence
  split <;> simp

@[simp] theorem fixed_admitPacket (c : Instr) (p : Packet) (s : State) : fixed (admitPacket c p s) = fixed s := by
  unfold admitPacket
  repeat' split
  all_goals simp

@[simp] theorem fixed_battenIn (p : Nat) (endpoint : U16) (bytes : List Byte) (s : State) :
    fixed (battenIn p endpoint bytes s).1 = fixed s := by simp [battenIn]

@[simp] theorem fixed_carry (c : Instr) (p : Packet) (s : State) : fixed (carry c p s).1 = fixed s := by
  simp only [carry]
  cases p.path with
  | management n =>
    dsimp only
    cases connection n s <;> simp
  | inBand q e => simp
  | ridge e => simp
  | finial => simp

@[simp] theorem fixed_receive (c : Instr) (p : Packet) (s : State) : fixed (receive c p s) = fixed s := by
  simp [receive]

@[simp] theorem fixed_idleTick (s : State) : fixed (idleTick s) = fixed s := by simp [idleTick]

/-! ### The meanings of the commands, and a step -/

/-- The part that no step changes, of the state that an outcome goes on to. -/
def fixedNext : Host.Outcome State Fault Refusal → Option (Identity × List Instr)
  | .next t => some (fixed t)
  | _ => none

@[simp] theorem fixedNext_next (t : State) : fixedNext (.next t) = some (fixed t) := (rfl)

@[simp] theorem fixedNext_ite (c : Prop) [Decidable c] (o q : Host.Outcome State Fault Refusal) :
    fixedNext (if c then o else q) = if c then fixedNext o else fixedNext q := apply_ite fixedNext c o q

@[simp] theorem fixedNext_execRegionSealDone (s : State) : fixedNext (execRegionSealDone s) = some (fixed s) := by
  unfold execRegionSealDone
  repeat' split
  all_goals simp

@[simp] theorem fixedNext_execResealDone (handle : U32) (s : State) :
    fixedNext (execResealDone handle s) = some (fixed s) := by
  unfold execResealDone
  split <;> simp

@[simp] theorem fixedNext_execContribEarlyHoldExpiry (port : Nat) (s : State) :
    fixedNext (execContribEarlyHoldExpiry port s) = some (fixed s) := by
  unfold execContribEarlyHoldExpiry
  repeat' split
  all_goals simp

@[simp] theorem fixedNext_execCollectiveTimeout (collective : U64) (s : State) :
    fixedNext (execCollectiveTimeout collective s) = some (fixed s) := by
  unfold execCollectiveTimeout
  split <;> simp

@[simp] theorem fixedNext_execSegmentSignDone (r s_ : BitVec 384) (s : State) :
    fixedNext (execSegmentSignDone r s_ s) = some (fixed s) := by
  unfold execSegmentSignDone
  repeat' split
  all_goals simp

@[simp] theorem fixedNext_execThatchPatrol (bank_ : Nat) (read : NandRead) (s : State) :
    fixedNext (execThatchPatrol bank_ read s) = some (fixed s) := by
  simp only [execThatchPatrol]
  repeat' split
  all_goals simp

@[simp] theorem fixedNext_execJournalExportDone (s : State) : fixedNext (execJournalExportDone s) = some (fixed s) := by
  unfold execJournalExportDone
  repeat' split
  all_goals simp

@[simp] theorem fixedNext_execReplayCollectiveDone (s : State) :
    fixedNext (execReplayCollectiveDone s) = some (fixed s) := by
  unfold execReplayCollectiveDone
  repeat' split
  all_goals simp

@[simp] theorem fixedNext_execFrameResume (port : Nat) (s : State) :
    fixedNext (execFrameResume port s) = some (fixed s) := by
  unfold execFrameResume
  split <;> simp

@[simp] theorem fixedNext_execContBlock (port : Nat) (count_ : BitVec 2) (cls : Byte) (s : State) :
    fixedNext (execContBlock port count_ cls s) = some (fixed s) := by
  simp only [execContBlock]
  repeat' split
  all_goals simp

@[simp] theorem fixedNext_execCartridgeMcuReady (target : Nat) (s : State) :
    fixedNext (execCartridgeMcuReady target s) = some (fixed s) := by
  unfold execCartridgeMcuReady
  split <;> simp

@[simp] theorem fixedNext_execRollSiteReady (site_ : Nat) (s : State) :
    fixedNext (execRollSiteReady site_ s) = some (fixed s) := by
  unfold execRollSiteReady
  split <;> simp

@[simp] theorem fixedNext_execActivationTimeout (site_ : Nat) (s : State) :
    fixedNext (execActivationTimeout site_ s) = some (fixed s) := by
  unfold execActivationTimeout
  split <;> simp

@[simp] theorem fixedNext_execSlateBistDone (site_ : Nat) (result : SlateBist) (s : State) :
    fixedNext (execSlateBistDone site_ result s) = some (fixed s) := by
  unfold execSlateBistDone
  repeat' split
  all_goals simp

@[simp] theorem fixedNext_execRehomeMapSwitch (s : State) : fixedNext (execRehomeMapSwitch s) = some (fixed s) := by
  simp only [execRehomeMapSwitch]
  repeat' split
  all_goals simp

@[simp] theorem fixedNext_execImgVerifyDone (result : VerifyResult) (s : State) :
    fixedNext (execImgVerifyDone result s) = some (fixed s) := by
  unfold execImgVerifyDone
  repeat' split
  all_goals simp

@[simp] theorem fixedNext_execPtpMessage (eave : Eave) (servo : PtpMessage) (s : State) :
    fixedNext (execPtpMessage eave servo s) = some (fixed s) := by
  unfold execPtpMessage
  repeat' split
  all_goals simp

@[simp] theorem fixedNext_execCalStartCheckEnd (window : CalWindow) (s : State) :
    fixedNext (execCalStartCheckEnd window s) = some (fixed s) := by
  unfold execCalStartCheckEnd
  split <;> simp

@[simp] theorem fixedNext_execAoutSelfCodeSwitch (s : State) :
    fixedNext (execAoutSelfCodeSwitch s) = some (fixed s) := by
  unfold execAoutSelfCodeSwitch
  split <;> simp

@[simp] theorem fixedNext_execCalMeasurementEnd (window : CalWindow) (s : State) :
    fixedNext (execCalMeasurementEnd window s) = some (fixed s) := by
  unfold execCalMeasurementEnd
  split <;> simp

@[simp] theorem fixedNext_execCalEndCheckEnd (window : CalWindow) (s : State) :
    fixedNext (execCalEndCheckEnd window s) = some (fixed s) := by
  unfold execCalEndCheckEnd
  split <;> simp

@[simp] theorem fixedNext_execPeriodicSnapshot (s : State) : fixedNext (execPeriodicSnapshot s) = some (fixed s) := by
  simp only [execPeriodicSnapshot]
  repeat' split
  all_goals simp

@[simp] theorem fixedNext_execParamSetApply (s : State) : fixedNext (execParamSetApply s) = some (fixed s) := by
  unfold execParamSetApply
  split <;> simp

@[simp] theorem fixedNext_execFreezeAtReached (s : State) : fixedNext (execFreezeAtReached s) = some (fixed s) := by
  unfold execFreezeAtReached
  split <;> simp

@[simp] theorem fixedNext_execSnapDone (durationMs : Nat) (s : State) :
    fixedNext (execSnapDone durationMs s) = some (fixed s) := by
  unfold execSnapDone
  split <;> simp

@[simp] theorem fixedNext_execSelftestResult (failA failB : Bool) (s : State) :
    fixedNext (execSelftestResult failA failB s) = some (fixed s) := by
  unfold execSelftestResult
  repeat' split
  all_goals simp

@[simp] theorem fixedNext_execVoteTimeout (s : State) : fixedNext (execVoteTimeout s) = some (fixed s) := by
  unfold execVoteTimeout
  split <;> simp

@[simp] theorem fixedNext_execVoteAnswerWrite (value : U32) (s : State) :
    fixedNext (execVoteAnswerWrite value s) = some (fixed s) := by
  unfold execVoteAnswerWrite
  repeat' split
  all_goals simp

@[simp] theorem fixedNext_execRoleSwapCheck (s : State) : fixedNext (execRoleSwapCheck s) = some (fixed s) := by
  unfold execRoleSwapCheck
  repeat' split
  all_goals simp

@[simp] theorem fixedNext_execRoleSwapMarker (s : State) : fixedNext (execRoleSwapMarker s) = some (fixed s) := by
  simp only [execRoleSwapMarker]
  repeat' split
  all_goals simp

@[simp] theorem fixedNext_execRoleSwapTimeout (s : State) : fixedNext (execRoleSwapTimeout s) = some (fixed s) := by
  unfold execRoleSwapTimeout
  split <;> simp

@[simp] theorem fixedNext_execFinialWatchdogRestart (reportA reportB : Byte) (s : State) :
    fixedNext (execFinialWatchdogRestart reportA reportB s) = some (fixed s) := by
  simp only [execFinialWatchdogRestart]
  repeat' split
  all_goals simp

@[simp] theorem fixedNext_execPatrolSliceDue (s : State) : fixedNext (execPatrolSliceDue s) = some (fixed s) := by
  simp only [execPatrolSliceDue]
  repeat' split
  all_goals simp

@[simp] theorem fixedNext_execPatrolNoticeEnd (s : State) : fixedNext (execPatrolNoticeEnd s) = some (fixed s) := by
  unfold execPatrolNoticeEnd
  split <;> simp

@[simp] theorem fixedNext_execPatrolSliceIsolate (s : State) :
    fixedNext (execPatrolSliceIsolate s) = some (fixed s) := by
  unfold execPatrolSliceIsolate
  repeat' split
  all_goals simp

@[simp] theorem fixedNext_execPatrolDrainTimeout (s : State) :
    fixedNext (execPatrolDrainTimeout s) = some (fixed s) := by
  unfold execPatrolDrainTimeout
  split <;> simp

@[simp] theorem fixedNext_execPatrolTestDone (pass : Bool) (s : State) :
    fixedNext (execPatrolTestDone pass s) = some (fixed s) := by
  unfold execPatrolTestDone
  split <;> simp

@[simp] theorem fixedNext_execAuditTick (site_ : Nat) (walk : WalkResult) (s : State) :
    fixedNext (execAuditTick site_ walk s) = some (fixed s) := by
  unfold execAuditTick
  split <;> simp

@[simp] theorem fixedNext_execEventAckWrite (number : U32) (s : State) :
    fixedNext (execEventAckWrite number s) = some (fixed s) := by
  unfold execEventAckWrite
  split <;> simp

@[simp] theorem fixedNext_execConnectionClose (conn : Nat) (s : State) :
    fixedNext (execConnectionClose conn s) = some (fixed s) := by
  unfold execConnectionClose
  split <;> simp

@[simp] theorem fixedNext_execMalformedPacket (path : Path) (fault : PacketFault) (bytes : List Byte) (s : State) :
    fixedNext (execMalformedPacket path fault bytes s) = some (fixed s) := by
  simp only [execMalformedPacket]
  repeat' split
  all_goals simp

@[simp] theorem fixedNext_execGapHoldExpiry (originator : U32) (s : State) :
    fixedNext (execGapHoldExpiry originator s) = some (fixed s) := by
  unfold execGapHoldExpiry
  repeat' split
  all_goals simp

@[simp] theorem fixedNext_execMbistRun (tap : Tap) (s : State) : fixedNext (execMbistRun tap s) = some (fixed s) := by
  unfold execMbistRun
  repeat' split
  all_goals simp [ite_apply]

theorem fixed_of_bootTarget {kind target : Nat} {s t : State} {x : Option Nat × Bool}
    (h : bootTarget kind target s = (t, x)) : fixed t = fixed s := by
  simpa [h] using fixed_bootTarget kind target s

@[simp] theorem fixedNext_execEaveBoot (e : Eave) (ef ec ee : EpochResult) (s : State) :
    fixedNext (execEaveBoot e ef ec ee s) = some (fixed s) := by
  unfold execEaveBoot
  split
  · rfl
  · split
    · rfl
    · next hb => simp [fixed_of_bootTarget hb]

@[simp] theorem fixedNext_execFirmwareLoadDone (r : LoadResult) (s : State) :
    fixedNext (execFirmwareLoadDone r s) = some (fixed s) := by
  simp only [execFirmwareLoadDone, fixedNext_ite]
  split
  · rfl
  · split
    · split
      · simp
      · next hb => simp [fixed_of_bootTarget hb]
    all_goals simp

/-- A Batten command comes through its reception, every other command through its own meaning; the meanings listed here
compose the operations above without a choice of their own. -/
theorem fixedNext_exec (c : Instr) (s : State) : fixedNext (exec c s) = some (fixed s) := by
  by_cases h : ∃ p, c.packet? = some p ∧ (opRow c).isSome = true
  · obtain ⟨p, hp, hr⟩ := h
    rw [exec_batten hp hr, fixedNext_next, fixed_receive]
  · revert h
    cases c <;> simp [Instr.packet?, opRow, exec,
      execLoftAccessDone, execLoftScrubPass, execLoftReinitDone, execScrubUncorrectable, execRampRelease,
      execLendStart, execRecordDurable, execSegmentSealTimeout, execBankFault, execBankResyncDone, execDataFrame,
      execContribFrame, execLoftRdFrame, execLoftWrFrame, execFrameTypeError, execEgressGrant, execPortDrainEnd,
      execPortSignalDetect, execLinkTrainingDone, execTrainingTimeout, execPortRetrainTimer, execBerMeasureEnd,
      execFecSwitch, execIdentityBlock, execIdentitySend, execLstateBlock, execLstateRefresh, execAdaptAckTimeout,
      execCreditBlock, execCreditRefresh, execAlignRound, execLaneSignalLoss, execFecLBerWindow,
      execCrossingQueueOverrun, execFreezeIdleRx, execReservedBlock, execExpressPreemptSof, execFrameRxTimeout,
      execFecUncorrectable, execStrayBlock, execModuleReady, execModuleRemoval, execTallyPllLock, execRackMarker,
      execTallySlewStep, execTallySyncLoss, execTallyFreqWindow, execHoldoverExpiry, execTallySyncReturn,
      execTallyRequest, execTallyResponse, execDeglitchHoldEnd, execComplianceFaultOnset, execComplianceFaultClear,
      execSenseWord, execIndeterminateTimeout, execLeakWindowExpiry, execFlowTrip, execThermalTrip,
      execCounterSnapshot, execTallyMark, execFrzNAssert, execFrzNRelease, execFreezeStop, execAutoThaw,
      execSnapReadoutStart, execDivergedReport, execHeartbeat, execHeartbeatInterval, execEaveRestartRelease,
      execResyncDigestReport, execInventoryWrite, execAonPowerUp, execAonPowerLoss, execCoolantGatePass,
      execCoolantGateAlert, execRimWaitExpiry, execSlateRailEnable, execBusbarPowerFail, execBusbarOvervoltage,
      execPowerFailClear, execHoldupExpiry, execBusRangeResume, execBusbarLow, execBusbarRangeReturn, execShelfFault,
      execShelfOkReturn, execSlotIdChange, execCartridgeFault, execFinialBoot, execWaferResetRelease,
      execFullBistDone, execPushTimeout, execThatchMount, execPatrolCycleStart, execFuseTrip, execGableCoreFault,
      execExtest, execSamplePreload, execIdcode, execClamp, execHighz, execExtestPulse, execExtestTrain,
      execDescriptorRead, execSlateSel, execScanDump, execTallyRead, execBypass, execTapReset, execRackIdWrite,
      execRowPosWrite, execMarkerNextWrite, execInvSelWrite, execSidebandRegisterWrite, execTlsHandshake,
      execSessionLingerExpiry, execUnassignedOpcode]

theorem fixed_of_exec {c : Instr} {s t : State} (h : exec c s = .next t) : fixed t = fixed s := by
  simpa [h] using fixedNext_exec c s

/-- Settles O55: every command leaves the identity and the queue that it is run on, and the step hands it the rest of
the queue. -/
theorem noStepChangesIdentity : Obligations.NoStepChangesIdentity := by
  intro s t h
  unfold step at h
  split at h
  · next hq =>
    obtain rfl := Host.Outcome.next.inj h
    obtain ⟨hident, hpending⟩ := Prod.mk.inj (fixed_idleTick s)
    exact ⟨hident, by rw [hpending, hq, List.tail_nil]⟩
  · next hq =>
    obtain ⟨hident, hpending⟩ := Prod.mk.inj (fixed_of_exec h)
    exact ⟨hident, by rw [hpending, hq, List.tail_cons]⟩

end Sys2Proof.Machine
end

section
/-! The commands of Table 6.8 and what isolates a slate (R91, R99, R342, R343, R497-R502, R584, R836). -/

namespace Sys2Proof.Machine

/-! ### SLATE_ISOLATE and SLATE_RESTORE (R99, R342, R343) -/

section
variable {n : Nat} {p : Packet} {s : State}

theorem slateIsolateRun_serving (h : isServing p.inst.toNat s = true) :
    slateIsolateRun p s = (startOp (.slateIsolate p.inst.toNat) p 0x3C s, .accept []) := by
  simp [slateIsolateRun, h]

theorem slateIsolateRun_notServing (h : isServing p.inst.toNat s = false) :
    slateIsolateRun p s = (s, refuse stPrecond rNotServing 0) := by
  simp [slateIsolateRun, h]

/-- A restore that meets no obstacle powers the slate, with its reset held, for slate BIST (R99). -/
theorem tryRestore_starts (hop : hasOp (isRestoreOp n) s = true) (hdef : defective n s = false)
    (htrip : trippedTwice n s = false) (hwait : restoreWaits n s = false) (hfwd : forwards n s = false) :
    tryRestore n s = slateRailOn n (setSite n (fun t => { t with restoreWaiting := false, bistRunning := true })
      (leaveRoll n s)) := by
  simp [tryRestore, hop, hdef, htrip, hwait, hfwd]

/-! ### What isolates a slate (R497-R502, R584, R836) -/

/-- A roll in progress goes on without the isolated site. -/
theorem isolate_eq (n cause : Nat) (st : SiteState) (s : State) : isolate n cause st s =
    if s.firmware.activation = none then isolateSite n cause st s
    else settleActivations (rollNext (isolateSite n cause st s)) := by
  unfold isolate
  cases s.firmware.activation <;> rfl

theorem exec_fuseTrip (h : slateRail n s = true) :
    exec (.fuseTrip n) s = .next (isolate n rFuseTrip (if s.power.banksMounted then .isolated else .failed)
      (count (cFinial 6) (setSite n (fun t => { t with fuseTrips := t.fuseTrips ++ [s.now], bistPassed := false }) s))) :=
  (if_neg (by simp [h]) : execFuseTrip n s = _).trans rfl

theorem exec_gableCoreFault (hlive : waferLive s = true) (hfwd : forwards n s = true) :
    exec (.gableCoreFault n) s = .next (isolate n rCoreFault .isolated s) := by
  simp [exec, execGableCoreFault, hlive, hfwd]

/-- The audit of a slate whose counters add up, and that has no walk to repeat, finds nothing (R497). -/
theorem exec_auditTick_clean (hm : auditMismatch n s = false) (hw : (site n s).walkPending = false) (w : WalkResult) :
    exec (.auditTick n w) s = .next s := by
  simp [exec, execAuditTick, hm, hw]

/-- What an audit that has something to find does with the result of its walk (R502): a double reference isolates the
slate, the same leaked buffers twice are reclaimed, and others are remembered for the next walk. -/
def auditFinds (n : Nat) (s : State) : WalkResult → State
  | .doubleReference => isolate n rAudit .isolated (errorClass 2 s)
  | .candidates cand =>
    count (cSlate n 8) (if (site n s).walkPending = true ∧ (site n s).prevCandidates = cand then
      countBy (cSlate n 9) cand.length
        (setSite n (fun t => { t with free := t.free + cand.length, walkPending := false, prevCandidates := [] })
          (errorClass 2 s))
      else setSite n (fun t => { t with prevCandidates := cand, walkPending := !cand.isEmpty }) (errorClass 2 s))

theorem exec_auditTick_finds (hlive : waferLive s = true) (hfwd : forwards n s = true)
    (h : auditMismatch n s = true ∨ (site n s).walkPending = true) (w : WalkResult) :
    exec (.auditTick n w) s = .next (auditFinds n s w) := by
  have due : ¬(auditMismatch n s = false ∧ (site n s).walkPending = false) := by
    rintro ⟨hm, hw⟩
    simp [hm, hw] at h
  cases w <;> simp [exec, execAuditTick, auditFinds, hlive, hfwd, due, eq_comm (a := (site n s).prevCandidates)]
end

/-- Settles O12: the reads answer what Table 6.8 gives, the two commands on slates start their operation or are refused,
and each event isolates its slate on its own condition. -/
theorem slatesAndSwitchCore : Obligations.SlatesAndSwitchCore := by
  refine ⟨?topologyRead, ?dormerStatus, ?skylightRead, ?slateIsolate, ?slateRestore, ?restores, ?fuseTrip, ?coreFault,
    ?auditFinds, ?auditClean, ?isolates⟩
  case topologyRead =>
    intro p s h
    exact completes_of_run rfl rfl h rfl rfl fun _ => rfl
  case dormerStatus =>
    intro p s h
    exact completes_of_run rfl rfl h rfl rfl fun _ => rfl
  case skylightRead =>
    intro p s h
    exact completes_of_run rfl rfl h rfl rfl fun _ => rfl
  case slateIsolate =>
    intro p s h
    refine ⟨fun hs => ?_, fun hs => ?_⟩
    · exact completes_of_run rfl rfl h (slateIsolateRun_serving hs) rfl fun _ => rfl
    · exact refuses_of_run rfl rfl h (slateIsolateRun_notServing hs) rfl
  case slateRestore =>
    intro p s h
    refine ⟨fun hphase => ?_, fun hlinks hready => ?_⟩
    · exact completes_of_run rfl rfl h (if_pos hphase) rfl fun _ => rfl
    · exact refuses_of_run rfl rfl h (if_neg (not_or.mpr ⟨hlinks, hready⟩)) rfl
  case restores => exact fun n s => tryRestore_starts
  case fuseTrip => exact fun n s => exec_fuseTrip
  case coreFault => exact fun n s => exec_gableCoreFault
  case auditFinds =>
    intro n s hlive hfwd h
    refine ⟨exec_auditTick_finds hlive hfwd h _, fun cand hw hc => ?_, fun cand hne => ?_⟩
    · simp [exec_auditTick_finds hlive hfwd h, auditFinds, hw, hc]
    · simp only [exec_auditTick_finds hlive hfwd h, auditFinds, if_neg hne]
  case auditClean => exact fun n s _ _ => exec_auditTick_clean
  case isolates =>
    intro n cause st s
    exact ⟨fun h => by rw [isolate_eq, if_pos h], fun h => by rw [isolate_eq, if_neg h]⟩

end Sys2Proof.Machine
end

section
/-! Mesh paths (R84): what the two minimal paths and the detour have in common, and where the minimal ones end. -/

namespace Sys2Proof.Machine

/-! ### Walks -/

/-- A walk from `a` to `b` whose every hop is one of `R`'s. -/
structure Joins (R : Nat → Nat → Prop) (a b : Nat) (l : List Nat) : Prop where
  head : l.head? = some a
  last : l.getLast? = some b
  hops : l.IsChain R

section
variable {R S : Nat → Nat → Prop} {a b c : Nat} {l m : List Nat}

theorem Joins.map {f : Nat → Nat} (h : Joins R a b l) (hf : ∀ x y, R x y → S (f x) (f y)) :
    Joins S (f a) (f b) (l.map f) where
  head := by simp [h.head]
  last := by simp [h.last]
  hops := (List.isChain_map f).mpr (h.hops.imp hf)

/-- A walk goes on where another ends. -/
theorem Joins.glue (h : Joins R a b l) (k : Joins R b c m) : Joins R a c (l ++ m.tail) := by
  obtain ⟨t, rfl⟩ := List.head?_eq_some_iff.mp k.head
  have hops := List.isChain_cons.mp k.hops
  refine ⟨by simp [h.head], ?_, h.hops.append hops.2 fun x hx y hy => ?_⟩
  · have last := k.last
    cases t with
    | nil => simpa [h.last] using last
    | cons y t => simpa [List.getLast?_append] using last
  · obtain rfl : b = x := by simpa [h.last] using hx
    exact hops.1 y hy

theorem Joins.reverse (h : Joins R a b l) : Joins (fun x y => R y x) b a l.reverse where
  head := by rw [List.head?_reverse, h.last]
  last := by rw [List.getLast?_reverse, h.head]
  hops := List.isChain_reverse.mpr h.hops
end

/-- Two rows, or two columns, of the mesh that lie next to each other. -/
def Adjacent (x y : Nat) : Prop := x < 6 ∧ y < 6 ∧ (x + 1 = y ∨ y + 1 = x)

theorem Adjacent.symm {x y : Nat} (h : Adjacent x y) : Adjacent y x := ⟨h.2.1, h.1, h.2.2.symm⟩

theorem joins_ascending {a b : Nat} (h : a ≤ b) (hb : b < 6) :
    Joins Adjacent a b ((List.range (b + 1 - a)).map (a + ·)) where
  head := by simp [List.head?_range]; omega
  last := by simp [List.getLast?_range]; omega
  hops := by
    rw [List.isChain_map, List.isChain_range]
    intro m hm
    unfold Adjacent
    omega

/-- The rows, or the columns, from one to another. -/
theorem joins_walk {a b : Nat} (ha : a < 6) (hb : b < 6) : Joins Adjacent a b (walk a b) := by
  unfold walk
  split
  · next h => exact joins_ascending h hb
  · next h =>
    have down := (joins_ascending (by omega : b ≤ a) ha).reverse
    exact ⟨down.head, down.last, down.hops.imp fun _ _ => Adjacent.symm⟩

theorem length_walk (a b : Nat) : (walk a b).length = ((a : Int) - b).natAbs + 1 := by
  unfold walk
  split <;> simp <;> omega

/-! ### The minimal paths -/

/-- A hop between neighbouring sites. -/
def Hop (a b : Nat) : Prop := b ∈ neighbours a

theorem hop_of_adjacent_rows {x y c : Nat} (hc : c < 6) (h : Adjacent x y) : Hop (6 * x + c) (6 * y + c) := by
  obtain ⟨hx, hy, h⟩ := h
  simp only [Hop, neighbours, List.mem_append, List.mem_ite_nil_right, List.mem_singleton]
  omega

theorem hop_of_adjacent_columns {x y r : Nat} (h : Adjacent x y) : Hop (6 * r + x) (6 * r + y) := by
  obtain ⟨hx, hy, h⟩ := h
  simp only [Hop, neighbours, List.mem_append, List.mem_ite_nil_right, List.mem_singleton]
  omega

section
variable {a b : Nat} (ha : a < 36) (hb : b < 36)
include ha hb

theorem joins_rows {c : Nat} (hc : c < 6) :
    Joins Hop (6 * (a / 6) + c) (6 * (b / 6) + c) ((walk (a / 6) (b / 6)).map fun x => 6 * x + c) :=
  (joins_walk (by omega) (by omega)).map fun _ _ => hop_of_adjacent_rows hc

omit ha hb in
theorem joins_columns (r : Nat) :
    Joins Hop (6 * r + a % 6) (6 * r + b % 6) ((walk (a % 6) (b % 6)).map fun y => 6 * r + y) :=
  (joins_walk (by omega) (by omega)).map fun _ _ => hop_of_adjacent_columns

theorem joins_xyPath : Joins Hop a b (xyPath a b) := by
  have path := (joins_rows ha hb (by omega : a % 6 < 6)).glue (joins_columns (a := a) (b := b) (b / 6))
  simpa [xyPath, Nat.div_add_mod] using path

theorem joins_yxPath : Joins Hop a b (yxPath a b) := by
  have path := (joins_columns (a := a) (b := b) (a / 6)).glue (joins_rows ha hb (by omega : b % 6 < 6))
  simpa [yxPath, Nat.div_add_mod] using path
end

theorem length_xyPath (a b : Nat) : (xyPath a b).length = manhattan a b + 1 := by
  simp only [xyPath, manhattan, List.length_append, List.length_map, List.length_tail, length_walk]
  omega

theorem length_yxPath (a b : Nat) : (yxPath a b).length = manhattan a b + 1 := by
  simp only [yxPath, manhattan, List.length_append, List.length_map, List.length_tail, length_walk]
  omega

/-! ### The detour -/

/-- A path that a frame may take: it starts at its slate, hops between neighbours over open links, and every site inside
it forwards (R84). -/
structure PathOpen (a : Nat) (path : List Nat) (s : State) : Prop where
  head : path.head? = some a
  inside : ∀ n ∈ path.tail.dropLast, forwards n s = true
  links : linksOpen s path = true
  hops : path.IsChain Hop

theorem Joins.pathOpen {a b : Nat} {path : List Nat} {s : State} (h : Joins Hop a b path)
    (hclear : pathClear path s = true) : PathOpen a path s := by
  simp only [pathClear, Bool.and_eq_true, List.all_eq_true] at hclear
  exact ⟨h.head, hclear.1, hclear.2, h.hops⟩

section
variable {a b : Nat} {d : List (Option Nat)} {s : State}

/-- A step of the detour: it stops, or goes over an open link to a neighbour that is the target or forwards. -/
theorem detourWalk_succ (fuel : Nat) : detourWalk b d s (fuel + 1) a = [a] ∨
    a ≠ b ∧ ∃ m, Hop a m ∧ linkOpen a m s = true ∧ (m = b ∨ forwards m s = true) ∧
      detourWalk b d s (fuel + 1) a = a :: detourWalk b d s fuel m := by
  rw [detourWalk]
  split
  · exact .inl rfl
  · next hne =>
    split
    · next m hm =>
      have hopen := List.find?_some hm
      simp only [Bool.and_eq_true, Bool.or_eq_true, decide_eq_true_eq] at hopen
      exact .inr ⟨hne, m, List.mem_of_find?_eq_some hm, hopen.1.1, hopen.1.2, rfl⟩
    · exact .inl rfl

theorem head?_detourWalk (fuel : Nat) : (detourWalk b d s fuel a).head? = some a := by
  cases fuel with
  | zero => rfl
  | succ fuel =>
    obtain h | ⟨_, m, _, _, _, h⟩ := detourWalk_succ (a := a) (b := b) (d := d) (s := s) fuel <;> simp [h]

theorem isChain_detourWalk (fuel : Nat) : (detourWalk b d s fuel a).IsChain Hop := by
  induction fuel generalizing a with
  | zero => exact List.isChain_singleton a
  | succ fuel ih =>
    obtain h | ⟨_, m, hm, _, _, h⟩ := detourWalk_succ (a := a) (b := b) (d := d) (s := s) fuel
    · rw [h]; exact List.isChain_singleton a
    · rw [h]
      exact List.isChain_cons.mpr ⟨by simpa [head?_detourWalk] using hm, ih⟩

theorem linksOpen_cons {m : Nat} {rest : List Nat} (h : rest.head? = some m) :
    linksOpen s (a :: rest) = (linkOpen a m s && linksOpen s rest) := by
  obtain ⟨t, rfl⟩ := List.head?_eq_some_iff.mp h
  rfl

theorem linksOpen_detourWalk (fuel : Nat) : linksOpen s (detourWalk b d s fuel a) = true := by
  induction fuel generalizing a with
  | zero => rfl
  | succ fuel ih =>
    obtain h | ⟨_, m, _, hlink, _, h⟩ := detourWalk_succ (a := a) (b := b) (d := d) (s := s) fuel
    · rw [h]; rfl
    · rw [h, linksOpen_cons (head?_detourWalk fuel), hlink, ih, Bool.and_self]

theorem detourWalk_ne_nil (fuel : Nat) : detourWalk b d s fuel a ≠ [] := by
  intro h
  simpa [h] using head?_detourWalk (a := a) (b := b) (d := d) (s := s) fuel

/-- Once a detour has come to a site that forwards, every site but its last does. -/
theorem forwards_of_mem_dropLast_detourWalk (fuel : Nat) (ha : a = b ∨ forwards a s = true) :
    ∀ n ∈ (detourWalk b d s fuel a).dropLast, forwards n s = true := by
  induction fuel generalizing a with
  | zero => simp [detourWalk]
  | succ fuel ih =>
    obtain h | ⟨hne, m, _, _, hm, h⟩ := detourWalk_succ (a := a) (b := b) (d := d) (s := s) fuel
    · simp [h]
    · rw [h, List.dropLast_cons_of_ne_nil (detourWalk_ne_nil fuel)]
      intro n hn
      rcases List.mem_cons.mp hn with rfl | hn
      · exact ha.resolve_left hne
      · exact ih hm n hn

theorem pathOpen_detourWalk (fuel : Nat) : PathOpen a (detourWalk b d s fuel a) s where
  head := head?_detourWalk fuel
  inside := by
    cases fuel with
    | zero => simp [detourWalk]
    | succ fuel =>
      obtain h | ⟨_, m, _, _, hm, h⟩ := detourWalk_succ (a := a) (b := b) (d := d) (s := s) fuel
      · simp [h]
      · rw [h, List.tail_cons]
        exact forwards_of_mem_dropLast_detourWalk fuel hm
  links := linksOpen_detourWalk fuel
  hops := isChain_detourWalk fuel

theorem pathOpen_of_detour {path : List Nat} (h : detour a b s = some path) : PathOpen a path s := by
  simp only [detour] at h
  split at h
  · cases h
  · cases h
    exact pathOpen_detourWalk 36
end

/-! ### Any path of the mesh -/

/-- A path of the mesh is a minimal one where one is clear, X before Y, and a detour only where none is. -/
theorem meshPath_cases {a b : Nat} {s : State} {path : List Nat} (h : meshPath a b s = some path) :
    (path = xyPath a b ∨ path = yxPath a b) ∧ pathClear path s = true ∨
      ¬(pathClear (xyPath a b) s = true ∨ pathClear (yxPath a b) s = true) ∧ detour a b s = some path := by
  unfold meshPath at h
  split at h
  · next hxy => cases h; exact .inl ⟨.inl rfl, hxy⟩
  · next hxy =>
    split at h
    · next hyx => cases h; exact .inl ⟨.inr rfl, hyx⟩
    · next hyx => exact .inr ⟨fun hclear => hclear.elim hxy hyx, h⟩

/-- Settles O15: each of the three kinds of path is open, and a detour is taken only where no minimal path is clear. -/
theorem meshPathsAreClear : Obligations.MeshPathsAreClear := by
  intro a b s path ha hb h
  suffices hs : PathOpen a path s ∧ (pathClear (xyPath a b) s = true ∨ pathClear (yxPath a b) s = true →
      path.getLast? = some b ∧ path.length = manhattan a b + 1) by
    obtain ⟨hopen, hends⟩ := hs
    exact ⟨hopen.head, hopen.inside, hopen.links, List.isChain_iff_getElem.mp hopen.hops, hends⟩
  obtain ⟨rfl | rfl, hclear⟩ | ⟨hnone, hdetour⟩ := meshPath_cases h
  · have joins := joins_xyPath ha hb
    exact ⟨joins.pathOpen hclear, fun _ => ⟨joins.last, length_xyPath a b⟩⟩
  · have joins := joins_yxPath ha hb
    exact ⟨joins.pathOpen hclear, fun _ => ⟨joins.last, length_yxPath a b⟩⟩
  · exact ⟨pathOpen_of_detour hdetour, fun hclear => absurd hclear hnone⟩

end Sys2Proof.Machine
end

section
/-! The tally's other events (R128, R158, R163-R173, R177, R178, R757): what a record and a change of state leave of the
tally, what the loss of TALLY_SYNC does, and what passes with time. -/

namespace Sys2Proof.Machine

/-! ### What a record leaves of the tally -/

section
variable {s : State}

@[simp] theorem noteNumber_tally (body : RecordBody) (n : Nat) (s : State) :
    (noteNumber body n s).tally = s.tally := by
  unfold noteNumber
  split <;> rfl

@[simp] theorem countHeld_tally (s : State) : (countHeld s).tally = s.tally := by
  unfold countHeld
  split <;> rfl

@[simp] theorem errorClass_tally (cls : Nat) (s : State) : (errorClass cls s).tally = s.tally := by
  unfold errorClass trigger
  split
  · split <;> rfl
  · rfl

/-- A record moves nothing of the tally but the UTC time that a record was stamped with last. -/
theorem buildRecord_tally (body : RecordBody) (builder extra : Nat) (s : State) :
    (buildRecord body builder extra s).tally =
      { s.tally with lastPtpNs := (buildRecord body builder extra s).tally.lastPtpNs } := by
  simp only [buildRecord, noteNumber_tally]
  split <;> rfl

theorem journalWith_tally (body : RecordBody) (builder extra : Nat) (s : State) :
    (journalWith body builder extra s).tally =
      { s.tally with lastPtpNs := (journalWith body builder extra s).tally.lastPtpNs } := by
  unfold journalWith
  split
  · rfl
  · split
    · rfl
    · simpa using buildRecord_tally body builder extra (countHeld s)

/-- A change of the tally's state moves its state and its cause, and what the change's record moves. -/
theorem tallyTo_tally (st : TallyState) (cause : Nat) (s : State) : (tallyTo st cause s).tally =
    { s.tally with state := st, cause := BitVec.ofNat 16 cause, lastPtpNs := (tallyTo st cause s).tally.lastPtpNs } := by
  simp only [tallyTo]
  split
  · next h => rw [← h]
  · rw [apply_ite State.tally, errorClass_tally, ite_self]
    exact journalWith_tally _ _ _ _

/-! ### Markers and slew steps (R128, R163-R167) -/

theorem exec_rackMarker (cap : Option PtpCapture) (hlive : waferLive s = true) (hsync : s.tally.syncPresent = true)
    (hlock : s.tally.pllLocked = true) :
    exec (.rackMarker cap) s = .next (activationMarker (swapRecord (broadcastTally (anchorAt cap
      { markTally (toMarker s) with
        tally.lastMarker := some (markTally (toMarker s)).now, switch.severed := []
        ports := (markTally (toMarker s)).ports.map fun q => { q with requestAnswered := false } })))) := by
  simp [exec, execRackMarker, hlive, hsync, hlock]

theorem exec_tallySlewStep_slower (hlive : waferLive s = true) (hcount : s.tally.counting = true)
    (h : 0 < s.tally.slewLeft) : exec .tallySlewStep s =
      .next (rampRefill 1 { s with now := s.now + 1, tally.slewLeft := s.tally.slewLeft - 1 }) := by
  simp [exec, execTallySlewStep, hlive, hcount, h]

theorem exec_tallySlewStep_faster (hlive : waferLive s = true) (hcount : s.tally.counting = true)
    (h : s.tally.slewLeft < 0) : exec .tallySlewStep s =
      .next { advance 1 s with tally := { (advance 1 s).tally with
        value := s.tally.value + 2, slewLeft := s.tally.slewLeft + 1, skipped := some (tallyNat s + 1) } } := by
  simp [exec, execTallySlewStep, hlive, hcount, h, h.not_gt]

/-! ### TALLY_SYNC and holdover (R158, R164-R166) -/

/-- A loss of TALLY_SYNC, before the state that it leads to. -/
def syncDropped (s : State) : State :=
  { s with tally := { s.tally with
      syncPresent := false, pllLocked := false, expected := none, announced := none, slewLeft := 0, lastMarker := none
      acquire := if s.tally.acquire = Acquire.idle then Acquire.idle else .waitPll } }

theorem syncLost_eq (s : State) : syncLost s =
    if waferLive s = true ∧ (s.tally.state = .locked ∨ s.tally.state = .slewing) then
      tallyTo .holdover 0 (syncDropped s)
    else syncDropped s := by
  have live : waferLive (syncDropped s) = waferLive s := rfl
  have state : (syncDropped s).tally.state = s.tally.state := rfl
  rw [← live, ← state]
  change (match (syncDropped s).tally.state with
    | .locked | .slewing => if waferLive (syncDropped s) then tallyTo .holdover 0 (syncDropped s) else syncDropped s
    | _ => syncDropped s) = _
  cases (syncDropped s).tally.state <;> simp

theorem syncLost_syncPresent (s : State) : (syncLost s).tally.syncPresent = false := by
  rw [syncLost_eq]
  split
  · rw [tallyTo_tally]; rfl
  · rfl

/-- A live tray that was locked holds over (R158). -/
theorem syncLost_holdover (hlive : waferLive s = true) (h : s.tally.state = .locked ∨ s.tally.state = .slewing) :
    (syncLost s).tally.state = .holdover := by
  rw [syncLost_eq, if_pos ⟨hlive, h⟩, tallyTo_tally]

theorem exec_tallySyncLoss (h : s.tally.syncPresent = true) : exec .tallySyncLoss s = .next (syncLost s) := by
  simp [exec, execTallySyncLoss, h]

theorem exec_tallyFreqWindow_lost {e : Int} (h : s.tally.syncPresent = true) (he : 1000 < e.natAbs) :
    exec (.tallyFreqWindow e) s = .next (syncLost s) := by
  have hwide : ¬(!s.tally.syncPresent || decide (e.natAbs ≤ 800)) = true := by
    simp only [h, Bool.not_true, Bool.false_or, decide_eq_true_eq]
    omega
  exact (if_neg hwide).trans (if_pos he)

theorem exec_tallyFreqWindow_kept {e : Int} (he : e.natAbs ≤ 800) : exec (.tallyFreqWindow e) s = .next s := by
  simp [exec, execTallyFreqWindow, he]

theorem exec_tallySyncReturn (h : s.tally.syncPresent = false) : exec .tallySyncReturn s =
    .next { s with tally := { s.tally with
      syncPresent := true, pllLocked := decide (s.tally.state ≠ .acquiring)
      awaitAnnounced := decide (s.tally.state ≠ .acquiring), announced := none } } := by
  simp [exec, execTallySyncReturn, h, bne, decide_not, beq_eq_decide]

theorem exec_holdoverExpiry (hlive : waferLive s = true) (h : s.tally.state = .holdover) :
    exec .holdoverExpiry s = .next (cancelArm (tallyTo .unlocked 0 s)) := by
  simp [exec, execHoldoverExpiry, hlive, h]

/-! ### Exchanges and servos (R171-R173, R177, R178) -/

theorem exec_tallyRequest {n : Nat} (t1 : U64) (hlive : waferLive s = true) (hup : (port n s).state = .up) :
    exec (.tallyRequest n t1) s = .next (if (port n s).requestAnswered = true then count (cPort n 0x15) s
      else emit (.tally n .response s.tally.state.code 0 (stamp16 (fraction (bumpFree s)) s) (stamp16 (fraction s) s) t1)
        (setPort n (fun q => { q with requestAnswered := true }) (bumpFree (bumpFree s)))) := by
  cases h : (port n s).requestAnswered <;> simp [exec, execTallyRequest, hlive, hup, h]

theorem exec_tallyResponse {n : Nat} (t1 t2 t3 t4 : U64) (hlive : waferLive s = true)
    (h : (rowUplinks s).contains n = true) : exec (.tallyResponse n t1 t2 t3 t4) s = .next (setPort n
      (fun q => { q with exchanges := (((t2 - t1).toInt - (t4 - t3).toInt) :: q.exchanges).take 16 }) s) := by
  exact if_neg (by simp only [hlive, h]; decide)

/-- A running Eave takes the PTP messages of the tray's domain and transport. -/
theorem exec_ptpMessage_heard {e : Eave} {v : PtpMessage} (hboot : (eave e s).booted = true)
    (hdomain : v.domain = param pPtpDomain s) (htransport : v.transport = param pPtpTransport s) :
    exec (.ptpMessage e v) s = .next (match e with
      | .a => { s with tally.servoA := v.servo }
      | .b => { s with tally.servoB := v.servo }) := by
  cases e <;> simp [exec, execPtpMessage, hboot, hdomain, htransport]

theorem exec_ptpMessage_unheard {v : PtpMessage}
    (h : v.domain ≠ param pPtpDomain s ∨ v.transport ≠ param pPtpTransport s) (e : Eave) :
    exec (.ptpMessage e v) s = .next s := by
  rcases h with h | h <;> simp [exec, execPtpMessage, h]

/-! ### Time (R128, R757) -/

/-- A tick that the tally counts moves it by one and fills the ramp's bucket; any other tick passes it by. -/
theorem advance_counted (k : Nat) (hcount : s.tally.counting = true) (hfrozen : s.freezeUnit.frozen = false) :
    advance k s = rampRefill k { s with now := s.now + k, tally.value := s.tally.value + BitVec.ofNat 64 k } := by
  simp [advance, hcount, hfrozen]

theorem advance_uncounted (k : Nat) (h : s.freezeUnit.frozen = true ∨ s.tally.counting = false) :
    advance k s = { s with now := s.now + k } := by
  rcases h with h | h <;> simp [advance, h]
end

/-- Settles O32: each event is its own equation, and time moves the clock, the tally that counts it and the ramp's bucket
alone. -/
theorem tallyEvents : Obligations.TallyEvents := by
  refine ⟨fun cap s => exec_rackMarker cap, ?slewStep, ?syncLoss, fun s => exec_tallySyncReturn,
    fun s => exec_holdoverExpiry, ?request, fun n t1 t2 t3 t4 s => exec_tallyResponse t1 t2 t3 t4, ?ptpMessage, ?time⟩
  case slewStep =>
    intro s hlive hcount
    exact ⟨exec_tallySlewStep_slower hlive hcount, exec_tallySlewStep_faster hlive hcount⟩
  case syncLoss =>
    intro s h
    exact ⟨exec_tallySyncLoss h, fun e => exec_tallyFreqWindow_lost h, fun e => exec_tallyFreqWindow_kept,
      syncLost_syncPresent s, syncLost_holdover⟩
  case request =>
    intro n t1 s hlive hup
    refine ⟨fun h => ?_, fun h => ?_⟩
    · simp [exec_tallyRequest t1 hlive hup, h]
    · simp [exec_tallyRequest t1 hlive hup, h]
  case ptpMessage =>
    intro v s
    refine ⟨fun hdomain htransport => ⟨fun hboot => ?_, fun hboot => ?_⟩, exec_ptpMessage_unheard⟩
    · exact exec_ptpMessage_heard (e := .a) hboot hdomain htransport
    · exact exec_ptpMessage_heard (e := .b) hboot hdomain htransport
  case time =>
    intro k s
    by_cases h : s.freezeUnit.frozen = true ∨ s.tally.counting = false
    · rw [advance_uncounted k h]
      refine ⟨rfl, fun hcount hfrozen => ?_, fun _ => rfl, rfl, rfl, rfl⟩
      simp [hcount, hfrozen] at h
    · obtain ⟨hfrozen, hcount⟩ := not_or.mp h
      rw [advance_counted k (by simpa using hcount) (by simpa using hfrozen)]
      exact ⟨rfl, fun _ _ => rfl, fun hstill => absurd hstill h, rfl, rfl, rfl⟩

end Sys2Proof.Machine
end

section
/-! Early frames, timeouts, the ramp governor and lending (R117-R121, R552, R570, R576). -/

namespace Sys2Proof.Machine

section
variable {s : State}

/-- The first early frame of a port that waited too long is dropped, its credits given back (R552). -/
theorem exec_contribEarlyHoldExpiry {n : Nat} {e : EarlyFrame} (hlive : waferLive s = true)
    (h : (s.reduction.early.find? fun x => x.port = n) = some e) :
    exec (.contribEarlyHoldExpiry n) s = .next (count (cReed e.site 2)
      (returnCredits e.port (e.header.cls.toNat % 8) (creditsOf e.payload.length)
        { s with reduction.early := s.reduction.early.erase e })) := by
  simp only [exec, execContribEarlyHoldExpiry, hlive, h]
  rfl

theorem exec_collectiveTimeout {n : U64} {c : Collective} (hlive : waferLive s = true)
    (hc : findCollective n.toNat s = some c) (ht : param pTimeout s ≠ 0) :
    exec (.collectiveTimeout n) s = .next (abortCollective c.id 9 0 0 (count (cReed c.home 9)
      (advanceTo (c.admission + param pTimeout s * tkPerMs) s))) := by
  simp [exec, execCollectiveTimeout, hlive, hc, ht]

/-- What the ramp governor asks of its bucket before it releases a collective (R576). -/
def rampNeed (c : Collective) (s : State) : Nat :=
  min (c.group.stepW * 1000000000) (param pRampBurst s * 1000000000000)

/-- A queue of one is released at once without the governor, and with it once the bucket holds what it takes. -/
theorem exec_rampRelease {n : Nat} {c : Collective} (hlive : waferLive s = true) (hq : s.reduction.rampQueue = [n])
    (hc : findCollective n s = some c) : exec .rampRelease s = .next (
      if param pRampEnable s = 0 then releaseHeld n { s with reduction.rampQueue := [] }
      else if s.reduction.tokens < rampNeed c s then s
      else releaseHeld n { s with reduction := { s.reduction with
        tokens := s.reduction.tokens - rampNeed c s, rampQueue := [] } }) := by
  simp [exec, execRampRelease, hlive, hq, rampLoop, hc, rampNeed]

theorem exec_lendStart {n : Nat} (hlive : waferLive s = true) (hlend : param pLend s = 1) (hmode : s.mode = .openMode)
    (hidle : (site n s).state = .idle) (hfree : isFree n s = true) (hroll : rolling s = false)
    (hreeds : hasReeds s = true) :
    exec (.lendStart n) s = .next (setSite n (fun t => { t with state := .lending }) s) := by
  simp [exec, execLendStart, isLedger, hlive, hlend, hmode, hidle, hfree, hroll, hreeds]
end

/-- Settles O20: each event is its own equation. -/
theorem reductionEvents : Obligations.ReductionEvents := by
  refine ⟨fun n s e => exec_contribEarlyHoldExpiry, fun n s c => exec_collectiveTimeout, ?ramp,
    fun n s => exec_lendStart⟩
  case ramp =>
    intro s n c hlive hq hc
    have release := exec_rampRelease hlive hq hc
    refine ⟨fun hon (henough : rampNeed c s ≤ _) => ?_, fun hon (hshort : _ < rampNeed c s) => ?_, fun hoff => ?_⟩
    · rw [release, if_neg hon, if_neg (Nat.not_lt.mpr henough)]
      rfl
    · rw [release, if_neg hon, if_pos hshort]
    · rw [release, if_pos hoff]

end Sys2Proof.Machine
end

section
/-! What a port's state comes through (07): the settling of its operations, a record and an error move no port's state. -/

namespace Sys2Proof.Machine

/-! ### The port that an update names -/

/-- A port that the tray does not have is DOWN; one in any other state is among the tray's. -/
theorem lt_length_of_port_state {n : Nat} {s : State} (h : (port n s).state ≠ .down) : n < s.ports.length := by
  by_contra hlen
  exact h (by rw [port, List.getD_eq_default _ _ (Nat.le_of_not_lt hlen)])

/-- Only what an update makes of the port itself counts. -/
theorem setPort_congr {n : Nat} {f g : Port → Port} {s : State} (h : f (port n s) = g (port n s)) :
    setPort n f s = setPort n g s := by
  have ports : s.ports.modify n f = s.ports.modify n g := by
    refine List.ext_getElem (by simp) fun i hi _ => ?_
    rw [List.getElem_modify, List.getElem_modify]
    split
    · next hin =>
      subst hin
      have hlen : n < s.ports.length := by simpa using hi
      simpa [port, List.getD_eq_getElem?_getD, hlen] using h
    · rfl
  rw [setPort, ports, setPort]

theorem port_congr {s t : State} (h : t.ports = s.ports) (n : Nat) : port n t = port n s := by
  rw [port, port, h]

/-- An update of a port that leaves its state leaves every port's. -/
theorem port_setPort_state {f : Port → Port} (h : ∀ q, (f q).state = q.state) (n m : Nat) (s : State) :
    (port n (setPort m f s)).state = (port n s).state := by
  by_cases hnm : n = m
  · subst hnm
    by_cases hlen : n < s.ports.length
    · rw [port_setPort_same hlen, h]
    · simp [setPort, List.modify_eq_self (Nat.le_of_not_lt hlen)]
  · rw [port_setPort_other hnm]

theorem port_foldl_state {α : Type} {f : State → α → State} {n : Nat}
    (h : ∀ u x, (port n (f u x)).state = (port n u).state) (xs : List α) (s : State) :
    (port n (xs.foldl f s)).state = (port n s).state := by
  induction xs generalizing s with
  | nil => rfl
  | cons x xs ih => exact (ih _).trans (h s x)

@[simp] theorem portTo_state {n : Nat} {s : State} (h : n < s.ports.length) (st : PortState) (cause : Nat) :
    (port n (portTo n st cause s)).state = st := by
  rw [portTo, port_setPort_same h]

/-! ### Records and errors -/

section
variable (n : Nat) (s : State)

@[simp] theorem noteNumber_ports (body : RecordBody) (k : Nat) : (noteNumber body k s).ports = s.ports := by
  unfold noteNumber
  split <;> rfl

@[simp] theorem countHeld_ports : (countHeld s).ports = s.ports := by
  unfold countHeld
  split <;> rfl

@[simp] theorem buildRecord_ports (body : RecordBody) (builder extra : Nat) :
    (buildRecord body builder extra s).ports = s.ports := by
  simp only [buildRecord, noteNumber_ports]
  split <;> rfl

@[simp] theorem journalWith_ports (body : RecordBody) (builder extra : Nat) :
    (journalWith body builder extra s).ports = s.ports := by
  unfold journalWith
  split
  · rfl
  · split
    · rfl
    · simp

@[simp] theorem errorClass_ports (cls : Nat) : (errorClass cls s).ports = s.ports := by
  unfold errorClass trigger
  split
  · split <;> rfl
  · rfl

/-! ### Replies and completions -/

@[simp] theorem unqueue_ports (f : QFrame) : (unqueue f s).ports = s.ports := by
  unfold unqueue takeOut
  split <;> rfl

@[simp] theorem gutter_ports (k input output cls : Nat) : (gutter k input output cls s).ports = s.ports := by
  simp only [gutter]
  split <;> rfl

@[simp] theorem keep_ports (o q : Nat) (r : Reply) (final : Bool) : (keep o q r final s).ports = s.ports := by
  unfold keep
  split <;> rfl

@[simp] theorem returnCredits_state (p cls k : Nat) : (port n (returnCredits p cls k s)).state = (port n s).state := by
  unfold returnCredits
  split
  · exact port_setPort_state (f := fun q => q.grantBack cls k) (fun _ => rfl) n p s
  · rfl

@[simp] theorem flushOne_state (cause : Nat) (f : QFrame) : (port n (flushOne cause f s)).state = (port n s).state := by
  have returned : (port n (returnCredits f.input f.cls f.shingles
      (gutter f.site f.input f.output f.cls (unqueue f s)))).state = (port n s).state := by
    rw [returnCredits_state, port_congr ((gutter_ports _ _ _ _ _).trans (unqueue_ports s f))]
  simp only [flushOne]
  split
  · rw [journalWafer, port_congr (journalWith_ports _ _ _ _), port_congr (count_ports _ _), returned]
  · exact returned

@[simp] theorem sendTray_state (f : QFrame) : (port n (sendTray f s)).state = (port n s).state := by
  simp only [sendTray]
  split
  · rfl
  · rw [flushOne_state]; rfl

@[simp] theorem sendReply_state (path : Path) (r : Reply) : (port n (sendReply path r s)).state = (port n s).state := by
  cases path with
  | inBand p e => exact sendTray_state n s _
  | _ => exact port_foldl_state (f := fun t q => emit (.reply q r) t) (fun _ _ => rfl) _ s

@[simp] theorem finishOp_state (op : Op) (status reason arg : Nat) (payload : List Byte) :
    (port n (finishOp op status reason arg payload s)).state = (port n s).state := by
  rw [finishOp, sendReply_state, port_congr (keep_ports _ _ _ _ _)]
  rfl

@[simp] theorem settlePortUp_state (p : Nat) : (port n (settlePortUp p s)).state = (port n s).state :=
  port_foldl_state (fun u o => finishOp_state n u o _ _ _ _) _ s
end

end Sys2Proof.Machine
end

section
/-! How a port trains, learns the far identity and passes the plan check (Table 7.11, R108-R113, R130, R388,
R429-R438). -/

namespace Sys2Proof.Machine

section
variable {n : Nat} {s : State}

/-! ### Training (Table 7.11, steps 1 to 5) -/

theorem tryTrain_starts (hdown : (port n s).state = .down) (htrain : mayTrain s = true) (hfit : portFitted n s = true)
    (hhold : portHold n s = none) : tryTrain n s =
      portTo n .training 0 (setPort n (fun q => { q.untrained with step := 1, round := q.round }) s) := by
  simp [tryTrain, startTraining, hdown, htrain, hfit, hhold]

theorem exec_portRetrainTimer (signal : Bool) (hdown : (port n s).state = .down) (htrain : mayTrain s = true)
    (hfit : portFitted n s = true) (hhold : portHold n s = none) : exec (.portRetrainTimer n signal) s =
      .next (if signal = true then tryTrain n s else settlePortUp n (portTo n .down rNoPartner s)) := by
  cases signal <;> simp [exec, execPortRetrainTimer, hdown, htrain, hfit, hhold]

/-- No lane is usable just where the width is 0. -/
theorem widthOf_eq_zero_iff : ∀ lanes : BitVec 4, (widthOf lanes).1 = 0 ↔ lanes = 0 := by decide

theorem exec_linkTrainingDone (own far : BitVec 4) (fecL : Bool) (htrain : mayTrain s = true)
    (hstate : (port n s).state = .training) (hstep : (port n s).step < 3) :
    exec (.linkTrainingDone n own far fecL) s = .next (
      if offeredLanes n own s &&& far = 0 then trainingFailed n s
      else sendLstate n 0 0 (setPort n (fun q => { q with
        width := (widthOf (offeredLanes n own s &&& far)).1, lanes := (widthOf (offeredLanes n own s &&& far)).2
        ownLanes := offeredLanes n own s, farFecL := fecL, fecL := false, step := 3 }) s)) := by
  simp only [exec, execLinkTrainingDone, htrain, hstate, widthOf_eq_zero_iff]
  rw [if_neg (by simpa using hstep), apply_ite Host.Outcome.next]

theorem exec_trainingTimeout (htrain : mayTrain s = true) (hstate : (port n s).state = .training) :
    exec (.trainingTimeout n) s = .next (trainingFailed n s) := by
  simp [exec, execTrainingTimeout, htrain, hstate]

/-- The BER is noted; then FEC-L is announced for the next ALIGN round, or the identity exchange begins (R436). -/
theorem exec_berMeasureEnd (own far : U32) (htrain : mayTrain s = true) (hstate : (port n s).state = .training)
    (hstep : (port n s).step = 3) (hselect : (port n s).farSelectBad = false) :
    exec (.berMeasureEnd n own far) s = .next (
      if selectsFecL n own far (setPort n (fun q => { q with ownBer := own, farBer := far }) s) = true then
        sendLstate n 3 ((port n s).round + 1).toNat
          (setPort n (fun q => { q with step := 5, switchRound := (port n s).round + 1 })
            (setPort n (fun q => { q with ownBer := own, farBer := far }) s))
      else enterIdentity n (setPort n (fun q => { q with ownBer := own, farBer := far }) s)) := by
  have hlen : n < s.ports.length := lt_length_of_port_state (by simp [hstate])
  have round : setPort n (fun q => { q with step := 5, switchRound := q.round + 1 })
        (setPort n (fun q => { q with ownBer := own, farBer := far }) s) =
      setPort n (fun q => { q with step := 5, switchRound := (port n s).round + 1 })
        (setPort n (fun q => { q with ownBer := own, farBer := far }) s) :=
    setPort_congr (by rw [port_setPort_same hlen])
  simp only [exec, execBerMeasureEnd, htrain, hstate, hstep, hselect, round]
  rw [if_neg (by decide), apply_ite Host.Outcome.next]

theorem exec_fecSwitch (htrain : mayTrain s = true) (hstate : (port n s).state = .training) (hstep : (port n s).step = 5)
    (hselect : (port n s).farSelectBad = false) :
    exec (.fecSwitch n) s = .next (enterIdentity n (setPort n (fun q => { q with fecL := true }) s)) := by
  simp [exec, execFecSwitch, htrain, hstate, hstep, hselect]

/-! ### The far identity (R429) -/

/-- How many identical IDENTITY blocks in a row a port has had once it has this one. -/
def identicalBlocks (n : Nat) (blk : IdentityBlock) (s : State) : Nat :=
  if (port n s).idBlock = some blk then (port n s).idCount + 1 else 1

/-- A block is counted, and the third of its kind in a row settles the far identity (R429). -/
theorem exec_identityBlock {blk : IdentityBlock} (hlive : waferLive s = true) (htrained : trained n s = true)
    (hstate : (port n s).state ≠ .training) (hkind : blk.kind.toNat < 2) {t : State}
    (ht : setPort n (fun q => { q with
      idBlock := some blk, idCount := min (identicalBlocks n blk s) 3, freezeIdle := false }) s = t) :
    exec (.identityBlock n blk) s = .next (if 3 ≤ identicalBlocks n blk s then identityKnown n blk t else t) := by
  subst ht
  have hgo : ¬(!waferLive s || !trained n s || decide ((port n s).state = .training) || decide (2 ≤ blk.kind.toNat)) =
      true := by
    simp [hlive, htrained, hstate, hkind]
  exact (if_neg hgo).trans (apply_ite Host.Outcome.next _ _ _).symm

/-! ### The plan check (R108-R111, R130) -/

theorem planCheck_duplicate {blk : IdentityBlock} {q : Nat} (h : sameIdentity n blk s = some q) :
    planCheck n blk s = enterMiswired n rDuplicatePeer (enterMiswired q rDuplicatePeer s) := by
  simp [planCheck, h]

theorem planCheck_byPlan {blk : IdentityBlock} (h : sameIdentity n blk s = none) (hpolicy : param pPlanPolicy s ≠ 1) :
    planCheck n blk s = if s.planLoaded = false then enterMiswired n rNoPlan s
      else if planMatches (s.plan.getD n 0) blk = true then enterWaiting n s else enterMiswired n 0 s := by
  simp [planCheck, h, hpolicy]

/-- A port that carried no traffic yet has none to flush when it becomes MISWIRED (R109, R129). -/
theorem enterMiswired_ofIdentity (cause : Nat) (h : (port n s).state = .identity) :
    enterMiswired n cause s = settlePortUp n (errorClass 11 (portTo n .miswired cause s)) := by
  simp [enterMiswired, drainsDown, h]

theorem enterMiswired_state (cause : Nat) (h : (port n s).state = .identity) :
    (port n (enterMiswired n cause s)).state = .miswired := by
  rw [enterMiswired_ofIdentity cause h, settlePortUp_state, port_congr (errorClass_ports _ _),
    portTo_state (lt_length_of_port_state (by simp [h]))]

theorem enterUp_state (h : n < s.ports.length) : (port n (enterUp n s)).state = .up := by
  rw [enterUp, settlePortUp_state, sendCredit, port_congr (emit_ports _ _), portTo_state]
  rwa [setPort_length]

/-- A match is UP at once, unless the tally is still ACQUIRING (Table 7.11, steps 7 and 8). -/
theorem enterWaiting_state (h : n < s.ports.length) : (port n (enterWaiting n s)).state =
    if s.tally.state = .acquiring then .waiting else .up := by
  have tally : (portTo n .waiting rTallyWait s).tally = s.tally := rfl
  simp only [enterWaiting, tally]
  split
  · rw [settlePortUp_state, portTo_state h]
  · exact enterUp_state (by rwa [portTo, setPort_length])
end

/-- Settles O6: training and the identity exchange are an equation per event, and the plan check's three answers lead the
port out of IDENTITY. -/
theorem portsTrainAndCheckPlan : Obligations.PortsTrainAndCheckPlan := by
  refine ⟨?trains, ?width, fun n s => exec_trainingTimeout, ?ber, fun n s => exec_fecSwitch, ?identity, ?planCheck⟩
  case trains =>
    intro n s hdown htrain hfit hhold
    have starts := tryTrain_starts hdown htrain hfit hhold
    have retries := fun signal => exec_portRetrainTimer signal hdown htrain hfit hhold
    exact ⟨congrArg _ starts, (retries true).trans (congrArg _ starts), retries false⟩
  case width =>
    intro n own far fecL s htrain hstate hstep
    have done := exec_linkTrainingDone own far fecL htrain hstate hstep
    exact ⟨fun hne => done.trans (congrArg _ (if_neg hne)), fun he => done.trans (congrArg _ (if_pos he))⟩
  case ber =>
    intro n own far s htrain hstate hstep hselect
    have ended := exec_berMeasureEnd own far htrain hstate hstep hselect
    exact ⟨fun hsel => ended.trans (congrArg _ (if_pos hsel)),
      fun hsel => ended.trans (congrArg _ (if_neg (ne_true_of_eq_false hsel)))⟩
  case identity =>
    intro n blk s hlive htrained hstate hkind
    have taken := exec_identityBlock hlive htrained hstate hkind rfl
    exact ⟨fun hk => taken.trans (congrArg _ (if_neg (Nat.not_le.mpr hk))),
      fun hk => taken.trans (congrArg _ (if_pos hk))⟩
  case planCheck =>
    intro n blk s
    refine ⟨fun q => planCheck_duplicate, fun hsame hpolicy => ?_, fun hstate => ?_⟩
    · have checked := planCheck_byPlan hsame hpolicy
      refine ⟨fun hl => by rw [checked, if_pos hl], fun hl hm => ?_, fun hl hm => ?_⟩
      · rw [checked, if_neg (ne_false_of_eq_true hl), if_neg (ne_true_of_eq_false hm)]
      · rw [checked, if_neg (ne_false_of_eq_true hl), if_pos hm]
    · have waiting := enterWaiting_state (lt_length_of_port_state (n := n) (s := s) (by simp [hstate]))
      exact ⟨enterMiswired_state 0 hstate, fun hne => waiting.trans (if_neg hne), fun he => waiting.trans (if_pos he)⟩

end Sys2Proof.Machine
end

section
/-! Counters and their snapshots (R147-R154, R367): what counting and snapshots leave of the running counters, and what a
snapshot puts into the shadow. -/

namespace Sys2Proof.Machine

/-! ### Running counters (R150) -/

section
variable {s t : State} {i : Nat}

theorem counter_countBy_same (i n : Nat) (s : State) : counter i (countBy i n s) = (counter i s + n) % 2 ^ 64 := by
  simp [counter, countBy, lookup_put_same]

theorem counter_countBy_other {j : Nat} (h : j ≠ i) (n : Nat) (s : State) :
    counter j (countBy i n s) = counter j s := by
  simp [counter, countBy, lookup_put_other h]

/-- A counter's value is read from the running counters alone. -/
theorem counter_congr (h : t.counters.live = s.counters.live) (i : Nat) : counter i t = counter i s := by
  simp [counter, h]

/-! ### What snapshots leave of the running counters -/

@[simp] theorem advance_counters (k : Nat) (s : State) : (advance k s).counters = s.counters := by
  unfold advance
  split <;> rfl

@[simp] theorem advanceTo_counters (tick : Nat) (s : State) : (advanceTo tick s).counters = s.counters := by
  unfold advanceTo
  split
  · exact advance_counters _ s
  · rfl

@[simp] theorem captureOthers_live (s : State) : (captureOthers s).counters.live = s.counters.live := by
  unfold captureOthers
  split <;> rfl

@[simp] theorem snapNow_live (id : Nat) (s : State) : (snapNow id s).counters.live = s.counters.live := by
  simp only [snapNow]
  split
  · exact captureOthers_live (capture id s)
  · rfl

@[simp] theorem takeArmed_live (s : State) : (takeArmed s).counters.live = s.counters.live := by
  unfold takeArmed
  split
  · rfl
  · rw [snapNow_live, advanceTo_counters]

@[simp] theorem takePeriodic_live (m : Nat) (s : State) : (takePeriodic m s).counters.live = s.counters.live := by
  rw [takePeriodic, snapNow_live]

/-! ### COUNTER_SNAPSHOT and PERIODIC_SNAPSHOT (R148, R154) -/

theorem takeArmed_armed {n tick : Nat} (h : s.counters.armed = some (n, tick)) :
    takeArmed s = snapNow n (advanceTo tick { s with counters.armed := none }) := by
  simp [takeArmed, h]

theorem exec_counterSnapshot (s : State) :
    exec .counterSnapshot s = .next (if marksSent s = true then takeArmed s else s) :=
  (apply_ite Host.Outcome.next _ _ _).symm

theorem exec_periodicSnapshot_off (h : param pSnapPeriod s = 0 ∨ marksSent s = false) :
    exec .periodicSnapshot s = .next s := by
  rcases h with h | h <;> simp [exec, execPeriodicSnapshot, h]

theorem exec_periodicSnapshot_here {m : Nat} (hmarks : marksSent s = true) (hperiod : param pSnapPeriod s ≠ 0)
    (hhere : snapHere (param pSnapPeriod s) s = some m) : exec .periodicSnapshot s = .next (takePeriodic m s) := by
  simp [exec, execPeriodicSnapshot, hmarks, hperiod, hhere]

theorem exec_periodicSnapshot_next (hmarks : marksSent s = true) (hperiod : param pSnapPeriod s ≠ 0)
    (hhere : snapHere (param pSnapPeriod s) s = none) : exec .periodicSnapshot s =
      .next (takePeriodic ((tallyNat s / param pSnapPeriod s + 1) * param pSnapPeriod s)
        (advanceTo ((tallyNat s / param pSnapPeriod s + 1) * param pSnapPeriod s) s)) := by
  simp [exec, execPeriodicSnapshot, hmarks, hperiod, hhere]

theorem exec_counterSnapshot_live (h : exec .counterSnapshot s = .next t) : t.counters.live = s.counters.live := by
  obtain rfl := Host.Outcome.next.inj ((exec_counterSnapshot s).symm.trans h)
  split
  · exact takeArmed_live s
  · rfl

/-- A periodic snapshot is off, is taken here, or is taken at the next multiple. -/
theorem exec_periodicSnapshot_live (h : exec .periodicSnapshot s = .next t) : t.counters.live = s.counters.live := by
  by_cases hoff : param pSnapPeriod s = 0 ∨ marksSent s = false
  · obtain rfl := Host.Outcome.next.inj ((exec_periodicSnapshot_off hoff).symm.trans h)
    rfl
  · obtain ⟨hperiod, hmarks⟩ := not_or.mp hoff
    rw [Bool.not_eq_false] at hmarks
    cases hhere : snapHere (param pSnapPeriod s) s with
    | some m =>
      obtain rfl := Host.Outcome.next.inj ((exec_periodicSnapshot_here hmarks hperiod hhere).symm.trans h)
      exact takePeriodic_live m s
    | none =>
      obtain rfl := Host.Outcome.next.inj ((exec_periodicSnapshot_next hmarks hperiod hhere).symm.trans h)
      rw [takePeriodic_live, advanceTo_counters]
end

/-- Settles O34: counting writes one entry of the running counters, and no snapshot writes any. -/
theorem countersWrapAndAreApart : Obligations.CountersWrapAndAreApart := by
  refine ⟨fun i n s => ⟨counter_countBy_same i n s, fun j hj => counter_countBy_other hj n s, rfl, rfl⟩, ?snapshots,
    fun s => counter_congr (captureOthers_live s)⟩
  case snapshots =>
    rintro c s t (rfl | rfl) h
    · exact counter_congr (exec_counterSnapshot_live h)
    · exact counter_congr (exec_periodicSnapshot_live h)

/-! ### What a snapshot puts into the shadow (R147, R149) -/

section
variable {i : Nat}

theorem lookup_eq_none_of_forall_ne {α : Type} {m : List (Nat × α)} (h : ∀ kv ∈ m, kv.1 ≠ i) : lookup m i = none := by
  induction m with
  | nil => rfl
  | cons kv rest ih =>
    obtain ⟨hne, hrest⟩ := List.forall_mem_cons.mp h
    rw [lookup, if_neg hne, ih hrest]

/-- Entries of other keys are put over a map without a trace at this one, whichever of them are left out. -/
theorem lookup_foldl_put_of_ne {α : Type} (skip : Nat × α → Prop) [DecidablePred skip] {entries : List (Nat × α)}
    (h : ∀ kv ∈ entries, kv.1 ≠ i) (m : List (Nat × α)) :
    lookup (entries.foldl (fun m kv => if skip kv then m else put kv.1 kv.2 m) m) i = lookup m i := by
  induction entries generalizing m with
  | nil => rfl
  | cons kv rest ih =>
    obtain ⟨hne, hrest⟩ := List.forall_mem_cons.mp h
    rw [List.foldl_cons, ih hrest]
    split
    · rfl
    · exact lookup_put_other hne.symm kv.2 m

/-- A map with each key once, put over another, is found first. -/
theorem lookup_foldl_put {α : Type} {entries : List (Nat × α)} (h : (entries.map Prod.fst).Nodup)
    (m : List (Nat × α)) :
    lookup (entries.foldl (fun m kv => put kv.1 kv.2 m) m) i = (lookup entries i).or (lookup m i) := by
  induction entries generalizing m with
  | nil => rfl
  | cons kv rest ih =>
    obtain ⟨k, v⟩ := kv
    obtain ⟨hfresh, hrest⟩ := List.nodup_cons.mp h
    rw [List.foldl_cons, ih hrest, lookup]
    by_cases hk : k = i
    · subst hk
      have hnone : lookup rest k = none :=
        lookup_eq_none_of_forall_ne fun kv hmem he => hfresh (List.mem_map.mpr ⟨kv, hmem, he⟩)
      rw [hnone, lookup_put_same, if_pos rfl]
      rfl
    · rw [lookup_put_other (Ne.symm hk), if_neg hk]

/-- A filter that keeps a key keeps what is found there. -/
theorem lookup_filter_key {α : Type} {keeps : Nat → Bool} (h : keeps i = true) (m : List (Nat × α)) :
    lookup (m.filter fun kv => keeps kv.1) i = lookup m i := by
  induction m with
  | nil => rfl
  | cons kv rest ih =>
    obtain ⟨k, v⟩ := kv
    by_cases hk : k = i
    · subst hk
      simp [h, lookup]
    · rw [List.filter_cons, lookup, if_neg hk, ← ih]
      split
      · rw [lookup, if_neg hk]
      · rfl

theorem waferCounter_idOf {unit inst code : Nat} (hunit : 1 ≤ unit ∧ unit ≤ 7) (hinst : inst < 65536)
    (hcode : code < 256) : waferCounter (idOf unit inst code) = true := by
  have hid : idOf unit inst code / 16777216 = unit := by
    unfold idOf
    omega
  simp [waferCounter, hid, hunit]

/-- Every level is the wafer's (Table 3.8a): a slate's, a reed's, a Loft cartridge's or a bank's. -/
theorem waferCounter_of_mem_levels {s : State} {kv : Nat × Nat} (h : kv ∈ levels s) : waferCounter kv.1 = true := by
  simp only [levels, List.mem_append, List.mem_flatMap, List.mem_map, List.mem_range, List.mem_cons, List.not_mem_nil,
    or_false] at h
  obtain (⟨n, hn, h⟩ | ⟨n, hn, rfl⟩) | h := h
  · rcases h with rfl | rfl | rfl | rfl | rfl | rfl <;> exact waferCounter_idOf (by decide) (by omega) (by decide)
  · exact waferCounter_idOf (by decide) (by omega) (by decide)
  · rcases h with rfl | rfl <;> exact waferCounter_idOf (by decide) (by decide) (by decide)

/-- A snapshot keeps the other holders' counters as the last mark captured them (R149). -/
theorem lookup_shadow_capture {s : State} (hnodup : (s.counters.shadow.map Prod.fst).Nodup)
    (hi : waferCounter i = false) (id : Nat) :
    lookup (capture id s).counters.shadow i = lookup s.counters.shadow i := by
  have apart : ∀ {kv : Nat × Nat}, waferCounter kv.1 = true → kv.1 ≠ i := fun hw he => by simp [← he, hw] at hi
  have hwafer : lookup (s.counters.live.filter fun kv => waferCounter kv.1) i = none :=
    lookup_eq_none_of_forall_ne fun kv hmem => apart (List.mem_filter.mp hmem).2
  have hothers : ((s.counters.shadow.filter fun kv => !waferCounter kv.1).map Prod.fst).Nodup :=
    hnodup.sublist (List.filter_sublist.map _)
  simp only [capture]
  rw [lookup_foldl_put hothers, lookup_filter_key (keeps := fun k => !waferCounter k) (by simp [hi]),
    lookup_foldl_put_of_ne (fun kv : Nat × Nat => kv.2 = 0) (fun kv hmem => apart (waferCounter_of_mem_levels hmem)),
    hwafer, Option.or_none]
end

/-! ### COUNTER_SNAP (R147, R148) -/

/-- The tick at which COUNTER_SNAP arms a snapshot: the one that it names, or the mark after its arrival. -/
def snapTick (p : Packet) (s : State) : Nat :=
  if field p.body 0 8 = 0 ∨ field p.body 0 8 ≤ arrival 3125 s then (arrival 3125 s / 1024 + 1) * 1024
  else field p.body 0 8

theorem counterSnapRun_eq (p : Packet) (s : State) : counterSnapRun p s =
    ({ bumpFree s with
        counters.armed := some (s.counters.nextId, snapTick p s), counters.nextId := s.counters.nextId + 1 },
      ok (le 8 (snapTick p s) ++ le 4 s.counters.nextId ++ zs 4)) := by
  simp only [counterSnapRun, snapTick, Bool.or_eq_true, decide_eq_true_eq]

/-- Settles O33: COUNTER_SNAP arms and COUNTER_READ reads as their own meanings say, a snapshot is taken at its tick, and
it puts over the shadow nothing but the wafer's counters. -/
theorem countersSnapAndRead : Obligations.CountersSnapAndRead := by
  refine ⟨?snap, ?read, ?armed, ?periodic, fun n s i hnodup hi => lookup_shadow_capture hnodup hi n⟩
  case snap =>
    intro p s h
    exact completes_of_run rfl rfl h (counterSnapRun_eq p _) rfl fun _ => rfl
  case read =>
    intro p s h
    exact completes_of_run rfl rfl h rfl rfl fun _ => rfl
  case armed =>
    intro s n tick hmarks harmed
    rw [exec_counterSnapshot, if_pos hmarks, takeArmed_armed harmed]
    rfl
  case periodic =>
    intro s hmarks hperiod
    exact ⟨fun m hhere => exec_periodicSnapshot_here hmarks hperiod hhere,
      fun hhere => exec_periodicSnapshot_next hmarks hperiod hhere⟩

end Sys2Proof.Machine
end

section
/-! How the tally is acquired, and what a marker's error does to it (Tables 3.4a and 3.5, R156-R168). -/

namespace Sys2Proof.Machine

/-! ### Acquisition (Table 3.5) -/

section
variable {s : State} {k m : Nat}

theorem journalWafer_tally (body : RecordBody) (s : State) : (journalWafer body s).tally =
    { s.tally with lastPtpNs := (journalWafer body s).tally.lastPtpNs } :=
  journalWith_tally body (waferBuilder s) 0 s

theorem exec_tallyPllLock (hlive : waferLive s = true) (hsync : s.tally.syncPresent = true)
    (hwait : s.tally.acquire = .waitPll) : exec .tallyPllLock s =
      .next { s with tally := { s.tally with pllLocked := true, acquire := .waitAnnounce, announced := none } } := by
  simp [exec, execTallyPllLock, hlive, hsync, hwait]

/-- A load counts from the value announced, and two good markers are to follow (step 4). -/
theorem loadTally_tally (m : Nat) (s : State) : (loadTally m s).tally =
    { s.tally with
      value := BitVec.ofNat 64 m, counting := true, acquire := .checkMarkers 2, before := tallyNat s, announced := none
      expected := some m, loaded := true, skipped := none, lastPtpNs := (loadTally m s).tally.lastPtpNs } := by
  simp only [loadTally]
  split
  · exact journalWafer_tally _ _
  · rfl

theorem markTally_announced (hwait : s.tally.acquire = .waitAnnounce ∨ s.tally.acquire = .waitMarker)
    (hm : s.tally.announced = some m) :
    markTally s = loadTally m { s with tally.announced := none, tally.expected := some m } := by
  rcases hwait with hwait | hwait <;> simp [markTally, markerValue, hwait, hm]

theorem markTally_atMultiple (hcheck : s.tally.acquire = .checkMarkers (k + 2)) (hmul : tallyNat s % 65536 = 0) :
    markTally s = { s with
      tally := { s.tally with announced := none, expected := markerValue s, acquire := .checkMarkers (k + 1) } } := by
  rw [tallyNat] at hmul
  simp [markTally, hcheck, tallyNat, hmul]

/-- A marker off a multiple of 2^16 is counted, and acquisition waits for the next announcement (step 5). -/
theorem markTally_offMultiple (hcheck : s.tally.acquire = .checkMarkers k) (hmul : tallyNat s % 65536 ≠ 0) :
    markTally s = count (cTally 1) { s with tally := { s.tally with
      announced := none, expected := none, acquire := .waitAnnounce
      lastError := ((markerValue s).map fun v => markerError v s).getD 0 } } := by
  rw [tallyNat] at hmul
  simp [markTally, markerError, hcheck, tallyNat, hmul]

/-! ### A marker's error (Table 3.4a) -/

@[simp] theorem noteError_tally (e : Int) (s : State) : (noteError e s).tally = { s.tally with lastError := e } := by
  unfold noteError
  split <;> rfl

theorem cancelArm_tally (s : State) : (cancelArm s).tally =
    { s.tally with lastPtpNs := (cancelArm s).tally.lastPtpNs } := by
  unfold cancelArm
  split
  · exact journalWafer_tally _ _
  · rfl

/-- Table 3.4a on the tally's own registers: what a marker's error of `e` does when `v` was expected. -/
def afterError (e : Int) (v : Nat) (t : TallyUnit) : TallyUnit :=
  if e.natAbs ≤ 1 then { t with state := .locked, cause := 0, slewLeft := e, lastError := e }
  else if e.natAbs ≤ 65536 then { t with state := .slewing, cause := 0, slewLeft := e, lastError := e }
  else if e < 0 then
    { t with value := BitVec.ofNat 64 v, state := .slewing, cause := 0, slewLeft := 0, skipped := none, lastError := e }
  else { t with state := .unlocked, cause := BitVec.ofNat 16 rTallyAhead, slewLeft := 0, lastError := e }

/-- A marker's error does to the tally what Table 3.4a says, and what its records move. -/
theorem handleError_tally (e : Int) (v : Nat) (s : State) : (handleError e v s).tally =
    { afterError e v s.tally with lastPtpNs := (handleError e v s).tally.lastPtpNs } := by
  simp only [handleError, afterError]
  split
  · rw [tallyTo_tally, noteError_tally]
    rfl
  · split
    · rw [tallyTo_tally, noteError_tally]
      rfl
    · split
      · rw [journalWafer_tally, tallyTo_tally, noteError_tally]
        rfl
      · rw [cancelArm_tally, tallyTo_tally, noteError_tally]
end

/-- Settles O31: a marker acts by the step of acquisition, and Table 3.4a is followed error by error. -/
theorem tallyIsAcquired : Obligations.TallyIsAcquired := by
  refine ⟨fun s => exec_tallyPllLock, ?load, ?atMultiple, ?offMultiple, ?reacquire, ?status, ?error⟩
  case load =>
    intro s m hwait hm
    rw [markTally_announced hwait hm, loadTally_tally]
    exact ⟨rfl, rfl, rfl⟩
  case atMultiple =>
    intro s k hcheck hmul
    rw [markTally_atMultiple hcheck hmul]
    exact ⟨rfl, rfl⟩
  case offMultiple =>
    intro s k hcheck hmul
    rw [markTally_offMultiple hcheck hmul]
    exact ⟨rfl, counter_countBy_same (cTally 1) 1 _⟩
  case reacquire =>
    intro p s h
    exact completes_of_run rfl rfl h rfl rfl fun _ => rfl
  case status =>
    intro p s h
    exact completes_of_run rfl rfl h rfl rfl fun _ => rfl
  case error =>
    intro e v s
    rw [handleError_tally]
    refine ⟨fun hlock => ?_, fun hlock hslew => ?_, fun hlate => ?_, fun hearly => ?_, ?_⟩
    · simp [afterError, hlock]
    · simp [afterError, hslew, hlock.not_ge]
    · have hlock : ¬e.natAbs ≤ 1 := by omega
      have hslew : ¬e.natAbs ≤ 65536 := by omega
      have hneg : e < 0 := by omega
      simp [afterError, hlock, hslew, hneg]
    · have hlock : ¬e.natAbs ≤ 1 := by omega
      have hslew : ¬e.natAbs ≤ 65536 := by omega
      have hneg : ¬e < 0 := by omega
      simp [afterError, hlock, hslew, hneg, rTallyAhead]
    · simp only [afterError]
      split_ifs <;> rfl

end Sys2Proof.Machine
end

section
/-! What the always-on rail's rise leaves (R193, R194, R209, R924). -/

namespace Sys2Proof.Machine

theorem reset_port_down {q : Port} (h : q ∈ State.reset.ports) : q.state = .down := by
  rw [List.eq_of_mem_replicate h]

theorem loftCanonical_reset : LoftCanonical State.reset := rfl

theorem shaped_reset : Shaped State.reset := ⟨rfl, rfl, rfl, rfl⟩

/-- Settles O54: each value is a field of the reset state, every port is one that has never left DOWN, and both
invariants hold. -/
theorem resetLeavesTheSpecsValues : Obligations.ResetLeavesTheSpecsValues :=
  ⟨rfl, rfl, rfl, rfl, rfl, rfl, rfl, rfl, rfl, rfl, rfl, rfl, rfl, fun _ => reset_port_down, loftCanonical_reset,
    shaped_reset⟩

end Sys2Proof.Machine
end

section
/-! What leaves the power unit as it was: records, errors, completions and the end of a collective; and what the reset of the
wafer leaves of it (R189, R782). -/

namespace Sys2Proof.Machine

section
variable (s : State)

/-! ### Folds -/

/-- What every round of a fold leaves as it is, the whole fold leaves as it is. -/
theorem foldl_keeps {α β : Type} (g : State → β) {f : State → α → State} (h : ∀ u x, g (f u x) = g u) (xs : List α)
    (s : State) : g (xs.foldl f s) = g s := by
  induction xs generalizing s with
  | nil => rfl
  | cons x xs ih => exact (ih _).trans (h s x)

@[simp] theorem foldl_power {α : Type} {f : State → α → State} (h : ∀ u x, (f u x).power = u.power) (xs : List α) :
    (xs.foldl f s).power = s.power := foldl_keeps State.power h xs s

@[simp] theorem forEach_power {f : Nat → State → State} (h : ∀ n u, (f n u).power = u.power) (xs : List Nat) :
    (forEach xs f s).power = s.power := foldl_power s (fun u n => h n u) xs

/-! ### Latches -/

theorem setLatches_power (f : Latches → Latches) :
    (setLatches f s).power = { s.power with latches := f s.power.latches } := rfl

theorem setLatches_freezeUnit (f : Latches → Latches) : (setLatches f s).freezeUnit = s.freezeUnit := rfl

/-! ### Records, errors and the freeze -/

@[simp] theorem noteNumber_power (body : RecordBody) (k : Nat) : (noteNumber body k s).power = s.power := by
  unfold noteNumber
  split <;> rfl

@[simp] theorem countHeld_power : (countHeld s).power = s.power := by
  unfold countHeld
  split <;> rfl

@[simp] theorem buildRecord_power (body : RecordBody) (builder extra : Nat) :
    (buildRecord body builder extra s).power = s.power := by
  simp only [buildRecord, noteNumber_power]
  split <;> rfl

@[simp] theorem journalWith_power (body : RecordBody) (builder extra : Nat) :
    (journalWith body builder extra s).power = s.power := by
  unfold journalWith
  split
  · rfl
  · split
    · rfl
    · simp

@[simp] theorem errorClass_power (cls : Nat) : (errorClass cls s).power = s.power := by
  unfold errorClass trigger
  split
  · split <;> rfl
  · rfl

@[simp] theorem matchTrigger_power (collective event : Nat) : (matchTrigger collective event s).power = s.power := by
  simp only [matchTrigger, trigger]
  split
  · split <;> rfl
  · rfl

@[simp] theorem tallyTo_power (st : TallyState) (cause : Nat) : (tallyTo st cause s).power = s.power := by
  simp only [tallyTo]
  split
  · rfl
  · rw [apply_ite State.power, errorClass_power, ite_self]
    exact journalWith_power _ _ _ _

@[simp] theorem cancelArm_power : (cancelArm s).power = s.power := by
  unfold cancelArm
  split
  · exact journalWith_power _ _ _ _
  · rfl

@[simp] theorem endFreeze_power (ended : Option Nat) : (endFreeze ended s).power = s.power := by
  unfold endFreeze
  split <;> rfl

theorem endFreeze_frozen (ended : Option Nat) : (endFreeze ended s).freezeUnit.frozen = false := by
  unfold endFreeze
  split
  · next h => simpa using h
  · rfl

/-! ### Frames, completions and collectives -/

@[simp] theorem unqueue_power (f : QFrame) : (unqueue f s).power = s.power := by
  unfold unqueue takeOut
  split <;> rfl

@[simp] theorem gutter_power (k input output cls : Nat) : (gutter k input output cls s).power = s.power := by
  simp only [gutter]
  split <;> rfl

@[simp] theorem returnCredits_power (p cls k : Nat) : (returnCredits p cls k s).power = s.power := by
  unfold returnCredits
  split <;> rfl

@[simp] theorem flushOne_power (cause : Nat) (f : QFrame) : (flushOne cause f s).power = s.power := by
  unfold flushOne
  split <;> simp [journalWafer]

@[simp] theorem sendTray_power (f : QFrame) : (sendTray f s).power = s.power := by
  simp only [sendTray]
  split
  · rfl
  · rw [flushOne_power]; rfl

@[simp] theorem sendReply_power (path : Path) (r : Reply) : (sendReply path r s).power = s.power := by
  cases path with
  | inBand p e => exact sendTray_power s _
  | _ => exact foldl_power s (fun t q => emit_power (.reply q r) t) _

@[simp] theorem keep_power (o q : Nat) (r : Reply) (final : Bool) : (keep o q r final s).power = s.power := by
  unfold keep
  split <;> rfl

@[simp] theorem finishOp_power (op : Op) (status reason arg : Nat) (payload : List Byte) :
    (finishOp op status reason arg payload s).power = s.power := by
  simp [finishOp]

@[simp] theorem finishAll_power (kind : OpKind → Bool) (status reason arg : Nat) (payload : List Byte) :
    (finishAll kind status reason arg payload s).power = s.power := by
  simp [finishAll]

@[simp] theorem settleReeds_power : (settleReeds s).power = s.power :=
  forEach_power s (fun n u => by split <;> simp) _

@[simp] theorem settleLending_power : (settleLending s).power = s.power := by
  unfold settleLending
  split
  · rfl
  · exact forEach_power s (fun n u => by split <;> rfl) _

@[simp] theorem abortCollective_power (id cause reason arg : Nat) :
    (abortCollective id cause reason arg s).power = s.power := by
  unfold abortCollective
  split <;> simp [journalCollective, retire]

@[simp] theorem abortWhere_power (which : Collective → Bool) (cause reason arg : Nat) :
    (abortWhere which cause reason arg s).power = s.power := by
  simp [abortWhere]

@[simp] theorem endReplay_power (id state : Nat) : (endReplay id state s).power = s.power := by
  unfold endReplay
  split <;> simp

/-! ### The wafer's reset -/

theorem unmountBanks_step : (unmountBanks false s).power.step = s.power.step := by
  unfold unmountBanks
  split
  · rfl
  · simp

theorem clearWafer_power :
    (clearWafer s).power = { s.power with waferRunning := false, slatesRunning := false } := rfl

theorem waferDown_waferRunning (restart : Bool) : (waferDown restart s).power.waferRunning = false := rfl

/-- A RESTART's reset of the wafer leaves the step of the sequence to what follows it. -/
theorem waferDown_restart_step : (waferDown true s).power.step = s.power.step := by
  simp [waferDown, clearWafer_power, unmountBanks_step]

end

end Sys2Proof.Machine
end

section
/-! SENSE words and comparators, and what a leak, a flow alarm and heat switch off (Tables 14.6 and 15.6, R229, R831, R834,
R855-R870, R879-R883, R894). -/

namespace Sys2Proof.Machine

section
variable {s : State} {ch : Nat}

/-! ### SENSE words (R855-R862) -/

theorem exec_senseWord_settling (hon : s.power.aonUp = true) (h : 0 < (sense ch s).settling) (x : Int) :
    exec (.senseWord ch x) s = .next (setSense ch (fun c => { c with
      settling := c.settling - 1, raw := -8388608, valid := false }) (count (cSense ch 2) (count (cSense ch 1) s))) := by
  simp [exec, execSenseWord, hon, h]

/-- What a valid word counts: itself, a clamped word, and one beyond what a sensor of its channel's type delivers. -/
def wordCounted (ch : Nat) (x : Int) (s : State) : State :=
  let t := count (cSense ch 1) s
  let t := if clampWord x = x then t else count (cSense ch 6) t
  let t := if senseType ch < 2 ∧ (x * 3000 < 450 * rawScale ∨ 2625 * rawScale < x * 3000) then
    count (cSense ch 4) t else t
  if senseType ch = 2 ∧ 3800 * rawScale < x * 12000 then count (cSense ch 5) t else t

/-- The word that a valid word is taken as: clamped, corrected, and clamped again (R855, R857). -/
def takenWord (ch : Nat) (x : Int) (s : State) : Int := clampWord (corrected ch (clampWord x) (wordCounted ch x s))

theorem exec_senseWord_valid (hon : s.power.aonUp = true) (h : (sense ch s).settling = 0) (x : Int) :
    exec (.senseWord ch x) s =
      let t := wordCounted ch x s
      let raw := takenWord ch x s
      let r := compare_ ch raw (sense ch s) t
      .next (settleFlow (setSense ch (fun c => { c with run := r.2 }) (comparatorTo ch r.1 (noteFlow ch raw
        (setSense ch (fun c => { c with raw := raw, last := some raw, valid := true }) t))))) := by
  simp only [exec, execSenseWord, hon, h, Bool.not_true, Bool.false_eq_true, if_false, Nat.lt_irrefl, wordCounted, takenWord,
    Bool.and_eq_true, Bool.or_eq_true, decide_eq_true_eq]

/-! ### Comparators (R863-R870) -/

theorem compare_normal {raw : Int} {c : SenseChannel} (h : c.comparator = .normal) :
    (compare_ ch raw c s).1 = .alarm ↔ entersAlarm ch raw s = true ∧ param (pSense ch 10) s ≤ c.run + 1 := by
  simp only [compare_, h]
  split_ifs <;> simp_all

theorem compare_alarm {raw : Int} {c : SenseChannel} (h : c.comparator = .alarm) :
    (compare_ ch raw c s).1 = .normal ↔ leavesAlarm ch raw s = true ∧ param (pSense ch 10) s ≤ c.run + 1 := by
  simp only [compare_, h]
  split_ifs <;> simp_all

/-- The hysteresis lies on the far side of the threshold: no word enters and leaves at once. -/
theorem not_leavesAlarm_of_entersAlarm {raw : Int} (h : entersAlarm ch raw s = true) : leavesAlarm ch raw s = false := by
  have hyst : (0 : Int) ≤ param (pSense ch 4) s * rawScale := by unfold rawScale; positivity
  simp only [entersAlarm] at h
  simp only [leavesAlarm]
  split_ifs at h ⊢
  · simp only [decide_eq_true_eq, decide_eq_false_iff_not] at h ⊢
    linarith
  · simp only [decide_eq_true_eq, decide_eq_false_iff_not] at h ⊢
    linarith

theorem exec_indeterminateTimeout (h : (sense ch s).comparator = .indeterminate) : exec (.indeterminateTimeout ch) s =
    .next (comparatorTo ch (if wets ch || param (pSense ch 6) s = 1 then .alarm else .normal) s) := by
  simp only [exec, execIndeterminateTimeout, h, apply_ite (comparatorTo ch · s), apply_ite Host.Outcome.next]
  exact if_neg (by simp)

/-! ### The end of a leak's window (R831) -/

theorem exec_leakWindowExpiry_undone (hp : (sense ch s).responsePending = true)
    (h : heard 1 ch s = true ∨ inAlarm ch s = false) :
    exec (.leakWindowExpiry ch) s = .next (setSense ch (fun c => { c with responsePending := false }) s) := by
  simp [exec, execLeakWindowExpiry, hp, h]

theorem exec_leakWindowExpiry_unheard (hp : (sense ch s).responsePending = true) (hh : heard 1 ch s = false)
    (ha : inAlarm ch s = true) : exec (.leakWindowExpiry ch) s = .next (if noEave s = true then
      finialAction ch (setSense ch (fun c => { c with responsePending := false }) s) else leakAction ch s) := by
  simp [exec, execLeakWindowExpiry, hp, hh, ha, apply_ite Host.Outcome.next]

/-! ### The flow trip and the thermal trip (R879-R883, R894) -/

theorem exec_flowTrip_due (hoff : s.coping.flowOff ≠ some s.now) (halarm : s.coping.flowAlarm = true)
    (hflow : flowAlarmed s = true) : exec .flowTrip s =
      let t := postEvent 3 (flowChannel s) (count (cCoolant 1) { s with coping.flowAlarm := false })
      .next (if noEave t = true then finialAction (flowChannel s) t
        else byEaves zoneWOff (quiesce (journalAction 0xFE (flowChannel s) t))) := by
  simp [exec, execFlowTrip, hoff, halarm, hflow, apply_ite Host.Outcome.next]

theorem exec_flowTrip_switchedOff (hoff : s.coping.flowOff = some s.now) : exec .flowTrip s =
    let t := postEvent 3 (flowChannel s) (count (cCoolant 1) { s with coping.flowOff := none })
    .next (journalAction (if noEave t = true then 0xFF else 0xFE) (flowChannel s) t) :=
  if_pos hoff

theorem exec_thermalTrip (ha : inAlarm 8 s = true) (hon : zoneWOn s = true) : exec .thermalTrip s =
    .next (finialAction 8 (postEvent 4 8 (count (cCoolant 2)
      (setSense 8 (fun c => { c with responsePending := false }) s)))) := by
  simp [exec, execThermalTrip, ha, hon]

/-! ### Switching the wafer's rails off (R229, R833, R834) -/

/-- The latches once every slate rail and the rim-and-mesh rail are off, their slates and the wafer in reset. -/
def slateLatchesOff (l : Latches) : Latches := { l with slateRailEn := 0, slateRstN := 0, rimRailEn := 0, waferRstN := 0 }

/-- The latches once zone W is off: the Loft and optical cartridge rails go off too. -/
def zoneWLatchesOff (l : Latches) : Latches := { slateLatchesOff l with cartRailEn := l.cartRailEn &&& 3 }

/-- The optical modules lose their power. -/
def modulesOff (s : State) : State :=
  forEach opticalPorts (fun p t => setPort p (fun q => { q with moduleReady := false }) t) s

theorem modulesOff_power (s : State) : (modulesOff s).power = s.power :=
  forEach_power s (fun p u => setPort_power p _ u) _

theorem modulesOff_freezeUnit (s : State) : (modulesOff s).freezeUnit = s.freezeUnit :=
  foldl_keeps State.freezeUnit (fun u p => setPort_freezeUnit p _ u) _ s

/-- What zone W's switch-off ends while its rails are still on. -/
def endWaferWork (s : State) : State :=
  let s := finishAll isSnapshotOp stAborted 0 0 [] (abortWhere (fun _ => true) 3 rRehome 0 s)
  if loftRail s && hasLoft s then loftRailLost s else s

/-- Zone W goes off last by its latches, once the wafer is down and a freeze has ended. -/
theorem waferRailsOff_eq (s : State) : waferRailsOff s =
    modulesOff (setLatches zoneWLatchesOff (endFreeze none (waferDown false (endWaferWork s)))) := rfl

theorem waferRailsOff_power (s : State) : (waferRailsOff s).power =
    { (waferDown false (endWaferWork s)).power with
      latches := zoneWLatchesOff (waferDown false (endWaferWork s)).power.latches } := by
  rw [waferRailsOff_eq, modulesOff_power, setLatches_power, endFreeze_power]

theorem waferRailsOff_frozen (s : State) : (waferRailsOff s).freezeUnit.frozen = false := by
  rw [waferRailsOff_eq, modulesOff_freezeUnit, setLatches_freezeUnit, endFreeze_frozen]

theorem zoneWOff_eq (h : zoneWOn s = true) :
    zoneWOff s = setPhase .coolantGate 0 { waferRailsOff s with power.step := 6 } :=
  if_neg (by simp [h])

theorem zoneWOff_latches (h : zoneWOn s = true) :
    (zoneWOff s).power.latches = zoneWLatchesOff (waferDown false (endWaferWork s)).power.latches := by
  simp [zoneWOff_eq h, waferRailsOff_power]

theorem zoneWOn_of_latchesOff {l : Latches} (h : s.power.latches = zoneWLatchesOff l) : zoneWOn s = false := by
  simp [zoneWOn, anySlateRail, rimRail, loftRail, opticalRail, h, zoneWLatchesOff, slateLatchesOff]

theorem zoneWOff_phase (h : zoneWOn s = true) : (zoneWOff s).power.phase = .coolantGate := by
  rw [zoneWOff_eq h, setPhase_phase]

theorem zoneWOff_step (h : zoneWOn s = true) : (zoneWOff s).power.step = 6 := by
  rw [zoneWOff_eq h, setPhase_step]

theorem zoneWOff_waferRunning (h : zoneWOn s = true) : (zoneWOff s).power.waferRunning = false := by
  simp [zoneWOff_eq h, waferRailsOff_power, waferDown_waferRunning, setPhase]

theorem zoneWOff_frozen (h : zoneWOn s = true) : (zoneWOff s).freezeUnit.frozen = false := by
  simp [zoneWOff_eq h, waferRailsOff_frozen]

/-- What a leak before READY leaves but for the phase: the wafer reset, and its slate and rim-and-mesh rails off. -/
def slateRailsOff (s : State) : State :=
  setLatches slateLatchesOff (endFreeze none (waferDown true (finishAll isSnapshotOp stAborted 0 0 [] s)))

theorem gateLost_eq (s : State) : gateLost s = if (slateRailsOff s).power.step < 6 then slateRailsOff s
    else setPhase .coolantGate 0 { slateRailsOff s with power.step := 6 } := rfl

theorem slateRailsOff_step (s : State) : (slateRailsOff s).power.step = s.power.step := by
  simp [slateRailsOff, setLatches_power, waferDown_restart_step]

theorem gateLost_latches (s : State) : (gateLost s).power.latches = (slateRailsOff s).power.latches := by
  rw [gateLost_eq]
  split <;> rfl

theorem gateLost_rails (s : State) : anySlateRail (gateLost s) = false ∧ rimRail (gateLost s) = false := by
  simp [anySlateRail, rimRail, gateLost_latches, slateRailsOff, setLatches_power, slateLatchesOff]

theorem gateLost_phase (h : 6 ≤ s.power.step) : (gateLost s).power.phase = .coolantGate := by
  rw [gateLost_eq, if_neg (by rw [slateRailsOff_step]; omega), setPhase_phase]

/-- A leak or float before READY switches the wafer off at once, and then acts as at any other time (R229). -/
theorem enterTrigger_beforeReady (hm : masked ch s = false) (hw : wets ch = true)
    (hb : beforeReady (postEvent (if ch = 15 then 2 else 1) ch s) = true) : enterTrigger ch s =
      let t := gateLost (postEvent (if ch = 15 then 2 else 1) ch s)
      if noEave t = true then finialAction ch t else if ch = 15 then leakAction ch t
      else setSense ch (fun c => { c with responsePending := true }) t := by
  simp [enterTrigger, hm, hw, hb]
end

/-- Settles O36: a word, a comparator's timeout, a leak's window and the trips are an equation each; zone W off and the
wafer off before READY are read off the latches that go off last. -/
theorem sensingAndCoolant : Obligations.SensingAndCoolant := by
  refine ⟨fun ch x s hon h => exec_senseWord_settling hon h x, fun ch x s hon h => exec_senseWord_valid hon h x,
    fun ch raw c s => compare_normal, fun ch raw c s => compare_alarm, fun ch raw s => not_leavesAlarm_of_entersAlarm,
    fun ch s => exec_indeterminateTimeout, ?leakWindow, fun s => ⟨exec_flowTrip_due, exec_flowTrip_switchedOff⟩,
    fun s => exec_thermalTrip, ?zoneW, ?beforeReady⟩
  case leakWindow =>
    intro ch s hp
    refine ⟨exec_leakWindowExpiry_undone hp, fun hh ha hno => ?_, fun hh ha hno => ?_⟩
    · exact (exec_leakWindowExpiry_unheard hp hh ha).trans (congrArg _ (if_pos hno))
    · exact (exec_leakWindowExpiry_unheard hp hh ha).trans (congrArg _ (if_neg (ne_true_of_eq_false hno)))
  case zoneW =>
    intro s h
    have latches := zoneWOff_latches h
    exact ⟨zoneWOn_of_latchesOff latches, by rw [latches]; rfl, by rw [latches]; rfl, zoneWOff_phase h, zoneWOff_step h,
      zoneWOff_waferRunning h, zoneWOff_frozen h⟩
  case beforeReady =>
    intro ch s hm hw t hb
    exact ⟨enterTrigger_beforeReady hm hw hb, (gateLost_rails t).1, (gateLost_rails t).2,
      fun hstep => gateLost_phase (s := t) hstep⟩

end Sys2Proof.Machine
end

section
/-! Steps 1 to 8 of the power-up sequence (Table 4.1, R6, R192-R198, R205, R230-R232, R239, R809, R812, R813). -/

namespace Sys2Proof.Machine

section
variable {s : State}

/-! ### The always-on rail and Finial (steps 1 to 4) -/

theorem exec_aonPowerUp {mv : Nat} (pins : BitVec 5) (hv : 40000 ≤ mv) (h : s.power.aonUp = false ∨ s.power.step = 1) :
    exec (.aonPowerUp pins mv) s =
      let t := retained s
      .next (refreshHolds { t with power := { t.power with
        aonUp := true, aonCycles := if s.power.aonUp then s.power.aonCycles else s.power.aonCycles + 1
        slotId := pins, slotPins := pins, step := 2, busOutOfRange := mv < 44000 || 58000 < mv } }) := by
  have rises : ¬(decide (mv < 40000) || s.power.aonUp && decide (s.power.step ≠ 1)) = true := by
    rcases h with h | h <;> simp [h, hv]
  exact if_neg rises

theorem exec_aonPowerUp_low {mv : Nat} (pins : BitVec 5) (hv : mv < 40000) : exec (.aonPowerUp pins mv) s = .next s :=
  if_pos (by simp [hv])

theorem exec_aonPowerLoss (hon : s.power.aonUp = true) : exec .aonPowerLoss s =
    let t := retained s
    .next { t with
      power.aonUp := false, coping.aout := t.coping.aout.map fun c => { c with powered := false } } :=
  if_neg (by simp [hon])

theorem exec_finialBoot_unverified : exec (.finialBoot false) s = .next s :=
  if_pos (by simp)

theorem exec_finialBoot (hon : s.power.aonUp = true) (hboot : s.referee.booted = false) (hstep : 2 ≤ s.power.step) :
    exec (.finialBoot true) s =
      let t := (bootTarget 3 0 (bootTarget 2 0 (clearCounters finialCounter s)).1).1
      let t := byFinial (fun u => setLatches (fun l => { l with cartRailEn := l.cartRailEn ||| 2, eaveRstN := 3 })
        (cartRailOn 0 u)) { t with referee.booted := true, power.step := 4
                                   mode := if t.power.aonCycles = 1 then defaultMode t else t.mode }
      .next (setPhase .controllers 0 { t with referee := { t.referee with
        a := { t.referee.a with powerUp := true }, b := { t.referee.b with powerUp := true } } }) :=
  if_neg (by simp [hon, hboot, hstep.not_gt])

/-! ### The coolant gate and the rails (steps 6 to 8) -/

theorem exec_coolantGatePass (hphase : s.power.phase = .coolantGate) (hgate : gatePasses s = true) :
    exec .coolantGatePass s = .next (if (authority s).isSome = true then stepSeven (count (cCoolant 3) s)
      else setPhase .held rNoController s) := by
  cases h : authority s <;> simp [exec, execCoolantGatePass, hphase, hgate, h]

theorem exec_coolantGateAlert (hphase : s.power.phase = .coolantGate) :
    exec .coolantGateAlert s = .next { s with power.gateAlert := true } :=
  if_pos hphase

theorem exec_rimWaitExpiry (hphase : s.power.phase = .waferRamp) (hstep : s.power.step = 7) (hrim : rimRail s = true) :
    exec .rimWaitExpiry s = .next (enableNext { s with power.step := 8 }) :=
  if_pos (by simp [hphase, hstep, hrim])

theorem exec_slateRailEnable (hphase : s.power.phase = .waferRamp) (hstep : s.power.step = 8) :
    exec .slateRailEnable s = .next (enableNext s) :=
  if_pos (by simp [hphase, hstep])

/-! ### An Eave's boot (step 5 and later) -/

/-- An Eave that has booted runs, with its servo and its counters new and its own epochs noted. -/
def eaveStarted (e : Eave) (ef ec : EpochResult) (s : State) : State :=
  let n := Eave.code e
  let u := clearCounters (fun id => id / 65536 = 0x12 * 256 && (id / 256) % 256 = 1 + n) s
  let u := noteEpoch (3 + n) (epochCode ec) (noteEpoch (1 + n) (epochCode ef) (resetServo e u))
  setEave e (fun x => { x with booted := true, powerUp := false }) u

/-- What its epochs make of an Eave: step 5 judges the first boot before step 7, R809 to R813 any other. -/
def eaveJudged (e : Eave) (ef ec ee : EpochResult) (s : State) : State :=
  let first := (eave e s).powerUp && decide (s.power.step < 7)
  let bad := decide (ef = .mismatch) || decide (ec = .mismatch)
  let u := eaveStarted e ef ec s
  let u := if first then firstBoot e bad ee u else laterBoot e bad ee u
  if u.power.slatesRunning then refreshTested u else u

/-- What the boot of an Eave means for an activation of its image. -/
def eaveReported (e : Eave) (reverted : Bool) (s : State) : State :=
  if reverted then eaveReverted e s else if eaveAdmitted e s then eaveReady e s else s

theorem exec_eaveBoot {e : Eave} {t : State} {k : Nat} {b : Bool} (ef ec ee : EpochResult)
    (hfinial : s.referee.booted = true) (hrst : eaveRstN e s = true) (hboot : (eave e s).booted = false)
    (htarget : bootTarget 1 (Eave.code e) s = (t, some k, b)) : exec (.eaveBoot e ef ec ee) s =
      .next (settleBuilding (settleAdmission (checkCartridges (eaveReported e b (eaveJudged e ef ec ee t))))) := by
  simp only [exec, execEaveBoot, hfinial, hrst, hboot, htarget]
  rfl
end

/-- Settles O47: each step of Table 4.1 is the equation of the event that brings it. -/
theorem powerUpSteps : Obligations.PowerUpSteps := by
  refine ⟨fun pins mv s => exec_aonPowerUp pins, fun pins mv s => exec_aonPowerUp_low pins, fun s => exec_aonPowerLoss,
    fun s hon hboot hstep => ⟨exec_finialBoot hon hboot hstep, exec_finialBoot_unverified⟩, ?gate,
    fun s => exec_coolantGateAlert, fun s => exec_rimWaitExpiry, fun s => exec_slateRailEnable,
    fun e ef ec ee s t k b => exec_eaveBoot ef ec ee⟩
  case gate =>
    intro s hphase hgate
    refine ⟨fun h => ?_, fun h => ?_⟩
    · rw [exec_coolantGatePass hphase hgate, if_pos h]
    · rw [exec_coolantGatePass hphase hgate, if_neg (ne_true_of_eq_false h)]

end Sys2Proof.Machine
end

section
/-! Steps 9 to 12 of the power-up sequence (Table 4.1, R210, R211, R214-R222, R225, R240, R703). -/

namespace Sys2Proof.Machine

section
variable {s : State}

/-! ### The wafer's release and full BIST (steps 9 and 10) -/

theorem exec_waferResetRelease (hphase : s.power.phase = .waferRamp) (hstep : s.power.step = 9) (hrim : rimRail s = true) :
    exec .waferResetRelease s = .next (byFinial releaseWafer s) :=
  if_pos (by simp [hphase, hstep, hrim])

/-- BOOT_SRC is sampled at the edge of WAFER_RST_N (R210). -/
theorem raiseWaferReset_power (h : s.power.latches.waferRstN = 0) : (raiseWaferReset s).power = { s.power with
    bootSrcSampled := s.power.latches.bootSrc, latches := { s.power.latches with waferRstN := 1 } } := by
  simp [raiseWaferReset, h, setLatches, accrue]

/-- The state once full BIST's findings are noted: what runs, and what the BOOT record reports. -/
def bistNoted (r : BistResult) (s : State) : State :=
  let t := forEach (List.range 36) (siteBist r) s
  { t with
    ports := t.ports.zipIdx.map fun q => { q.1 with faultedRim := r.rim.contains (q.2 / 4) }
    switch.brokenLinks := r.links
    power := { t.power with faultedRim := r.rim, boot := { t.power.boot with
      siteFailures := (t.power.boot.siteFailures ++ r.sites.filter fun n => slateRail n s).eraseDups
      rimFailures := rimFailures r s } } }

theorem exec_fullBistDone (r : BistResult) (hphase : s.power.phase = .bist) : exec (.fullBistDone r) s =
    .next (if waferHeld r.rim (bistNoted r s) = true then
        reachHeld rWaferBist { bistNoted r s with power.step := 12 }
      else setPhase .firmware 0 { bistNoted r s with power.step := 11 }) := by
  rw [apply_ite Host.Outcome.next]
  exact if_neg (by simp [hphase])

/-! ### The firmware (step 11) -/

theorem exec_pushTimeout (hsrc : s.power.bootSrcSampled = 1) (hphase : s.power.phase = .bist ∨ s.power.phase = .firmware)
    (hstep : s.power.step < 12) : exec .pushTimeout s = .next (holdWafer rPushTimeout s) :=
  if_pos (by simp [hsrc, hphase, hstep])

/-- The tray before a wafer image loads: no recovery image runs. -/
def noRecovery (s : State) : State := { s with firmware.running := s.firmware.running.filter fun x => x.kind ≠ 6 }

section
variable {r : LoadResult} (hphase : s.power.phase = .firmware) (hstep : s.power.step = 11)
include hphase hstep

/-- Without a bootable slot of its own, the wafer falls back to the recovery image (R214). -/
theorem exec_firmwareLoadDone_flash (hsrc : s.power.bootSrcSampled = 0) : exec (.firmwareLoadDone r) s = .next (
    if (bootTarget 0 0 (noRecovery s)).2.1 = none ∨ r.bootable = false then fallBack (noRecovery s)
    else loaded r (bootTarget 0 0 (noRecovery s)).2.2 (bootTarget 0 0 (noRecovery s)).1) := by
  rcases h : bootTarget 0 0 (noRecovery s) with ⟨t, _ | k, reverted⟩
  all_goals simp only [noRecovery, ne_eq, decide_not] at h
  · simp [exec, execFirmwareLoadDone, noRecovery, hphase, hstep, hsrc, h]
  · simp [exec, execFirmwareLoadDone, noRecovery, hphase, hstep, hsrc, h, apply_ite Host.Outcome.next]

theorem exec_firmwareLoadDone_push (hsrc : s.power.bootSrcSampled = 1) : exec (.firmwareLoadDone r) s = .next (
    if r.pushVerified = true then loaded r false (runImage (pushed r) (noRecovery s)) else noRecovery s) := by
  simp [exec, execFirmwareLoadDone, noRecovery, hphase, hstep, hsrc, apply_ite Host.Outcome.next]

theorem exec_firmwareLoadDone_recovery (hsrc : s.power.bootSrcSampled = 2) :
    exec (.firmwareLoadDone r) s = .next (recover r (noRecovery s)) := by
  simp [exec, execFirmwareLoadDone, noRecovery, hphase, hstep, hsrc]

theorem exec_firmwareLoadDone_factory (hsrc : s.power.bootSrcSampled = 3) :
    exec (.firmwareLoadDone r) s = .next (loaded r false (runImage (pushed r) (noRecovery s))) := by
  simp [exec, execFirmwareLoadDone, noRecovery, hphase, hstep, hsrc]
end

/-! ### The mount (step 12) -/

theorem exec_thatchMount (r : MountResult) (h : mountDue s = true) : exec (.thatchMount r) s =
    .next (if (startAcquiring (mountAll r s)).power.slatesRunning = true then
        setPhase .links 0 { startAcquiring (mountAll r s) with power.step := 13 }
      else startAcquiring (mountAll r s)) := by
  rw [apply_ite Host.Outcome.next]
  exact if_neg (by simp [h])
end

/-- Settles O48: each step of Table 4.1 is the equation of the event that brings it, split by what the event finds. -/
theorem waferBoots : Obligations.WaferBoots := by
  refine ⟨fun s => exec_waferResetRelease, ?samples, ?bist, fun s => exec_pushTimeout, ?load, ?mount⟩
  case samples =>
    intro s h
    rw [raiseWaferReset_power h]
    exact ⟨rfl, rfl⟩
  case bist =>
    intro r s hphase
    have done := exec_fullBistDone r hphase
    exact ⟨fun h => done.trans (congrArg _ (if_pos h)),
      fun h => done.trans (congrArg _ (if_neg (ne_true_of_eq_false h)))⟩
  case load =>
    intro r s hphase hstep
    refine ⟨fun hsrc h => ?_, fun hsrc hslot hboot => ?_, fun hsrc h => ?_, fun hsrc h => ?_,
      exec_firmwareLoadDone_recovery hphase hstep, exec_firmwareLoadDone_factory hphase hstep⟩
    · exact (exec_firmwareLoadDone_flash hphase hstep hsrc).trans (congrArg _ (if_pos h))
    · exact (exec_firmwareLoadDone_flash hphase hstep hsrc).trans (congrArg _
        (if_neg (not_or.mpr ⟨hslot, ne_false_of_eq_true hboot⟩)))
    · exact (exec_firmwareLoadDone_push hphase hstep hsrc).trans (congrArg _ (if_pos h))
    · exact (exec_firmwareLoadDone_push hphase hstep hsrc).trans (congrArg _ (if_neg (ne_true_of_eq_false h)))
  case mount =>
    intro r s h
    have mounted := exec_thatchMount r h
    exact ⟨fun hs => mounted.trans (congrArg _ (if_pos hs)),
      fun hs => mounted.trans (congrArg _ (if_neg (ne_true_of_eq_false hs)))⟩

end Sys2Proof.Machine
end

section
/-! Packets that do not run (R247, R257-R262, R287, R288, R327, Tables 5.5 and 5.6): what their receiver
does with them. -/

namespace Sys2Proof.Machine

/-! ### A packet by how far it comes -/

section
variable {c : Instr} {p : Packet} {s : State}

/-- The buffers of a packet that its receiver judges at once, one way or another, are free. -/
theorem receive_judgedAtOnce (hcarry : (carry c p s).2 = true) (h : packetWaits c p (carry c p s).1 = false) :
    receive c p s = freePacket p (admitPacket c p (carry c p s).1) := by
  rw [receive_carried hcarry, h]
  rfl

/-- Only a packet that reaches its window can wait there. -/
theorem receive_beforeWindow (hcarry : (carry c p s).2 = true) (h : reachesWindow c p (carry c p s).1 = false) :
    receive c p s = freePacket p (admitPacket c p (carry c p s).1) :=
  receive_judgedAtOnce hcarry (by simp [packetWaits, h])

/-- A packet of an opcode that no table assigns is received like any other. -/
theorem exec_unassignedOpcode {op : U16} (h : opcodeAssigned op.toNat = false) :
    exec (.unassignedOpcode op p) s = .next (receive (.unassignedOpcode op p) p s) :=
  if_neg (by simp [h])

/-! ### Before the window (R287, Table 5.5) -/

theorem admitPacket_headerFault {code r a : Nat} (h : headerFault p = some (code, r, a)) :
    admitPacket c p s = answerHere p (opcodeOf c) stRange r a [] (countAt c p code s) := by
  simp [admitPacket, h]

theorem admitPacket_forbidden (hh : headerFault p = none) (ho : originatorPermitted c p s = false) :
    admitPacket c p s = answerHere p (opcodeOf c) stDenied rPath 0 [] s := by
  simp [admitPacket, hh, ho]

theorem admitPacket_zeroSequence (hh : headerFault p = none) (ho : originatorPermitted c p s = true)
    (hopen : isOpen c = false) (hq : p.sequence = 0) : admitPacket c p s = stale c p s := by
  simp [admitPacket, hh, ho, hopen, hq, stale]

theorem admitPacket_sequenced (hh : headerFault p = none) (ho : originatorPermitted c p s = true)
    (hopen : isOpen c = false) (hq : p.sequence ≠ 0) : admitPacket c p s = anchorAndSequence c p s := by
  simpa [admitPacket, hh, ho, hopen] using fun h => absurd h hq

theorem anchorAndSequence_refused {st r a : Nat} {pl : List Byte} (ht : targetRefusal c p = some (.done st r a pl))
    (hw : (windowOf p.originator.toNat s).anchored = false) :
    anchorAndSequence c p s = answerUnrecorded p (opcodeOf c) st r a s := by
  simp [anchorAndSequence, ht, hw]

/-! ### In turn, and refused by checks 3 to 7 (R288, R327) -/

theorem receive_inTurn (h : inTurn c p s = true) :
    receive c p s = followed c p s (execute (keyOf c p s) c p (arrived c p s)) := by
  simp only [inTurn, reached, Bool.and_eq_true] at h
  obtain ⟨⟨hcarry, hreach⟩, hnext⟩ := h
  have hwaits : packetWaits c p (carry c p s).1 = false := by
    rw [arrived] at hnext
    simp [packetWaits, hnext]
  rw [receive_judgedAtOnce hcarry hwaits, admitPacket_reached hreach]
  exact congrArg (freePacket p) (sequence_next hnext)

theorem execute_refused {key : Nat} {a : Ans} (h : refusal key c p (record key c p s) = some a) :
    execute key c p s = answerIn key p (opcodeOf c) a (record key c p s) := by
  simp [execute, perform, h]

/-- Check 3 refuses an opcode that no table assigns, whatever the packet's unit. -/
theorem refusal_unassignedOpcode (key : Nat) (op : U16) :
    refusal key (.unassignedOpcode op p) p s = some (refuse stUnknownOp 0 0) := rfl

theorem exec_unassignedOpcode_inTurn {op : U16} (hop : opcodeAssigned op.toNat = false)
    (h : inTurn (.unassignedOpcode op p) p s = true) : exec (.unassignedOpcode op p) s =
      .next (followed (.unassignedOpcode op p) p s (answerIn (keyOf (.unassignedOpcode op p) p s) p op.toNat
        (refuse stUnknownOp 0 0) (recorded (.unassignedOpcode op p) p s))) := by
  rw [exec_unassignedOpcode hop, receive_inTurn h, execute_refused (refusal_unassignedOpcode _ _)]
  rfl

/-! ### In the window (Table 5.6) -/

theorem receive_judged {t : State} (h : reached c p s = true)
    (hj : judged (keyOf c p s) c p (arrived c p s) = some t) :
    receive c p s = freePacket p t := by
  simp only [reached, Bool.and_eq_true] at h
  obtain ⟨hcarry, hreach⟩ := h
  rw [keyOf, arrived] at hj
  rw [receive_judgedAtOnce hcarry (by simp [packetWaits, hj]), admitPacket_reached hreach, sequence, hj]

theorem judged_copy {key : Nat} {x : Digest} {path : Path}
    (h : lookup (windowOf key s).marks p.sequence.toNat = some (.executed x path) ∨
      ∃ i n, lookup (windowOf key s).marks p.sequence.toNat = some (.held x i n) ∧
        path = (i.packet?.map Packet.path).getD p.path) :
    judged key c p s = some (again c p x path s) := by
  rcases h with h | ⟨i, n, h, rfl⟩
  · simp [judged, h]
  · simp [judged, h]

theorem judged_skipped {key : Nat} (h : lookup (windowOf key s).marks p.sequence.toNat = some .skipped) :
    judged key c p s = some (stale c p s) := by
  simp [judged, h]

section
variable {key : Nat} (h : lookup (windowOf key s).marks p.sequence.toNat = none)
include h

theorem judged_forgotten (hq : p.sequence.toNat ≤ (windowOf key s).highWater) :
    judged key c p s = some (stale c p s) := by
  simp [judged, h, hq]

theorem judged_tooEarly (hq : (windowOf key s).highWater + 256 < p.sequence.toNat) :
    judged key c p s = some (answerUnrecorded p (opcodeOf c) stBusy rWindow 0 (countAt c p 9 s)) := by
  have hlow : ¬p.sequence.toNat ≤ (windowOf key s).highWater := by omega
  simp [judged, h, hq, hlow]

theorem judged_new (hlow : (windowOf key s).highWater < p.sequence.toNat)
    (hhigh : p.sequence.toNat ≤ (windowOf key s).highWater + 256) : judged key c p s = none := by
  simp [judged, h, Nat.not_le.mpr hlow, Nat.not_lt.mpr hhigh]
end

theorem again_same {first : Digest} {path : Path} (h : first = contentDigest c p) :
    again c p first path s = countAt c p 5 s :=
  if_pos h

theorem again_diverged {first : Digest} {path : Path} (h : first ≠ contentDigest c p) :
    again c p first path s = emit (.diverged p.originator p.sequence first (contentDigest c p) path p.path)
      (answerHere p (opcodeOf c) stDiverged 0 0 [] (countAt c p 6 s)) :=
  if_neg h

/-- A packet that comes to wait keeps its buffers. -/
theorem receive_waits (h : reached c p s = true) (hnew : judged (keyOf c p s) c p (arrived c p s) = none)
    (hturn : p.sequence.toNat ≠ (windowOf (keyOf c p s) (arrived c p s)).highWater + 1) :
    receive c p s = sequence c p (arrived c p s) := by
  simp only [reached, Bool.and_eq_true] at h
  obtain ⟨hcarry, hreach⟩ := h
  rw [keyOf, arrived] at hnew hturn
  have hwaits : packetWaits c p (carry c p s).1 = true := by
    simp [packetWaits, hreach, isNext, hnew, hturn]
  rw [receive_carried hcarry, hwaits, if_pos rfl, admitPacket_reached hreach, arrived]

/-- An early packet is marked in its window, and nothing else happens (R259). -/
theorem sequence_early (hnew : judged (windowKey p s) c p s = none)
    (hturn : p.sequence.toNat ≠ (windowOf (windowKey p s) s).highWater + 1) :
    sequence c p s = setWindow (windowKey p s) { windowOf (windowKey p s) s with
      marks := put p.sequence.toNat (.held (contentDigest c p) c s.now) (windowOf (windowKey p s) s).marks } s := by
  simp [sequence, hnew, hturn]

/-! ### An expired gap (R260) -/

theorem exec_gapHoldExpiry {originator : U32} {key q : Nat} {held : Instr}
    (h : ((keysOf originator.toNat).findSome? fun k => (oldestHeld (windowOf k s)).map fun m => (k, m)) =
      some (key, q, held)) (hp : held.packet? = some p) :
    exec (.gapHoldExpiry originator) s = .next (drain key q (receiverOf held p s) 512 s) := by
  simp [exec, execGapHoldExpiry, h, hp]

/-- The originator's own window is looked at before those of quarantined Eaves. -/
theorem exec_gapHoldExpiry_own {originator : U32} {q : Nat} {held : Instr}
    (h : oldestHeld (windowOf originator.toNat s) = some (q, held)) (hp : held.packet? = some p) :
    exec (.gapHoldExpiry originator) s = .next (drain originator.toNat q (receiverOf held p s) 512 s) :=
  exec_gapHoldExpiry (by simp [keysOf, h]) hp

section
variable {key target receiver fuel : Nat} {w : Window} (hw : lookup s.batten.windows key = some w)
include hw

theorem drain_held {d : Digest} {n : Nat} (h : lookup w.marks (w.highWater + 1) = some (.held d c n))
    (hp : c.packet? = some p) : drain key target receiver (fuel + 1) s =
      drain key target receiver fuel (freePacket p (execute key c p s)) := by
  simp [drain, hw, h, hp]

theorem drain_missing (h : lookup w.marks (w.highWater + 1) = none) (hq : w.highWater + 1 < target) :
    drain key target receiver (fuel + 1) s = drain key target receiver fuel (count (cBatten receiver 8)
      (setWindow key (Window.prune { w with
        marks := put (w.highWater + 1) .skipped w.marks, highWater := w.highWater + 1 }) s)) := by
  simp [drain, hw, h, hq]

theorem drain_ends (h : lookup w.marks (w.highWater + 1) = none) (hq : target ≤ w.highWater + 1) :
    drain key target receiver (fuel + 1) s = s := by
  simp [drain, hw, h, hq]
end

/-! ### Malformed packets (R247, Table 5.5) -/

section
variable {f : PacketFault} {bytes : List Byte}

theorem exec_malformedPacket_management {n : Nat} {k : Connection} (hk : connection n s = some k)
    (he : eaveAnswers k.eave s = true) : exec (.malformedPacket (.management n) f bytes) s =
      .next (if f.kind = .framing then closeConnection k (count (cBatten (1 + Eave.code k.eave) (faultCode f)) s)
        else count (cBatten (1 + Eave.code k.eave) (faultCode f)) s) := by
  simp [exec, execMalformedPacket, hk, he]

theorem exec_malformedPacket_ridge {e : Eave} (hb : (eave e s).booted = true) (hf : hearsRidge f.unit = true)
    (hu : unitRuns f.unit s = true) :
    exec (.malformedPacket (.ridge e) f bytes) s = .next (count (cBatten (unitIndex f.unit) (faultCode f)) s) := by
  simp [exec, execMalformedPacket, hb, hf, hu]

theorem exec_malformedPacket_finial (hb : s.referee.booted = true) (hf : hearsFinial f.unit = true)
    (hu : unitRuns f.unit s = true) :
    exec (.malformedPacket .finial f bytes) s = .next (count (cBatten (unitIndex f.unit) (faultCode f)) s) := by
  simp [exec, execMalformedPacket, hb, hf, hu]

/-- An in-band packet is malformed inside a frame that passes its own checks; on an optical port it counts as
wrongly framed whatever its fault. -/
theorem exec_malformedPacket_inBand (q : Nat) (e : U16) : exec (.malformedPacket (.inBand q e) f bytes) s =
    .next (if (battenIn q e bytes s).2 = true then
        returnCredits q 7 (creditsOf bytes.length)
          (releaseShingles ((servingSite q (battenIn q e bytes s).1).getD 0) (creditsOf bytes.length)
            (count (cBatten 0 (if 128 ≤ q then 1 else faultCode f)) (battenIn q e bytes s).1))
      else (battenIn q e bytes s).1) := rfl
end
end

/-- Settles O51: Table 5.6 is the judgement of a sequence by its mark, and a gap's expiry drains the window that it
names. -/
theorem windowsOrderCommands : Obligations.WindowsOrderCommands := by
  refine ⟨fun originator s key q c p h hp => exec_gapHoldExpiry h hp, ?_⟩
  intro c p s hp hr h t o q w d
  have judges {u : State} (hj : judged o c p t = some u) : exec c s = .next (freePacket p u) := by
    rw [exec_batten hp hr, receive_judged h hj]
  refine ⟨fun x path hmark => ⟨fun hx => ?same, fun hx => ?other⟩, fun hmark => judges (judged_skipped hmark),
    fun hmark => ⟨fun hq => judges (judged_forgotten hmark hq), fun hlow hhigh => ?early,
      fun hq => judges (judged_tooEarly hmark hq)⟩⟩
  case same => rw [judges (judged_copy hmark), again_same hx]
  case other => rw [judges (judged_copy hmark), again_diverged hx]
  case early =>
    have hnew : judged o c p t = none := judged_new hmark (Nat.lt_of_succ_lt hlow) hhigh
    have hturn : q ≠ w.highWater + 1 := Nat.ne_of_gt hlow
    rw [exec_batten hp hr, receive_waits h hnew hturn]
    exact congrArg _ (sequence_early hnew hturn)

/-- Settles O50: each fault ends the packet's way at its own check, and a refused command has its sequence recorded. -/
theorem packetsThatDoNotRun : Obligations.PacketsThatDoNotRun := by
  refine ⟨?beforeWindow, ?refused, fun op p s hop h => exec_unassignedOpcode_inTurn hop h, ?malformed⟩
  case beforeWindow =>
    intro c p s hp hr hcarry t
    have stops (h : reachesWindow c p t = false) : exec c s = .next (freePacket p (admitPacket c p t)) := by
      rw [exec_batten hp hr, receive_beforeWindow hcarry h]
    refine ⟨fun code r a hh => ?_, fun hh ho => ?_, fun hh ho hopen hq => ?_⟩
    · rw [stops (by simp [reachesWindow, hh]), admitPacket_headerFault hh]
    · rw [stops (by simp [reachesWindow, ho]), admitPacket_forbidden hh ho]
    · rw [stops (by simp [reachesWindow, hq]), admitPacket_zeroSequence hh ho hopen hq]
  case refused =>
    intro c p s a hp hr h ha
    rw [exec_batten hp hr, receive_inTurn h, execute_refused ha]
    rfl
  case malformed =>
    rintro path f bytes s
    refine ⟨?_, ?_, ?_⟩
    · rintro n k rfl hk he
      exact exec_malformedPacket_management hk he
    · rintro e rfl hb hf hu
      exact exec_malformedPacket_ridge hb hf hu
    · rintro rfl hb hf hu
      exact exec_malformedPacket_finial hb hf hu

/-- Settles O52: a gap's expiry drains its window step by step, an unassigned opcode is refused by check 3, and each
path counts a malformed packet at the receiver that meets it. -/
theorem gapsAndMalformedPackets : Obligations.GapsAndMalformedPackets := by
  refine ⟨fun originator s q c p h hp => exec_gapHoldExpiry_own h hp, fun key target receiver fuel s w hw =>
      ⟨fun d c n p h hp => drain_held hw h hp, drain_missing hw, drain_ends hw⟩, ?unassigned,
    fun n k f bytes s hk he => exec_malformedPacket_management hk he, ?inBand,
    fun f bytes s hu => ⟨fun e hb hf => exec_malformedPacket_ridge hb hf hu,
      fun hb hf => exec_malformedPacket_finial hb hf hu⟩⟩
  case unassigned =>
    intro op p s hop c
    refine ⟨fun h => exec_unassignedOpcode_inTurn hop h, fun hcarry hh ho hq hw => ?_⟩
    have stops : reachesWindow c p (carry c p s).1 = false := by
      simp [reachesWindow, hw, show targetRefusal c p = some (refuse stUnknownOp 0 0) from rfl]
    rw [exec_unassignedOpcode hop, receive_beforeWindow hcarry stops, admitPacket_sequenced hh ho rfl hq]
    exact congrArg (fun t => Host.Outcome.next (freePacket p t)) (anchorAndSequence_refused rfl hw)
  case inBand =>
    intro q e f bytes s t
    exact ⟨fun h => (exec_malformedPacket_inBand q e).trans (congrArg _ (if_neg (by simp [h]))),
      fun h => (exec_malformedPacket_inBand q e).trans (congrArg _ (if_pos h))⟩

end Sys2Proof.Machine
end

section
/-! Identity and session reads, and what COMPLETION_READ answers (Table 6.5, R261, R285, R286). -/

namespace Sys2Proof.Machine

section
variable {q : Nat} {w : Window} {d x : Digest}

/-! ### What a window remembers of a sequence (R261) -/

theorem completionOf_kept {path : Path} {r : Reply} (hmark : lookup w.marks q = some (.executed d path))
    (hdone : w.running.contains q = false) (hkept : lookup w.kept q = some r) :
    completionOf q w = ok (keptBytes r) := by
  simp only [completionOf, hmark, hdone, hkept]
  rfl

theorem completionOf_running {path : Path} (hmark : lookup w.marks q = some (.executed d path))
    (h : w.running.contains q = true ∨ lookup w.kept q = none) :
    completionOf q w = .done stAccepted 0 0 (((lookup w.kept q).map keptBytes).getD []) := by
  have hwaits : (w.running.contains q || (lookup w.kept q).isNone) = true := by
    rcases h with h | h
    · rw [h, Bool.true_or]
    · rw [h, Option.isNone_none, Bool.or_true]
  simp only [completionOf, hmark, hwaits, if_pos]

theorem completionOf_held {c : Instr} {t : Nat} (hmark : lookup w.marks q = some (.held d c t)) :
    completionOf q w = .done stAccepted 0 0 [] := by
  simp only [completionOf, hmark]

theorem completionOf_skipped (hmark : lookup w.marks q = some .skipped) : completionOf q w = refuse stStale 0 0 := by
  simp only [completionOf, hmark]

theorem completionOf_notSeen (hmark : lookup w.marks q = none) (hq : w.highWater < q) :
    completionOf q w = refuse stRange rNotSeen 0 := by
  simp [completionOf, hmark, hq]

theorem completionOf_forgotten (hmark : lookup w.marks q = none) (hpos : 0 < q) (hq : q ≤ w.highWater) :
    completionOf q w = refuse stStale 0 0 := by
  simp [completionOf, hmark, Nat.ne_of_gt hpos, Nat.not_lt.mpr hq]

end

/-! ### What the identity read answers (Table 6.5) -/

theorem identityRun_eq (p : Packet) (s : State) : identityRun p s =
    (s, ok (padTo 24 (orderCode s) ++ padTo 16 s.ident.serial ++ le 2 s.ident.stepping.toNat ++ [0x10, 1, 1])) := by
  have bytes : le 1 0x10 ++ le 1 1 ++ le 1 1 = ([0x10, 1, 1] : List Byte) := rfl
  rw [← bytes]
  simp only [identityRun, List.append_assoc]

/-- Settles O1: each read is its own row, and COMPLETION_READ answers what the window says of the sequence. -/
theorem sessionReadsAnswer : Obligations.SessionReadsAnswer := by
  refine ⟨?identity, ?features, ?certRead, ?rolemapRead, ?completionRead⟩
  case identity =>
    intro p s h
    exact completes_of_run rfl rfl h (identityRun_eq p _) rfl fun _ => rfl
  case features =>
    intro p s h
    exact completes_of_run rfl rfl h rfl rfl fun _ => rfl
  case certRead =>
    intro p s h
    exact completes_of_run rfl rfl h rfl rfl fun _ => rfl
  case rolemapRead =>
    intro p s h
    exact completes_of_run rfl rfl h rfl rfl fun _ => rfl
  case completionRead =>
    intro p s h c b q own w
    have answers {a : Ans} (ha : completionOf q w = a) : run c b = (b, a) := congrArg (Prod.mk b) ha
    refine ⟨fun d path r hmark hdone hkept => ?_, fun d path hmark hwaits => ?_, fun d i t hmark => ?_, fun hmark => ?_,
      fun hmark hq => ?_, fun hmark hpos hq => ?_⟩
    · exact completes_of_run rfl rfl h (answers (completionOf_kept hmark hdone hkept)) rfl fun _ => rfl
    · exact completes_of_run rfl rfl h (answers (completionOf_running hmark hwaits)) rfl fun _ => rfl
    · exact completes_of_run rfl rfl h (answers (completionOf_held hmark)) rfl fun _ => rfl
    · exact refuses_of_run rfl rfl h (answers (completionOf_skipped hmark)) rfl
    · exact refuses_of_run rfl rfl h (answers (completionOf_notSeen hmark hq)) rfl
    · exact refuses_of_run rfl rfl h (answers (completionOf_forgotten hmark hpos hq)) rfl

end Sys2Proof.Machine
end

section
/-! SESSION_OPEN (R256, R273, R274): a connection joins a live session, or a new one whose ID no session has had. -/

namespace Sys2Proof.Machine

/-! ### An unused ID (R273) -/

/-- The IDs that a new session tries, in their order. -/
def candidateIds (s : State) : List Nat :=
  (List.range (s.batten.usedIds.length + 1)).map fun k =>
    0x10000 + (Config.sessionId s.freeCount % sessionIds + k) % sessionIds

theorem newSessionId_eq (s : State) : newSessionId s =
    ((candidateIds s).find? fun i => !s.batten.usedIds.contains i).getD
      (0x10000 + Config.sessionId s.freeCount % sessionIds) := rfl

theorem candidateIds_length (s : State) : (candidateIds s).length = s.batten.usedIds.length + 1 := by
  simp [candidateIds]

theorem mem_candidateIds_bounds {s : State} {i : Nat} (h : i ∈ candidateIds s) : 0x10000 ≤ i ∧ i ≤ 0xFFFFFFFE := by
  simp only [candidateIds, List.mem_map, sessionIds] at h
  obtain ⟨k, -, rfl⟩ := h
  omega

/-- Fewer steps than there are IDs do not come back to an ID. -/
theorem candidateIds_nodup {s : State} (h : s.batten.usedIds.length < sessionIds) : (candidateIds s).Nodup := by
  refine List.Nodup.map_on (fun i hi j hj hij => ?_) List.nodup_range
  simp only [List.mem_range, sessionIds] at hi hj hij h
  omega

/-- One ID more than have been used are tried, so that one of them is unused. -/
theorem exists_unused_candidateId {s : State} (h : s.batten.usedIds.length < sessionIds) :
    ∃ i ∈ candidateIds s, i ∉ s.batten.usedIds := by
  by_contra hall
  push Not at hall
  have hle := ((candidateIds_nodup h).subperm hall).length_le
  rw [candidateIds_length] at hle
  omega

theorem newSessionId_unused {s : State} (h : s.batten.usedIds.length < sessionIds) :
    newSessionId s ∈ candidateIds s ∧ newSessionId s ∉ s.batten.usedIds := by
  obtain ⟨i, hi, hunused⟩ := exists_unused_candidateId h
  rw [newSessionId_eq]
  cases hfound : (candidateIds s).find? fun i => !s.batten.usedIds.contains i with
  | none => simpa [hunused] using List.find?_eq_none.mp hfound i hi
  | some j => exact ⟨List.mem_of_find?_eq_some hfound, by simpa using List.find?_some hfound⟩

/-! ### The command -/

section
variable {n : Nat} {k : Connection} {p : Packet} {s : State}

theorem connection_id (h : connection n s = some k) : k.id = n := by
  simpa using List.find?_some h

/-- A new session is refused while every ID has been used. -/
theorem openRefusal_usedIds (h : openRefusal k p s = none) (hlive : (liveSession p.originator s).isSome = false) :
    s.batten.usedIds.length < sessionIds := by
  have hnone : liveSession p.originator s = none := by simpa using hlive
  cases hlayout : (layoutOf s (.sessionOpen p)).refusal p.body with
  | some ra =>
    simp only [openRefusal, hnone, hlayout] at h
    split_ifs at h
  | none =>
    simp only [openRefusal, hnone, hlayout] at h
    split_ifs at h with _ _ _ _ _ hroom
    simp only [Option.isNone_none, Bool.true_and, Bool.or_eq_true, decide_eq_true_eq, not_or, not_le] at hroom
    exact hroom.2

/-- A SESSION_OPEN that its path and its header let through opens a session. -/
theorem exec_sessionOpen (hpath : p.path = .management n) (hk : connection n s = some k)
    (he : eaveAnswers k.eave s = true) (hlen : 36 + p.body.length ≤ pathLimit p) (hh : headerFault p = none)
    (ho : originatorPermitted (.sessionOpen p) p s = true) : exec (.sessionOpen p) s = .next (sessionOpen k p s) := by
  have hcarry : carry (.sessionOpen p) p s = (s, true) := by
    simp [carry, hpath, hk, he, Nat.not_lt.mpr hlen, isOpen]
  have hadmit : admitPacket (.sessionOpen p) p s = sessionOpen k p s := by
    simp [admitPacket, hh, ho, hpath, hk, isOpen]
  have hreach : reachesWindow (.sessionOpen p) p (carry (.sessionOpen p) p s).1 = false := by
    simp [reachesWindow, isOpen]
  rw [exec_batten rfl rfl, receive_beforeWindow (by rw [hcarry]) hreach, hcarry, freePacket_other (by simp [hpath]),
    hadmit]

theorem sessionOpen_rejoins (h : openRefusal k p s = none) (hlive : (liveSession p.originator s).isSome = true) :
    sessionOpen k p s = answerHere p 0 stOk 0 0
      (le 4 p.originator.toNat ++ zs 4 ++ le 8 (windowOf p.originator.toNat s).highWater)
      (bindConnection k.id p.originator s) := by
  simp [sessionOpen, h, hlive]

theorem newSession_highWater : (windowOf (newSessionId s) (newSession k p s).1).highWater = 0 :=
  congrArg Window.highWater (windowOf_setWindow_same ..)

theorem sessionOpen_opens (h : openRefusal k p s = none) (hlive : (liveSession p.originator s).isSome = false)
    (hid : newSessionId s ≤ 0xFFFFFFFE) : sessionOpen k p s = answerHere p 0 stOk 0 0
      (le 4 (newSessionId s) ++ zs 4 ++ le 8 0)
      (bindConnection k.id (BitVec.ofNat 32 (newSessionId s)) (newSession k p s).1) := by
  have hword : (newSession k p s).2 = BitVec.ofNat 32 (newSessionId s) := rfl
  have hnumber : (BitVec.ofNat 32 (newSessionId s)).toNat = newSessionId s := by
    rw [BitVec.toNat_ofNat]
    omega
  simp [sessionOpen, h, hlive, hword, hnumber, newSession_highWater]

end

/-- Settles O2: a live session is rejoined, and a new one takes the first of its candidate IDs that is unused. -/
theorem sessionOpenBindsConnection : Obligations.SessionOpenBindsConnection := by
  intro n k p s hpath hk he hlen hh ho hrefusal
  have hid : k.id = n := connection_id hk
  refine ⟨fun hlive => ?_, fun hlive => ?_⟩
  · rw [exec_sessionOpen hpath hk he hlen hh ho, sessionOpen_rejoins hrefusal hlive, hid]
  · obtain ⟨hmem, hunused⟩ := newSessionId_unused (openRefusal_usedIds hrefusal hlive)
    obtain ⟨hlow, hhigh⟩ := mem_candidateIds_bounds hmem
    rw [exec_sessionOpen hpath hk he hlen hh ho, sessionOpen_opens hrefusal hlive hhigh, hid]
    exact ⟨rfl, hunused, hlow, hhigh⟩

end Sys2Proof.Machine
end

section
/-! TLS handshakes, closing connections, ending sessions and a new role map (R265-R267, R270, R272, R276, R280,
R380). -/

namespace Sys2Proof.Machine

/-! ### Connections (R265-R272) -/

section
variable {conn : Nat} {e : Eave} {hello : TlsHello} {s : State}

/-- An offer that suits is answered with the Eave's certificate, and the client is judged by its own. -/
theorem exec_tlsHandshake_suits (he : eaveAnswers e s = true) (hfree : connection conn s = none)
    (hsuits : helloSuits hello = true) : exec (.tlsHandshake conn e hello) s =
      .next (admitClient conn e hello (emit (.serverCertificate conn (serverChain e s)) s)) := by
  simp [exec, execTlsHandshake, he, hfree, hsuits]

theorem exec_tlsHandshake_unsuited (he : eaveAnswers e s = true) (hfree : connection conn s = none)
    (hsuits : helloSuits hello = false) :
    exec (.tlsHandshake conn e hello) s = .next (emit (.refusedHandshake conn) s) := by
  simp [exec, execTlsHandshake, he, hfree, hsuits]

theorem admitClient_known (h : matching hello.fingerprint hello.issuers s ≠ []) : admitClient conn e hello s =
    { s with batten.connections := s.batten.connections ++
      [{ id := conn, eave := e, fingerprint := hello.fingerprint, issuers := hello.issuers, session := none }] } :=
  if_neg (by simpa using h)

theorem admitClient_unknown (h : matching hello.fingerprint hello.issuers s = []) :
    admitClient conn e hello s = emit (.refusedHandshake conn) s :=
  if_pos (by simpa using h)

theorem exec_connectionClose {k : Connection} (h : connection conn s = some k) :
    exec (.connectionClose conn) s = .next (dropConnection k s) := by
  simp [exec, execConnectionClose, h]

theorem exec_sessionLingerExpiry {o : U32} {x : Session} (hlive : liveSession o s = some x) (h : x.lingering = true) :
    exec (.sessionLingerExpiry o) s = .next (endSession o s) := by
  simp [exec, execSessionLingerExpiry, hlive, h]

end

/-! ### The role map (R269, R380, R381) -/

/-- The state once a new role map is in force and its change is journalled. -/
def roleMapReplaced (p : Packet) (s : State) : State :=
  let es := roleEntries p.body
  let d := sha256 (roleMapBytes es)
  let t := { s with batten.roleMap := es }
  journalFinial (paramBody 3 es.length p.originator.toNat (markTallyNat t) d t) t

/-- A map without an ADMIN entry is refused; any other replaces the one in force. -/
theorem rolemapWriteRun_eq (p : Packet) (s : State) : rolemapWriteRun p s =
    if (roleEntries p.body).any (fun e => e.role = .admin) = true then
      (roleMapReplaced p s, ok (digestBytes (sha256 (roleMapBytes (roleEntries p.body)))))
    else (s, refuse stPrecond rLastAdmin 0) := by
  simp only [rolemapWriteRun, Bool.not_eq_true', ← Bool.not_eq_true, ite_not]
  rfl

/-- Settles O3: each event and each of the two commands is its own equation. -/
theorem sessionsBeginAndEnd : Obligations.SessionsBeginAndEnd := by
  refine ⟨?handshake, fun conn k s hk => exec_connectionClose hk,
    fun o x s hlive h => exec_sessionLingerExpiry hlive h, ?sessionClose, ?rolemapWrite⟩
  case handshake =>
    intro conn e hello s he hfree t
    refine ⟨fun hsuits hknown => ?_, fun hsuits hunknown => ?_, exec_tlsHandshake_unsuited he hfree⟩
    · exact (exec_tlsHandshake_suits he hfree hsuits).trans (congrArg _ (admitClient_known (s := t) hknown))
    · exact (exec_tlsHandshake_suits he hfree hsuits).trans (congrArg _ (admitClient_unknown (s := t) hunknown))
  case sessionClose =>
    intro p s h
    exact completes_of_run rfl rfl h rfl rfl fun _ => rfl
  case rolemapWrite =>
    intro p s h c b es d t
    refine ⟨fun hadmin => ?_, fun hadmin => ?_⟩
    · exact completes_of_run rfl rfl h ((rolemapWriteRun_eq p b).trans (if_pos hadmin)) rfl fun _ => rfl
    · exact refuses_of_run rfl rfl h ((rolemapWriteRun_eq p b).trans (if_neg (ne_true_of_eq_false hadmin))) rfl

end Sys2Proof.Machine
end

section
/-! Parameters (R143, R149, R293-R303): what each command of Table 6.6 answers, and the application of what is
scheduled. -/

namespace Sys2Proof.Machine

/-! ### The first entry at fault (R294) -/

section
variable {α β : Type} {f : α → Option β}

/-- The search of numbered entries finds nothing where no entry is at fault. -/
theorem findSome?_numbered_none {xs : List α} (h : ∀ x ∈ xs, f x = none) :
    ((xs.zip (List.range xs.length)).findSome? fun e => (f e.1).map fun b => (b, e.2)) = none := by
  rw [List.findSome?_eq_none_iff]
  rintro ⟨x, i⟩ hmem
  simp [h x (List.of_mem_zip hmem).1]

theorem findSome?_numberedFrom_first {xs : List α} {k i : Nat} {b : β} (hi : i < xs.length)
    (hbefore : ∀ j, (g : j < i) → f xs[j] = none) (hat : f xs[i] = some b) :
    ((xs.zip (List.range' k xs.length)).findSome? fun e => (f e.1).map fun b => (b, e.2)) = some (b, k + i) := by
  induction xs generalizing k i with
  | nil => exact absurd hi (Nat.not_lt_zero i)
  | cons x xs ih =>
    rw [List.length_cons, List.range'_succ, List.zip_cons_cons, List.findSome?_cons]
    cases i with
    | zero => simp [show f x = some b from hat]
    | succ i =>
      have hx : f x = none := hbefore 0 (Nat.succ_pos i)
      have hrest := ih (k := k + 1) (Nat.lt_of_succ_lt_succ hi) (fun j g => hbefore (j + 1) (Nat.succ_lt_succ g)) hat
      simp only [hx, Option.map_none, hrest, Nat.add_assoc, Nat.add_comm 1 i]

/-- It finds the first entry at fault, with its number. -/
theorem findSome?_numbered_first {xs : List α} {i : Nat} {b : β} (hi : i < xs.length)
    (hbefore : ∀ j, (g : j < i) → f xs[j] = none) (hat : f xs[i] = some b) :
    ((xs.zip (List.range xs.length)).findSome? fun e => (f e.1).map fun b => (b, e.2)) = some (b, i) := by
  rw [List.range_eq_range', findSome?_numberedFrom_first hi hbefore hat, Nat.zero_add]

end

/-! ### The status of an entry at fault (R294) -/

theorem unitStatus_code {a f d : Bool} {st : Nat} (h : unitStatus a f d = some st) :
    st = stAbsent ∨ st = stFaulted ∨ st = stDisabled := by
  unfold unitStatus at h
  split_ifs at h
  all_goals cases h
  · exact .inl rfl
  · exact .inr (.inl rfl)
  · exact .inr (.inr rfl)

theorem unitState_code {unit inst st : Nat} {s : State} (h : unitState unit inst s = some st) :
    st = stAbsent ∨ st = stFaulted ∨ st = stDisabled := by
  unfold unitState at h
  dsimp only at h
  split at h
  case h_11 => cases h
  all_goals split_ifs at h
  all_goals exact unitStatus_code h

/-- An entry at fault is refused: its status is neither OK nor ACCEPTED. -/
theorem entryFault_refuses {id v st : Nat} {s : State} (h : entryFault id v s = some st) (r a : Nat) :
    (refuse st r a).executed = false := by
  have hcode : st = stRange ∨ st = stAbsent ∨ st = stFaulted ∨ st = stDisabled := by
    unfold entryFault at h
    cases hi : paramInfo s id with
    | none =>
      simp only [hi, Option.some.injEq] at h
      exact .inl h.symm
    | some i =>
      cases hu : unitState (id / 16777216) ((id / 256) % 65536) s with
      | none =>
        simp only [hi, hu] at h
        split_ifs at h
        all_goals cases h
        · exact .inr (.inl rfl)
        · exact .inl rfl
      | some code =>
        simp only [hi, hu] at h
        split_ifs at h
        all_goals cases h
        · exact .inr (.inl rfl)
        · exact .inr (unitState_code hu)
  rcases hcode with rfl | rfl | rfl | rfl
  all_goals rfl

/-! ### What the commands answer (Table 6.6) -/

section
variable {p : Packet} {s : State}

/-- The IDs that a PARAM_READ asks for. -/
def readIds (p : Packet) : List Nat := (List.range (field p.body 0 2)).map fun i => field p.body (4 + 4 * i) 4

/-- The originator's staged set once the entries of a PARAM_STAGE have been added to it. -/
def stagedWith (p : Packet) (s : State) : List (Nat × Nat) :=
  (stageEntries p.body).foldl (fun m e => put e.1 e.2 m) (stagedOf p.originator s)

theorem paramStageRun_fault {st i : Nat} (hi : i < (stageEntries p.body).length)
    (hbefore : ∀ j, (g : j < i) → entryFault (stageEntries p.body)[j].1 (stageEntries p.body)[j].2 s = none)
    (hat : entryFault (stageEntries p.body)[i].1 (stageEntries p.body)[i].2 s = some st) :
    paramStageRun p s = (s, refuse st rEntry i) := by
  simp only [paramStageRun, findSome?_numbered_first (f := fun e : Nat × Nat => entryFault e.1 e.2 s) hi hbefore hat]

theorem paramStageRun_sound (h : ∀ e ∈ stageEntries p.body, entryFault e.1 e.2 s = none) :
    paramStageRun p s = if 1024 < (stagedWith p s).length then (s, refuse stBusy rSetFull 0)
      else ({ s with batten.staged := put p.originator.toNat (stagedWith p s) s.batten.staged },
        ok (le 2 (stagedWith p s).length ++ zs 6)) := by
  have hnone := findSome?_numbered_none (f := fun e : Nat × Nat => entryFault e.1 e.2 s) h
  simp only [paramStageRun, hnone]
  rfl

theorem paramReadRun_readable (h : ∀ i ∈ readIds p, unreadable i s = none) : paramReadRun p s =
    (s, ok ((readIds p).flatMap fun i => readEntry i (stagedOf p.originator s) s)) := by
  have hnone := findSome?_numbered_none (f := fun i => unreadable i s) h
  rw [readIds] at hnone
  simp only [paramReadRun, hnone]
  rfl

theorem paramDescribeRun_present {i : ParamInfo} (hi : paramInfo s (field p.body 0 4) = some i)
    (hpresent : paramAbsent (field p.body 0 4) s = false) : paramDescribeRun p s =
      (s, ok (le 1 (bit i.signed) ++ [2] ++ le 1 (bit i.retained) ++ zs 5 ++ le 8 i.min ++ le 8 i.max ++
        le 8 i.default)) := by
  simp only [paramDescribeRun, hi, hpresent]
  rfl

/-- A commit that meets no obstacle schedules the staged set, which is staged no more (R295-R301). -/
theorem paramCommitRun_schedules (hrange : field p.body 0 8 ≤ tallyNat s + 2 ^ 40) (hset : stagedOf p.originator s ≠ [])
    (hfault : setFault (stagedOf p.originator s) s = none)
    (hnone : ∀ x ∈ s.batten.scheduled, x.originator ≠ p.originator)
    (hconflict : conflicts p.originator (tickUsed (field p.body 0 8) s) (stagedOf p.originator s) s = false) :
    paramCommitRun p s = ({ bumpFree s with batten := { s.batten with
      staged := erase p.originator.toNat s.batten.staged
      scheduled := s.batten.scheduled ++ [{ originator := p.originator, tick := tickUsed (field p.body 0 8) s
                                            entries := stagedOf p.originator s }]
      appliedBy := s.batten.appliedBy.filter (· != p.originator.toNat) } },
      ok (le 8 (tickUsed (field p.body 0 8) s))) := by
  have hfree : (s.batten.scheduled.any fun x => x.originator = p.originator) = false := by simpa using hnone
  refine (if_neg (Nat.not_lt.mpr hrange)).trans ?_
  simp [hset, hfault, hfree, hconflict]

/-- Only a set that has been applied, and nothing staged or scheduled beside it, cannot be discarded (R303). -/
theorem paramDiscardRun_discards (h : stagedOf p.originator s ≠ [] ∨
      (s.batten.scheduled.any fun x => x.originator = p.originator) = true ∨
      s.batten.appliedBy.contains p.originator.toNat = false) :
    paramDiscardRun p s = ({ s with batten := { s.batten with
      staged := erase p.originator.toNat s.batten.staged
      scheduled := s.batten.scheduled.filter fun x => x.originator != p.originator
      appliedBy := if s.batten.scheduled.any fun x => x.originator = p.originator then
          s.batten.appliedBy.filter (· != p.originator.toNat) else s.batten.appliedBy } },
      ok (le 2 (stagedOf p.originator s).length ++
        le 1 (bit (s.batten.scheduled.any fun x => x.originator = p.originator)) ++ zs 5)) := by
  have hopen : ¬((stagedOf p.originator s).isEmpty && !(s.batten.scheduled.any fun x => x.originator = p.originator) &&
      s.batten.appliedBy.contains p.originator.toNat) = true := by
    simp only [Bool.and_eq_true, Bool.not_eq_true', List.isEmpty_iff]
    rintro ⟨⟨hstaged, hscheduled⟩, happlied⟩
    rw [hscheduled, happlied] at h
    simp [hstaged] at h
  exact if_neg hopen

/-! ### Application (R143, R149, R301-R304) -/

/-- The state in which the sets of the tick `t` are applied: the snapshots of that tick have been taken (R151, R309). -/
def atSetTick (t : Nat) (s : State) : State := snapsBefore (if t < tallyNat s then tallyNat s + 1 else t) s

theorem exec_paramSetApply {t : Nat} (hmarks : marksSent s = true) (ht : earliest s = some t) :
    exec .paramSetApply s = .next ((sortBy (fun a b => a.tick ≤ b.tick)
      ((atSetTick t s).batten.scheduled.filter fun x => x.tick ≤ tallyNat (atSetTick t s))).foldl
        (fun v x => applySet x v) (atSetTick t s)) := by
  simp only [exec, execParamSetApply, hmarks, ht]
  rfl

theorem setParam_params {id v : Nat} {i : ParamInfo} (h : paramInfo s id = some i) :
    (setParam id v s).params = if v = i.default then erase id s.params else put id v s.params := by
  simp [setParam, h]

end

/-- Settles O4: the commands answer by the checks that they pass, and the two events by what is due at their tick. -/
theorem parametersStagedAndApplied : Obligations.ParametersStagedAndApplied := by
  refine ⟨?stage, ?read, ?describe, ?commit, ?discard, fun s t hmarks ht => exec_paramSetApply hmarks ht,
    fun id v s i h => setParam_params h, ?mark⟩
  case stage =>
    intro p s h c b es staged
    refine ⟨fun hsound => ⟨fun hroom => ?_, fun hfull => ?_⟩, fun i st hi hbefore hat => ?_⟩
    · exact completes_of_run rfl rfl h ((paramStageRun_sound hsound).trans (if_neg (Nat.not_lt.mpr hroom))) rfl
        fun _ => rfl
    · exact refuses_of_run rfl rfl h ((paramStageRun_sound hsound).trans (if_pos hfull)) rfl
    · exact refuses_of_run rfl rfl h (paramStageRun_fault hi hbefore hat) (entryFault_refuses hat ..)
  case read =>
    intro p s h c b ids hids
    exact completes_of_run rfl rfl h (paramReadRun_readable hids) rfl fun _ => rfl
  case describe =>
    intro p s i h b hi hpresent
    exact completes_of_run rfl rfl h (paramDescribeRun_present hi hpresent) rfl fun _ => rfl
  case commit =>
    intro p s h c b o tick set hrange hset hfault hnone hconflict
    exact completes_of_run rfl rfl h (paramCommitRun_schedules hrange hset hfault hnone hconflict) rfl fun _ => rfl
  case discard =>
    intro p s h c b o had hdue
    exact completes_of_run rfl rfl h (paramDiscardRun_discards hdue) rfl fun _ => rfl
  case mark =>
    intro s hmarks
    exact if_neg (by simp [hmarks])

end Sys2Proof.Machine
end

section
/-! The frame of a Batten command over a management connection (R257, R280, R288): what recording its sequence and
answering it leave as they were. -/

namespace Sys2Proof.Machine

/-! ### Two frames -/

/-- From `s` to `t` no field changes but the Batten record and the counters. -/
def RecordsAlone (s t : State) : Prop := t = { s with batten := t.batten, counters := t.counters }

/-- From `s` to `t` no field changes but the Batten record, what has been sent and the record of events. -/
def AnswersAlone (s t : State) : Prop :=
  t = { s with batten := t.batten, out := t.out, referee.events := t.referee.events }

section
variable {s t u : State}

theorem RecordsAlone.refl (s : State) : RecordsAlone s s := rfl

theorem RecordsAlone.trans (h : RecordsAlone s t) (k : RecordsAlone t u) : RecordsAlone s u :=
  Eq.trans k (by rw [h])

theorem AnswersAlone.refl (s : State) : AnswersAlone s s := rfl

theorem AnswersAlone.trans (h : AnswersAlone s t) (k : AnswersAlone t u) : AnswersAlone s u :=
  Eq.trans k (by rw [h])

theorem AnswersAlone.counters (h : AnswersAlone s t) : t.counters = s.counters := by
  unfold AnswersAlone at h
  rw [h]

theorem RecordsAlone.answered (h : RecordsAlone s t) (k : AnswersAlone t u) : u = { s with
    batten := u.batten, counters := u.counters, out := u.out, referee.events := u.referee.events } := by
  have hcounters : u.counters = t.counters := k.counters
  refine Eq.trans k ?_
  rw [hcounters, h]
end

section
variable {c : Instr} {p : Packet} {n : Nat}

/-! ### Recording -/

/-- A management connection delivers a packet without a trace. -/
theorem carry_management {s : State} (hpath : p.path = .management n) (h : (carry c p s).2 = true) :
    (carry c p s).1 = s := by
  simp only [carry, hpath] at h ⊢
  cases hk : connection n s with
  | none => rfl
  | some k =>
    simp only [hk] at h ⊢
    split_ifs at h ⊢
    rfl

theorem recordsAlone_setWindow (o : Nat) (w : Window) (s : State) : RecordsAlone s (setWindow o w s) := rfl

theorem recordsAlone_anchor (p : Packet) (s : State) : RecordsAlone s (anchor p s) := by
  simp only [anchor]
  split
  · rfl
  · exact recordsAlone_setWindow ..

theorem recordsAlone_takeCopy (key : Nat) (c : Instr) (p : Packet) (s : State) :
    RecordsAlone s (takeCopy key c p s) := by
  unfold takeCopy
  split
  · exact recordsAlone_setWindow ..
  · cases opRow c with
    | none => rfl
    | some row =>
      dsimp only
      split
      · rfl
      · rfl

theorem recordsAlone_base {s : State} (hpath : p.path = .management n) (h : (carry c p s).2 = true) :
    RecordsAlone s (base c p s) := by
  have hcarry : arrived c p s = anchor p s := congrArg (anchor p) (carry_management hpath h)
  have hrecorded : RecordsAlone (anchor p s) (recorded c p s) := by
    rw [recorded, hcarry]
    exact recordsAlone_setWindow ..
  exact (recordsAlone_anchor p s).trans (hrecorded.trans (recordsAlone_takeCopy ..))

/-! ### Answering -/

theorem answersAlone_setWindow (o : Nat) (w : Window) (s : State) : AnswersAlone s (setWindow o w s) := rfl

theorem answersAlone_keep (o seq : Nat) (r : Reply) (final : Bool) (s : State) :
    AnswersAlone s (keep o seq r final s) := by
  unfold keep
  cases lookup s.batten.windows o with
  | none => rfl
  | some w => exact answersAlone_setWindow ..

/-- On a management connection a reply is only sent, once for each connection of the session (R280). -/
theorem answersAlone_sendReply (r : Reply) (s : State) : AnswersAlone s (sendReply (.management n) r s) := by
  change AnswersAlone s ((replyPaths (.management n) r.originator s).foldl (fun t q => emit (.reply q r) t) s)
  generalize replyPaths (.management n) r.originator s = paths
  induction paths generalizing s with
  | nil => rfl
  | cons q paths ih => exact AnswersAlone.trans (t := emit (.reply q r) s) rfl (ih _)

theorem answersAlone_answerIn (hpath : p.path = .management n) (o opcode : Nat) (a : Ans) (s : State) :
    AnswersAlone s (answerIn o p opcode a s) := by
  have sent (r : Reply) (final : Bool) : AnswersAlone s (sendReply p.path r (keep o p.sequence.toNat r final s)) := by
    rw [hpath]
    exact (answersAlone_keep ..).trans (answersAlone_sendReply ..)
  cases a with
  | done => exact sent ..
  | accept =>
    simp only [answerIn]
    split
    · exact sent ..
    · cases lookup s.batten.windows o with
      | none => rfl
      | some w => exact answersAlone_setWindow ..

@[simp] theorem syncFlags_path (c : Instr) (p : Packet) : (syncFlags c p).path = p.path := by
  unfold syncFlags
  split
  · rfl
  · rfl

theorem answersAlone_replied (hpath : p.path = .management n) (s t : State) (a : Ans) :
    AnswersAlone t (replied c p s t a) := by
  have answered : AnswersAlone t (answer (syncFlags c p) (opcodeOf c) a t) :=
    answersAlone_answerIn ((syncFlags_path c p).trans hpath) ..
  simp only [replied]
  split
  · exact answered.trans rfl
  · exact answered

/-! ### Nothing follows -/

/-- With nothing held at H + 1 in either window, and no buffers to free, a command's own effect is all there is. -/
theorem followed_nothing {s u : State} (hpath : p.path = .management n)
    (h : ∀ o, o = keyOf c p s ∨ o = p.originator.toNat →
      lookup (windowOf o u).marks ((windowOf o u).highWater + 1) = none) : followed c p s u = u := by
  have hdrain : drainAfter (keyOf c p s) p u = u := by
    simp [drainAfter, drain_nothing (h _ (.inl rfl)), drain_nothing (h _ (.inr rfl))]
  rw [followed, hdrain, freePacket_other (by simp [hpath])]

end

/-- Settles O58: recording and answering keep their frames step by step, and a read is no more than the two of them. -/
theorem answersTouchOnlyTheirRecords : Obligations.AnswersTouchOnlyTheirRecords := by
  refine ⟨fun c p n s hpath hcarry => recordsAlone_base hpath hcarry,
    fun c p n s t a hpath => answersAlone_replied hpath s t a, ?_⟩
  intro c p n s a hpath hcarry hreads u hrestart hready hheld
  refine ⟨?_, (recordsAlone_base hpath hcarry).answered (answersAlone_replied hpath s _ a)⟩
  have done : exec c s = .next (followed c p s (settleDue u)) := hreads
  rw [done, settleDue_quiet hrestart hready, followed_nothing hpath hheld]

end Sys2Proof.Machine
end

section
/-! Groups, decisions, reeds, engines and collectives (Table 6.9, R345, R347, R377, R534-R537, R541, R571-R580, R683):
what each command answers. -/

namespace Sys2Proof.Machine

section
variable {p : Packet} {s : State}

/-! ### Groups (R345, R534-R537) -/

/-- The group that a GROUP_DEFINE describes. -/
def describedGroup (p : Packet) : Group :=
  { id := field p.body 0 4, members := groupMembers p.body, powerHeavy := decide (field p.body 6 1 % 2 = 1)
    stepW := field p.body 8 4, record := 0 }

/-- The state once a group has been defined and its records journalled. -/
def groupDefined (p : Packet) (s : State) : State :=
  journalChain (commandBuilder p.path s) (groupBody (describedGroup p) 0 :: memberParts (describedGroup p))
    { s with reduction.groups := s.reduction.groups ++ [describedGroup p] }

theorem groupDefineRun_badMember {r : Nat} (h : badMember (groupMembers p.body) s = some r) :
    groupDefineRun p s = (s, refuse stRange rEntry r) := by
  simp only [groupDefineRun, h]

/-- Sound members leave two obstacles: an ID in use, and a full table. -/
theorem groupDefineRun_sound (h : badMember (groupMembers p.body) s = none) :
    groupDefineRun p s = if ∃ g ∈ s.reduction.groups, g.id = field p.body 0 4 then (s, refuse stPrecond rExists 0)
      else if 4096 ≤ s.reduction.groups.length then (s, refuse stBusy rGroups 0)
      else (groupDefined p s, ok []) := by
  simp only [groupDefineRun, h, List.any_eq_true, decide_eq_true_eq]
  rfl

/-- A group that exists is deleted once no collective of it is in flight. -/
theorem groupDeleteRun_found {g : Group} (h : (s.reduction.groups.find? fun x => x.id = field p.body 0 4) = some g) :
    groupDeleteRun p s =
      if (s.reduction.collectives.filter fun x => x.group.id = g.id).length ≠ 0 then
        (s, refuse stBusy rInFlight (sat 16 (s.reduction.collectives.filter fun x => x.group.id = g.id).length))
      else (journalCommand p (groupBody g 1)
        { s with reduction.groups := s.reduction.groups.filter fun x => x.id != g.id }, ok []) := by
  have hid : g.id = field p.body 0 4 := by simpa using List.find?_some h
  simp only [groupDeleteRun, h, hid]

/-! ### Decisions (R347, R683) -/

/-- The handles that a DECISION_OPEN names. -/
def namedHandles (p : Packet) : List Nat :=
  (List.range (field p.body 8 2)).map fun i => field p.body (16 + 4 * i) 4

/-- The decision that a DECISION_OPEN describes. -/
def describedDecision (p : Packet) (s : State) : Decision :=
  let rs := (namedHandles p).filterMap fun h => sealedRegion h s
  { id := field p.body 0 8, regions := rs.map fun r => (r.handle, r.digest), forced := false
    poisoned := rs.any Region.poisonSeen, record := 0 }

theorem exists_region_of_sealedRegion {h : Nat} (hs : (sealedRegion h s).isSome = true) :
    ∃ r ∈ s.loft.regions, r.handle = h := by
  obtain ⟨r, hr⟩ := Option.isSome_iff_exists.mp hs
  have hsealed := List.find?_some hr
  simp only [Bool.and_eq_true, decide_eq_true_eq] at hsealed
  exact ⟨r, List.mem_of_find?_eq_some hr, hsealed.1⟩

theorem decisionOpenRun_opens (hsealed : ∀ h ∈ namedHandles p, (sealedRegion h s).isSome = true)
    (hnew : ∀ x ∈ s.reduction.decisions, x.id ≠ field p.body 0 8) :
    decisionOpenRun p s = (journalChain (commandBuilder p.path s)
      (decisionBody (describedDecision p s) 0 0 :: regionParts (describedDecision p s))
      { s with reduction.decisions := s.reduction.decisions ++ [describedDecision p s] }, ok []) := by
  have allFound : ¬((namedHandles p).any fun h => !(s.loft.regions.any fun r => r.handle = h)) = true := by
    simpa using fun h hh => exists_region_of_sealedRegion (hsealed h hh)
  have unused : ¬(s.reduction.decisions.any fun d => d.id = field p.body 0 8) = true := by simpa using hnew
  have allSealed : ¬((namedHandles p).any fun h => (sealedRegion h s).isNone) = true := by
    simpa [Option.isSome_iff_ne_none] using hsealed
  exact (if_neg allFound).trans ((if_neg unused).trans (if_neg allSealed))

/-- A decision that exists is closed once no collective of it is in flight. -/
theorem decisionCloseRun_found {d : Decision}
    (h : (s.reduction.decisions.find? fun x => x.id = field p.body 0 8) = some d) :
    decisionCloseRun p s =
      if (s.reduction.collectives.filter fun x => x.decision = d.id).length ≠ 0 then
        (s, refuse stPrecond rInFlight (sat 16 (s.reduction.collectives.filter fun x => x.decision = d.id).length))
      else (journalCommand p (decisionBody d 1 0)
        { s with reduction.decisions := s.reduction.decisions.filter fun x => x.id != d.id }, ok []) := by
  have hid : d.id = field p.body 0 8 := by simpa using List.find?_some h
  simp only [decisionCloseRun, h, hid]

/-! ### Admission (R541, R543, R564, R714, R832) -/

theorem admission_admits {c : Collective} {ys : List (Nat × Nat)} (hnew : ∀ x ∈ s.reduction.collectives, x.id ≠ c.id)
    (htally : tallyForbids s = false) (hpower : s.power.powerFail = false) (hquiesced : s.power.quiesced = false)
    (hledger : ledgerHalt s = none) (hheavy : c.group.powerHeavy = false)
    (hroom : s.reduction.collectives.length < 65536)
    (hys : assignYealms c.group c.elements c.op c.canonical c.input s = ys) (hsome : ys ≠ []) :
    admission c s = .inr ys := by
  have unused : (s.reduction.collectives.any fun d => d.id = c.id) = false := by simpa using hnew
  have room : ¬65536 ≤ s.reduction.collectives.length := Nat.not_le.mpr hroom
  cases ys with
  | nil => exact absurd rfl hsome
  | cons y ys => simp [admission, unused, htally, hpower, hquiesced, hledger, hheavy, room, hys]

/-- The state once a described collective has been admitted to the yealms `ys`. -/
def admitted (d : Collective) (ys : List (Nat × Nat)) (p : Packet) (s : State) : State :=
  matchTrigger d.id 0 (startOp (.collective d.id) p 0x42 { s with reduction.collectives :=
    s.reduction.collectives ++ [{ d with yealms := ys, home := (ys.head?.map Prod.fst).getD 0 }] })

theorem collectiveOpenRun_admits {g : Group} {ys : List (Nat × Nat)}
    (hgroup : (s.reduction.groups.find? fun x => x.id = field p.body 16 4) = some g)
    (hdecision : field p.body 8 8 = 0 ∨ ∃ d ∈ s.reduction.decisions, d.id = field p.body 8 8)
    (h : admission (describeCollective p.body g s) s = .inr ys) :
    collectiveOpenRun p s = (admitted (describeCollective p.body g s) ys p s, .accept (le 2 ys.length ++ zs 6)) := by
  have known : ¬(field p.body 8 8 ≠ 0 && !(s.reduction.decisions.any fun d => d.id = field p.body 8 8)) = true := by
    simpa [or_iff_not_imp_left] using hdecision
  simp only [collectiveOpenRun, hgroup, if_neg known, h]
  rfl

theorem collectiveStatusRun_known {d : Collective}
    (h : ((s.reduction.collectives ++ s.reduction.done).find? fun x => x.id = field p.body 0 8) = some d) :
    collectiveStatusRun p s = (s, ok (le 1 d.state.code ++ le 1 d.flags.toNat ++ le 2 d.classes.length ++ zs 4 ++
      le 8 d.admission)) := by
  simp only [collectiveStatusRun, h]

/-! ### Cancellation (R377) -/

/-- A collective with no LAST frame to queue has nothing to settle. -/
theorem settleCollective_idle (h : ∀ c ∈ s.reduction.collectives, c.lastWaiting = []) (id : Nat) :
    settleCollective id s = s := by
  unfold settleCollective
  cases hc : findCollective id s with
  | none => rfl
  | some c => simp [h c (List.mem_of_find?_eq_some hc)]

theorem settleResults_idle (h : ∀ c ∈ s.reduction.collectives, c.lastWaiting = []) : settleResults s = s :=
  List.foldl_fixed' (settleCollective_idle h) _

/-- Where no release is due, a collective in flight is aborted. -/
theorem collectiveCancelRun_aborts (hramp : s.reduction.rampQueue = [])
    (hidle : ∀ c ∈ s.reduction.collectives, c.lastWaiting = [])
    (hfound : (findCollective (field p.body 0 8) s).isSome = true) :
    collectiveCancelRun p s = (abortCollective (field p.body 0 8) 1 0 0 s, ok []) := by
  have settled : settleResults (rampLoop s.reduction.rampQueue.length s) = s := by
    rw [hramp]
    exact settleResults_idle hidle
  simp only [collectiveCancelRun, settled, if_pos hfound]
end

theorem runs_of_completes {c : Instr} {p : Packet} {s t : State} {a : Ans} {after : State → State}
    (h : Completes c p s t a after) : Runs (exec c s) := ⟨_, h⟩

/-- Settles O18: each command answers by the checks that it passes; an admission passes them all, and a cancellation
with no release due finds its collective as it was. -/
theorem reductionCommands : Obligations.ReductionCommands := by
  refine ⟨?groupDefine, ?groupDelete, ?decisionOpen, ?decisionClose, ?reedDisable, ?reedEnable, ?engineDisable,
    ?engineEnable, ?collectiveOpen, ?collectiveStatus, ?collectiveCancel⟩
  case groupDefine =>
    intro p s h c b ms g
    refine ⟨fun r hbad => ?_, fun hsound hused => ?_, fun hsound hnew hroom => ?_⟩
    · exact refuses_of_run rfl rfl h (groupDefineRun_badMember hbad) rfl
    · exact refuses_of_run rfl rfl h ((groupDefineRun_sound hsound).trans (if_pos hused)) rfl
    · have unused : ¬∃ x ∈ b.reduction.groups, x.id = g.id := fun ⟨x, hx, hid⟩ => hnew x hx hid
      exact completes_of_run rfl rfl h ((groupDefineRun_sound hsound).trans
        ((if_neg unused).trans (if_neg (Nat.not_le.mpr hroom)))) rfl fun _ => rfl
  case groupDelete =>
    intro p s g h c b hg
    refine ⟨fun hnone => ?_, fun hsome => ?_⟩
    · exact completes_of_run rfl rfl h ((groupDeleteRun_found hg).trans (if_neg (by simpa using hnone))) rfl
        fun _ => rfl
    · exact refuses_of_run rfl rfl h ((groupDeleteRun_found hg).trans (if_pos (by simpa using hsome))) rfl
  case decisionOpen =>
    intro p s h c b hs rs d hsealed hnew
    exact completes_of_run rfl rfl h (decisionOpenRun_opens hsealed hnew) rfl fun _ => rfl
  case decisionClose =>
    intro p s d h c b hd
    refine ⟨fun hnone => ?_, fun hsome => ?_⟩
    · exact completes_of_run rfl rfl h ((decisionCloseRun_found hd).trans (if_neg (by simpa using hnone))) rfl
        fun _ => rfl
    · exact refuses_of_run rfl rfl h ((decisionCloseRun_found hd).trans (if_pos (by simpa using hsome))) rfl
  case reedDisable =>
    intro p s h
    exact completes_of_run rfl rfl h rfl rfl fun _ => rfl
  case reedEnable =>
    intro p s h
    exact completes_of_run rfl rfl h rfl rfl fun _ => rfl
  case engineDisable =>
    intro p s h
    exact completes_of_run rfl rfl h rfl rfl fun _ => rfl
  case engineEnable =>
    intro p s h
    exact completes_of_run rfl rfl h rfl rfl fun _ => rfl
  case collectiveOpen =>
    intro p s g h c b d ys hgroup hdecision hnew hlocked hpower hquiesced hledger hheavy hroom hys
    have htally : tallyForbids b = false := by simp only [tallyForbids, hlocked]
    have admits := admission_admits hnew htally hpower hquiesced hledger hheavy hroom rfl hys
    have completes := completes_of_run rfl rfl h (collectiveOpenRun_admits hgroup (.inl hdecision) admits) rfl
      fun _ => rfl
    exact ⟨runs_of_completes completes, completes⟩
  case collectiveStatus =>
    intro p s d h b hd
    have reads : Reads (.collectiveStatus p) p s _ :=
      completes_of_run rfl rfl h (collectiveStatusRun_known hd) rfl fun _ => rfl
    exact ⟨runs_of_completes reads, reads⟩
  case collectiveCancel =>
    intro p s h b hramp hidle hfound
    have completes := completes_of_run rfl rfl h (collectiveCancelRun_aborts hramp hidle hfound) rfl fun _ => rfl
    exact ⟨runs_of_completes completes, completes⟩

end Sys2Proof.Machine
end

section
/-! Regions of the Loft (Table 6.10, R351, R611-R617, R622, R626): what each command answers. -/

namespace Sys2Proof.Machine

/-! ### The sealed region that a digest names (R617) -/

/-- The lower of the lowest handle so far and a region's. -/
def lowerHandle (best : Option Nat) (r : Region) : Option Nat :=
  match best with
  | none => some r.handle
  | some h => some (min h r.handle)

/-- A handle that bounds all others is what the search ends with, once the search has met it. -/
theorem foldl_lowerHandle {h : Nat} {rs : List Region} {best : Option Nat} (hmem : best = some h ∨ ∃ r ∈ rs, r.handle = h)
    (hbest : ∀ b ∈ best, h ≤ b) (hle : ∀ r ∈ rs, h ≤ r.handle) : rs.foldl lowerHandle best = some h := by
  induction rs generalizing best with
  | nil => simpa using hmem
  | cons r rs ih =>
    have hr : h ≤ r.handle := hle r List.mem_cons_self
    refine ih ?met ?bound fun x hx => hle x (List.mem_cons_of_mem r hx)
    case met =>
      rcases hmem with rfl | ⟨x, hx, rfl⟩
      · exact .inl (congrArg some (Nat.min_eq_left hr))
      · rcases List.mem_cons.mp hx with rfl | hx
        · cases best with
          | none => exact .inl rfl
          | some b => exact .inl (congrArg some (Nat.min_eq_right (hbest b rfl)))
        · exact .inr ⟨x, hx, rfl⟩
    case bound =>
      cases best with
      | none => simpa [lowerHandle] using hr
      | some b => simpa [lowerHandle] using ⟨hbest b rfl, hr⟩

section
variable {p : Packet} {s : State} {r : Region}

/-- The sealed regions with a digest. -/
def sealedAs (d : Digest) (s : State) : List Region :=
  s.loft.regions.filter fun r => r.kind = .isSealed && r.digest = d

theorem mem_sealedAs {d : Digest} : r ∈ sealedAs d s ↔ r ∈ s.loft.regions ∧ r.kind = .isSealed ∧ r.digest = d := by
  simp [sealedAs]

theorem regionFindRun_eq (p : Packet) (s : State) : regionFindRun p s =
    match (sealedAs (digestOf (sub p.body 0 32)) s).foldl lowerHandle none with
    | none => (s, refuse stRange rNotFound 0)
    | some h => (s, ok (le 4 h ++ zs 4)) := rfl

/-- Among the sealed regions with the digest, the one with the lowest handle is found. -/
theorem regionFindRun_lowest (hr : r ∈ s.loft.regions) (hsealed : r.kind = .isSealed)
    (hdigest : r.digest = digestOf (sub p.body 0 32))
    (hle : ∀ x ∈ s.loft.regions, x.kind = .isSealed → x.digest = digestOf (sub p.body 0 32) → r.handle ≤ x.handle) :
    regionFindRun p s = (s, ok (le 4 r.handle ++ zs 4)) := by
  have lowest : (sealedAs (digestOf (sub p.body 0 32)) s).foldl lowerHandle none = some r.handle := by
    refine foldl_lowerHandle (.inr ⟨r, mem_sealedAs.mpr ⟨hr, hsealed, hdigest⟩, rfl⟩) (fun b hb => by cases hb)
      fun x hx => ?_
    obtain ⟨hx, hkind, hdigest⟩ := mem_sealedAs.mp hx
    exact hle x hx hkind hdigest
  rw [regionFindRun_eq, lowest]

/-! ### What the other commands answer -/

/-- The map once a WORKING region of `size` bytes at `a` has joined it, zero-filled (R611, R627). -/
def allocated (a size : Nat) (s : State) : State :=
  { clearRange a size s with loft := { (clearRange a size s).loft with
    regions := (clearRange a size s).loft.regions ++
      [{ handle := s.loft.nextHandle, kind := .working, base := a, size := size, digest := 0, poisonSeen := false
         resealing := false }]
    nextHandle := s.loft.nextHandle + 1 } }

theorem regionAllocRun_allocates {a : Nat} (hrail : loftRail s = true) (hready : s.power.loftReady = true)
    (hmap : s.loft.regions.length < 16384) (hhandles : s.loft.nextHandle < 2 ^ 32)
    (hfree : freeBase (field p.body 0 8) s = some a) :
    regionAllocRun p s = (allocated a (field p.body 0 8) s, ok (le 4 s.loft.nextHandle ++ zs 4 ++ le 8 a)) := by
  have space : ¬(16384 ≤ s.loft.regions.length ∨ 2 ^ 32 ≤ s.loft.nextHandle) :=
    not_or.mpr ⟨Nat.not_le.mpr hmap, Nat.not_le.mpr hhandles⟩
  simp only [regionAllocRun, hrail, hready, if_neg space, hfree]
  rfl

theorem regionInfoRun_found (h : findRegion (field p.body 0 4) s = some r) :
    regionInfoRun p s = (s, ok (regionEntry r s)) := by
  simp only [regionInfoRun, h]

/-- A seal of a region that exists: only a WORKING one that nothing refers to is taken up (R614, R616). -/
theorem regionSealRun_found (h : findRegion (field p.body 0 4) s = some r) :
    regionSealRun p s = if r.kind ≠ .working then (s, refuse stPrecond rNotWorking 0)
      else if refCount r.handle s ≠ 0 then (s, refuse stBusy rRefcount (sat 16 (refCount r.handle s)))
      else (startOp (.seal r.handle) p 0x58 { storeRegion { r with kind := .sealing } s with
        loft.seals := (storeRegion { r with kind := .sealing } s).loft.seals ++ [r.handle] }, .accept []) := by
  simp only [regionSealRun, h]

/-- A free of a region that exists: a seal in progress stops it, and so does a reference unless it is forced (R622). -/
theorem regionFreeRun_found (h : findRegion (field p.body 0 4) s = some r) :
    regionFreeRun p s =
      if r.kind = .sealing ∨ (¬field p.body 4 1 % 2 = 1 ∧ refCount r.handle s ≠ 0) then
        (s, refuse stBusy rRefcount (sat 16 (refCount r.handle s)))
      else (freeRegion r (decide (field p.body 4 1 % 2 = 1)) s, ok []) := by
  simp only [regionFreeRun, h, Bool.or_eq_true, Bool.and_eq_true, Bool.not_eq_true', decide_eq_true_eq,
    decide_eq_false_iff_not]
end

/-- Settles O23: each command answers by the checks that it passes, and the search by digest ends with the lowest
handle. -/
theorem regionCommands : Obligations.RegionCommands := by
  refine ⟨?alloc, ?info, ?list, ?find, ?sealing, ?free⟩
  case alloc =>
    intro p s a h c b size n hrail hready hmap hhandles hfree
    exact completes_of_run rfl rfl h (regionAllocRun_allocates hrail hready hmap hhandles hfree) rfl fun _ => rfl
  case info =>
    intro p s r h b hr
    exact completes_of_run rfl rfl h (regionInfoRun_found hr) rfl fun _ => rfl
  case list =>
    intro p s h
    exact completes_of_run rfl rfl h rfl rfl fun _ => rfl
  case find =>
    intro p s r h b d hr hsealed hdigest hle
    exact completes_of_run rfl rfl h (regionFindRun_lowest hr hsealed hdigest hle) rfl fun _ => rfl
  case sealing =>
    intro p s r h c b hr
    have seals := regionSealRun_found hr
    refine ⟨fun hkind => ?_, fun hkind href => ?_, fun hkind href => ?_⟩
    · exact refuses_of_run rfl rfl h (seals.trans (if_pos hkind)) rfl
    · exact refuses_of_run rfl rfl h (seals.trans ((if_neg (not_not.mpr hkind)).trans (if_pos href))) rfl
    · exact completes_of_run rfl rfl h
        (seals.trans ((if_neg (not_not.mpr hkind)).trans (if_neg (not_not.mpr href)))) rfl fun _ => rfl
  case free =>
    intro p s r h c b force hr
    have frees := regionFreeRun_found hr
    refine ⟨fun hheld => ?_, fun hkind hfree => ?_⟩
    · exact refuses_of_run rfl rfl h (frees.trans (if_pos hheld)) rfl
    · have unheld : ¬(r.kind = .sealing ∨ (¬force ∧ refCount r.handle b ≠ 0)) := by
        rintro (hk | ⟨hf, href⟩)
        · exact hkind hk
        · exact hfree.elim hf href
      exact completes_of_run rfl rfl h (frees.trans (if_neg unheld)) rfl fun _ => rfl

end Sys2Proof.Machine
end

section
/-! The width that a link takes (R388), the credits that it is granted (R456) and the ordered sets of a port
(Tables 7.7-7.9). -/

namespace Sys2Proof.Machine

/-! ### The width of a link (R388) -/

/-- The lanes of a set. -/
def laneCount (lanes : BitVec 4) : Nat := ((List.range 4).filter fun i => lanes.getLsbD i).length

/-- The sets of lanes that a link can run on: all four, one of the two halves, or one lane. -/
def laneSets : List (BitVec 4) := [15#4, 3#4, 12#4, 1#4, 2#4, 4#4, 8#4]

/-! There are sixteen sets of usable lanes, so that each property of the choice is checked on all of them. -/

theorem widthOf_count : ∀ usable : BitVec 4, (widthOf usable).1 = laneCount (widthOf usable).2 := by decide

theorem widthOf_usable : ∀ usable : BitVec 4, (widthOf usable).2 &&& usable = (widthOf usable).2 := by decide

theorem widthOf_mem_laneSets : ∀ usable : BitVec 4, usable ≠ 0 → (widthOf usable).2 ∈ laneSets := by decide

theorem widthOf_widest : ∀ usable : BitVec 4, ∀ lanes ∈ laneSets, lanes &&& usable = lanes →
    laneCount lanes ≤ (widthOf usable).1 := by decide

theorem widthOf_prefersLowHalf : ∀ usable : BitVec 4, (widthOf usable).1 = 2 → 3#4 &&& usable = 3#4 →
    (widthOf usable).2 = 3#4 := by decide

theorem widthOf_lowestLane : ∀ usable : BitVec 4, (widthOf usable).1 = 1 → ∀ lane ∈ [1#4, 2#4, 4#4, 8#4],
    lane &&& usable = lane → (widthOf usable).2.toNat ≤ lane.toNat := by decide

/-- Settles O7: a training that ends with usable lanes takes the width that `widthOf` chooses among them. -/
theorem widthIsWidest : Obligations.WidthIsWidest := by
  intro n own far fecL s t hlen htrain hstate hstep hne hexec
  have done := exec_linkTrainingDone own far fecL htrain hstate hstep
  have usable : offeredLanes n own s &&& far ≠ 0 := hne
  rw [if_neg usable] at done
  obtain rfl := Host.Outcome.next.inj (done.symm.trans hexec)
  rw [sendLstate, port_congr (emit_ports _ _), port_setPort_same hlen]
  exact ⟨widthOf_count _, widthOf_usable _, widthOf_mem_laneSets _ usable, widthOf_widest _, widthOf_prefersLowHalf _,
    widthOf_lowestLane _⟩

/-! ### Credits (R412, R456) -/

section
variable {n : Nat} {s : State}

/-- Credit values are kept in 16 bits. -/
theorem Credits.get_put (c : Credits) (cls v : Nat) : (c.put cls v).get cls = v % 65536 := by
  rcases cls with _ | _ | _ | _ | cls <;> exact BitVec.toNat_ofNat v 16

theorem Credits.get_lt (c : Credits) (cls : Nat) : c.get cls < 65536 := by
  rcases cls with _ | _ | _ | _ | cls <;> exact BitVec.isLt _

theorem takeGrant_within {cls g : Nat} (h : (g + 65536 - (port n s).usedOut.get cls) % 65536 ≤ 32767) :
    takeGrant n cls g s = setPort n (fun q => { q with grantIn := q.grantIn.put cls g }) s :=
  if_pos h

theorem takeGrant_excess {cls g : Nat} (h : 32767 < (g + 65536 - (port n s).usedOut.get cls) % 65536) :
    takeGrant n cls g s = count (cPort n 0x0F)
      (setPort n (fun q => { q with grantIn := q.grantIn.put cls ((port n s).usedOut.get cls + 32767) }) s) :=
  if_neg (Nat.not_le.mpr h)

/-- What a port's sender takes of a grant (R456): all of it, or 32,767 more than it has used. -/
theorem port_takeGrant (hlen : n < s.ports.length) (cls g : Nat) : port n (takeGrant n cls g s) = { port n s with
    grantIn := (port n s).grantIn.put cls (if (g + 65536 - (port n s).usedOut.get cls) % 65536 ≤ 32767 then g
      else (port n s).usedOut.get cls + 32767) } := by
  simp only [takeGrant]
  split
  · rw [port_setPort_same hlen]
  · rw [port_congr (count_ports _ _), port_setPort_same hlen]

/-- A grant of 32,767 more than is used leaves just as many outstanding, whether or not the sum wraps (R412). -/
theorem outstanding_cut {used : Nat} (h : used < 65536) :
    ((used + 32767) % 65536 + 65536 - used) % 65536 = 32767 := by
  omega
end

/-- Settles O9: a grant within the limit is taken as it is, and any other is cut to the limit and counted. -/
theorem grantNeverExceedsLimit : Obligations.GrantNeverExceedsLimit := by
  intro n cls g s hlen _ hg t
  rw [port_takeGrant hlen cls g]
  simp only [Credits.get_put]
  rcases le_or_gt ((g + 65536 - (port n s).usedOut.get cls) % 65536) 32767 with hle | hgt
  · rw [if_pos hle, Nat.mod_eq_of_lt hg]
    have counters_eq : t.counters = s.counters := (congrArg State.counters (takeGrant_within hle)).trans rfl
    exact ⟨hle, trivial, fun _ => ⟨rfl, counters_eq⟩, fun hgt => absurd hle (not_le.mpr hgt)⟩
  · rw [if_neg (not_le.mpr hgt), outstanding_cut (Credits.get_lt _ cls)]
    have counted : counter (cPort n 0x0F) t = (counter (cPort n 0x0F) s + 1) % 2 ^ 64 :=
      (congrArg (counter _) (takeGrant_excess hgt)).trans (counter_countBy_same (cPort n 0x0F) 1 _)
    exact ⟨le_refl _, trivial, fun hle => absurd hle (not_le.mpr hgt), fun _ => ⟨rfl, counted⟩⟩

/-! ### Ordered sets (Tables 7.7-7.9) -/

section
variable {n : Nat} {s : State}

theorem exec_identitySend (hlive : waferLive s = true)
    (h : (port n s).state = .identity ∧ rackIdValid s = true ∨ (port n s).state = .waiting ∨ (port n s).state = .up) :
    exec (.identitySend n) s = .next (emit (.identity n (ownIdentity n s)) s) :=
  (if_pos (by simpa [hlive, or_assoc] using h) : execIdentitySend n s = _)

theorem exec_lstateRefresh (hlive : waferLive s = true) (htrained : trained n s = true) :
    exec (.lstateRefresh n) s =
      .next (sendLstate n (lstateRequest (port n s)).1 (lstateRequest (port n s)).2 s) := by
  simp [exec, execLstateRefresh, hlive, htrained]

theorem exec_creditRefresh (hlive : waferLive s = true) (hup : (port n s).state = .up) :
    exec (.creditRefresh n) s = .next (sendCredit n s) := by
  simp [exec, execCreditRefresh, hlive, hup]

/-- The far end's report is noted; its requests are acted on while the port is UP (R440). -/
theorem exec_lstateBlock {b : LstateBlock} (hlive : waferLive s = true) (htrained : trained n s = true) {t : State}
    (ht : setPort n (fun q => { q with
      farFecL := b.fecOffer.getLsbD 1, farBer := b.ber, farSelectBad := decide (2 ≤ b.fecSelect.toNat)
      freezeIdle := false }) s = t) :
    exec (.lstateBlock n b) s = .next (if (port n t).state ≠ .up then t
      else if b.request = 1 then adaptDrain n (sendLstate n 2 0 t)
      else if b.request = 2 ∧ (port n t).adapt = .asked then adaptDrain n t else t) := by
  subst ht
  simp only [exec, execLstateBlock, hlive, htrained, apply_ite (Host.Outcome.next (φ := Fault) (ρ := Refusal)),
    Bool.and_eq_true, decide_eq_true_eq]
  rfl

theorem exec_creditBlock (b : CreditBlock) (hlive : waferLive s = true)
    (h : (port n s).state = .up ∨ (port n s).state = .draining) : exec (.creditBlock n b) s =
      .next (takeGrant n 7 b.c7.toNat (takeGrant n 3 b.c3.toNat (takeGrant n 2 b.c2.toNat
        (takeGrant n 1 b.c1.toNat (takeGrant n 0 b.c0.toNat (setPort n
          (fun q => { q with holdIn := b.hold.truncate 5, freezeIdle := false }) s)))))) := by
  rcases h with h | h <;> exact if_neg (by simp [hlive, h])

theorem exec_adaptAckTimeout (hlive : waferLive s = true) (hasked : (port n s).adapt = .asked) :
    exec (.adaptAckTimeout n) s = .next (adaptFailed n s) := by
  simp [exec, execAdaptAckTimeout, hlive, hasked]
end

/-- Settles O8: each refresh sends the port's own set, and each arriving set is taken by the state and the request that
it meets. -/
theorem orderedSetsOfPorts : Obligations.OrderedSetsOfPorts := by
  refine ⟨fun n s => exec_identitySend, ?lstateRefresh, fun n s => exec_creditRefresh, ?lstateBlock,
    fun n b s => exec_creditBlock b, fun n s => exec_adaptAckTimeout⟩
  case lstateRefresh =>
    intro n s hlive htrained q
    have sent := exec_lstateRefresh hlive htrained
    refine ⟨fun hasked => ?_, fun hasked hstate hstep => ?_, fun hasked hstep => ?_⟩
    · have request : lstateRequest (port n s) = (1, 0) := if_pos hasked
      rw [sent, request, sendLstate]
    · have request : lstateRequest (port n s) = (3, q.switchRound.toNat) :=
        (if_neg hasked).trans (if_pos (by simp [q, hstate, hstep]))
      rw [sent, request, sendLstate]
    · have request : lstateRequest (port n s) = (0, 0) := (if_neg hasked).trans (if_neg (by simpa using hstep))
      rw [sent, request, sendLstate]
  case lstateBlock =>
    intro n b s hlive htrained t
    have taken := exec_lstateBlock hlive htrained (rfl : _ = t)
    have state_eq : (port n t).state = (port n s).state :=
      port_setPort_state (f := fun q => { q with
        farFecL := b.fecOffer.getLsbD 1, farBer := b.ber, farSelectBad := decide (2 ≤ b.fecSelect.toNat)
        freezeIdle := false }) (fun _ => rfl) n n s
    rw [state_eq] at taken
    refine ⟨fun hne => taken.trans (by rw [if_pos hne]), fun hup hreq _ => ?_, fun hup hreq hasked hlen => ?_⟩
    · rw [taken, if_neg (not_not.mpr hup), if_pos hreq]
    · have adapt_eq : (port n t).adapt = .asked := by rw [port_setPort_same hlen, hasked]
      rw [taken, if_neg (not_not.mpr hup), if_neg (by simp [hreq]), if_pos ⟨hreq, adapt_eq⟩]

end Sys2Proof.Machine
end

section
/-! The commands of Table 6.7 (R440, R491, R519, R520): what each of them does once it is accepted. -/

namespace Sys2Proof.Machine

section
variable {p : Packet} {s : State}

/-- The cage that an OPTIC_READ names: cartridges 16-19 carry ports 128-159, eight each (R75). -/
def opticCage (p : Packet) : Nat := 128 + 8 * (p.inst.toNat - 16) + field p.body 0 1

theorem opticReadRun_ready (h : (port (opticCage p) s).moduleReady = true) :
    opticReadRun p s = (bumpFree s, ok ((List.range (field p.body 4 1)).map fun i => Config.moduleByte s.freeCount
      ((opticCage p * 256 + field p.body 2 1) * 256 + field p.body 3 1 + i))) := by
  rw [opticCage] at h ⊢
  simp [opticReadRun, h]

theorem opticReadRun_noModule (h : (port (opticCage p) s).moduleReady = false) :
    opticReadRun p s = (s, refuse stPrecond rNoModule 0) := by
  rw [opticCage] at h
  simp [opticReadRun, h]

/-- A plan without a fault is loaded and recorded, and every port is rechecked unless the plan policy is LEARN
(R110). -/
def planLoad (p : Packet) (s : State) : State :=
  let s := { s with plan := planEntries p.body, planLoaded := true }
  let s := journalWafer (paramBody 2 160 p.originator.toNat (tallyNat s) (planDigest s) s) s
  if param pPlanPolicy s = 1 then s else forEach (List.range 160) recheckPort s

theorem cablePlanLoadRun_loads (hfault : planFault (planEntries p.body) s = none)
    (hmode : ¬(param pPlanPolicy s = 1 ∧ s.mode = .ledger)) :
    cablePlanLoadRun p s = (planLoad p s, ok (digestBytes (planDigest (planLoad p s)))) := by
  have permitted : ¬(decide (param pPlanPolicy s = 1) && isLedger s) = true := by
    simpa [isLedger] using hmode
  simp only [cablePlanLoadRun, hfault]
  exact if_neg permitted

theorem portAdaptRun_up (h : (port p.inst.toNat s).state = .up) :
    portAdaptRun p s = (startOp (.portAdapt p.inst.toNat) p 0x23 s, .accept []) := if_pos h

theorem portAdaptRun_notUp (h : (port p.inst.toNat s).state ≠ .up) :
    portAdaptRun p s = (s, refuse stPrecond rNoPartner 0) := if_neg h

/-- A port that nothing holds is forgotten and left DOWN, where it waits for signal (R520). -/
theorem portUpAfter_starts (hstate : (port p.inst.toNat s).state = .disabled ∨ (port p.inst.toNat s).state = .down)
    (hhold : portHold p.inst.toNat s = none) :
    portUpAfter p s = portTo p.inst.toNat .down 0 (setPort p.inst.toNat Port.untrained s) := by
  rcases hstate with h | h <;> simp [portUpAfter, h, hhold]

theorem portAdaptAfter_asks (h : (port p.inst.toNat s).adapt = .none) :
    portAdaptAfter p s =
      sendLstate p.inst.toNat 1 0 (setPort p.inst.toNat (fun q => { q with adapt := .asked }) s) := if_pos h
end

/-- Settles O5: each command answers by the checks that it passes, and a port operation's effect follows its reply. -/
theorem portCommands : Obligations.PortCommands := by
  refine ⟨?portStatus, ?cablePlanRead, ?opticRead, ?cablePlanLoad, ?portUp, ?portDown, ?portAdapt,
    fun p s => portUpAfter_starts, fun p s _ => portAdaptAfter_asks⟩
  case portStatus =>
    intro p s h
    exact completes_of_run rfl rfl h rfl rfl fun _ => rfl
  case cablePlanRead =>
    intro p s h
    exact completes_of_run rfl rfl h rfl rfl fun _ => rfl
  case opticRead =>
    intro p s h c b cage off len
    exact ⟨fun hready => completes_of_run rfl rfl h (opticReadRun_ready hready) rfl fun _ => rfl,
      fun hempty => refuses_of_run rfl rfl h (opticReadRun_noModule hempty) rfl⟩
  case cablePlanLoad =>
    intro p s h c b es hfault hmode
    exact completes_of_run rfl rfl h (cablePlanLoadRun_loads hfault hmode) rfl fun _ => rfl
  case portUp =>
    intro p s h
    exact completes_of_run rfl rfl h rfl rfl fun _ => rfl
  case portDown =>
    intro p s h
    exact completes_of_run rfl rfl h rfl rfl fun _ => rfl
  case portAdapt =>
    intro p s h b
    exact ⟨fun hup => completes_of_run rfl rfl h (portAdaptRun_up hup) rfl fun _ => rfl,
      fun hdown => refuses_of_run rfl rfl h (portAdaptRun_notUp hdown) rfl⟩

end Sys2Proof.Machine
end

section
/-! What loses a link, how optical modules come and go (R397-R399, R437, R139, R444-R448), and the cases of a port's
receiver (Table 7.8a). -/

namespace Sys2Proof.Machine

section
variable {n : Nat} {s : State}

/-! ### What loses a link (R397-R399, R437, R139) -/

section
variable (hlive : waferLive s = true) (htrained : trained n s = true)
include hlive htrained

/-- Each round sends its ALIGN blocks; a bad one is passed over while FREEZE_IDLE is received, and the second in a row
loses the link (R397). -/
theorem exec_alignRound (good : Bool) : exec (.alignRound n good) s = .next (
    if good = true then setPort n (fun q => { q with badAligns := 0, freezeIdle := false }) (sendAlign n s)
    else if (port n s).freezeIdle = true then sendAlign n s
    else if 1 ≤ (port n s).badAligns then linkLost n 0 (sendAlign n s)
    else setPort n (fun q => { q with badAligns := 1 }) (sendAlign n s)) := by
  simp only [exec, execAlignRound, hlive, htrained, apply_ite (Host.Outcome.next (φ := Fault) (ρ := Refusal))]
  rfl

theorem exec_laneSignalLoss {lane : Nat} (hlane : (port n s).lanes.getLsbD lane = true) :
    exec (.laneSignalLoss n lane) s = .next (linkLost n 0 (markLost n lane s)) := by
  simp [exec, execLaneSignalLoss, hlive, htrained, hlane]

theorem exec_fecLBerWindow {ber : U32} (hfec : (port n s).fecL = true) (hber : 1000000 < ber.toNat) :
    exec (.fecLBerWindow n ber) s = .next (linkLost n 0 (setPort n (fun q => { q with fecSOnly := true }) s)) := by
  simp [exec, execFecLBerWindow, hlive, htrained, hfec, hber]

theorem exec_crossingQueueOverrun :
    exec (.crossingQueueOverrun n) s = .next (linkLost n rClockFault (count (cPort n 0x11) s)) := by
  simp [exec, execCrossingQueueOverrun, hlive, htrained]

/-- Every frame that an uncorrectable codeword may have touched is discarded; the fourth in a row on a lane loses the
link (R398). -/
theorem exec_fecUncorrectable {x : LaneFault} (hlane : (port n s).lanes.getLsbD x.lane = true) {t : State}
    (ht : errorClass 5 (count (cPort n 0x0C) (discardParked n (discardOpen n s))) = t) :
    exec (.fecUncorrectable n x) s = .next (if 4 ≤ x.consecutive then linkLost n 0 t else t) := by
  subst ht
  simp only [exec, execFecUncorrectable, hlive, htrained, hlane,
    apply_ite (Host.Outcome.next (φ := Fault) (ρ := Refusal))]
  rfl
end

/-! ### Optical modules (R444-R448) -/

theorem exec_moduleReady (q o : Bool) (hoptical : 128 ≤ n) (hfit : portFitted n s = true)
    (hrail : opticalRail s = true) : exec (.moduleReady n q o) s =
      .next (tryTrain n (refreshHold n (setPort n (fun x => { x with
        moduleReady := true, moduleQualified := q, moduleOffers := o }) (selectApplication n o s)))) :=
  (if_neg (by simp [Nat.not_lt.mpr hoptical, hfit, hrail]) : execModuleReady n q o s = _)

theorem exec_moduleRemoval (hoptical : 128 ≤ n) (hfit : portFitted n s = true) {t : State}
    (ht : setPort n (fun x => { x with
      moduleReady := false, moduleQualified := false, moduleOffers := false }) s = t) :
    exec (.moduleRemoval n) s = .next (refreshHold n (if waferLive t && trained n t then linkLost n 0 t
      else if (port n t).state = .training then trainingFailed n t else t)) := by
  subst ht
  exact (if_neg (by simp [Nat.not_lt.mpr hoptical, hfit]) : execModuleRemoval n s = _)
end

/-- Settles O10: each event is its own equation, split by what it finds on the port. -/
theorem linksAreLost : Obligations.LinksAreLost := by
  refine ⟨?alignRound, fun n lane s hlive htrained => exec_laneSignalLoss hlive htrained,
    fun n ber s hlive htrained => exec_fecLBerWindow hlive htrained,
    fun n s => exec_crossingQueueOverrun, ?fecUncorrectable,
    fun n q o s => exec_moduleReady q o, fun n s hoptical hfit => exec_moduleRemoval hoptical hfit rfl⟩
  case alignRound =>
    intro n good s hlive htrained t
    have round := exec_alignRound hlive htrained good
    refine ⟨fun hgood => ?_, fun hbad hidle => ?_, fun hbad hlisten hfirst => ?_, fun hbad hlisten hsecond => ?_⟩
    · rw [round, if_pos hgood]
    · rw [round, if_neg (ne_true_of_eq_false hbad), if_pos hidle]
    · rw [round, if_neg (ne_true_of_eq_false hbad), if_neg (ne_true_of_eq_false hlisten), if_neg (by omega)]
    · rw [round, if_neg (ne_true_of_eq_false hbad), if_neg (ne_true_of_eq_false hlisten), if_pos hsecond]
  case fecUncorrectable =>
    intro n x s hlive htrained hlane t
    have discarded := exec_fecUncorrectable hlive htrained hlane (rfl : _ = t)
    exact ⟨fun hfour => discarded.trans (congrArg _ (if_pos hfour)),
      fun hfewer => discarded.trans (congrArg _ (if_neg (Nat.not_le.mpr hfewer)))⟩

/-! ### The receiver's cases (Table 7.8a, R419-R421, R453) -/

section
variable {n : Nat} {s : State}

section
variable (hreceives : receives n s = true)
include hreceives

/-- An express SOF parks the frame that it meets where R419 lets it, and otherwise ends it. -/
theorem exec_expressPreemptSof (f : OpenFrame) (hparked : (port n s).parked = none)
    (hclass : ∀ o, (port n s).openRx = some o → o.cls ≠ 7) : exec (.expressPreemptSof n f) s = .next (
      if 4 ≤ (preempted n f s).1.blocksSeen ∧ 2 ≤ (preempted n f s).1.payloadLeft then
        count (cPort n 0x19) (setPort n (fun q => { q with
          openRx := none, parked := some (preempted n f s).1 }) (preempted n f s).2)
      else errorClass 4 (count (cPort n 7) (discardOpen n (setPort n (fun q => { q with
        openRx := some (preempted n f s).1 }) (preempted n f s).2)))) := by
  have preemptable : (port n s).openRx.any (fun o => decide (o.cls = 7)) = false :=
    (Option.any_eq_false _ _).mpr fun o ho => decide_eq_false (hclass o ho)
  simp only [exec, execExpressPreemptSof, hreceives, hparked, preemptable, Bool.and_eq_true, decide_eq_true_eq,
    apply_ite (Host.Outcome.next (φ := Fault) (ρ := Refusal))]
  rfl

/-- A CONT block resumes the parked frame by its count and class, and any other ends it (R420). -/
theorem exec_contBlock {k : BitVec 2} {cls : Byte} {o : OpenFrame} (hopen : (port n s).openRx = none)
    (hparked : (port n s).parked = some o) : exec (.contBlock n k cls) s = .next (
      if k.toNat = (o.fragment + 1) % 4 ∧ cls.toNat = o.cls then
        setPort n (fun q => { q with parked := none, openRx := some { o with fragment := k.toNat } }) s
      else errorClass 4 (count (cPort n 6) (discardParked n s))) := by
  simp only [exec, execContBlock, hreceives, hopen, hparked, Bool.and_eq_true, decide_eq_true_eq,
    apply_ite (Host.Outcome.next (φ := Fault) (ρ := Refusal))]
  rfl

theorem exec_frameRxTimeout {t : State} (ht : count (cPort n 0x10) s = t) : exec (.frameRxTimeout n) s =
    .next (if (port n t).openRx.isSome then discardOpen n t else discardParked n t) := by
  subst ht
  simp only [exec, execFrameRxTimeout, hreceives, apply_ite (Host.Outcome.next (φ := Fault) (ρ := Refusal))]
  rfl
end

section
variable (hlive : waferLive s = true) (htrained : trained n s = true)
include hlive htrained

theorem exec_freezeIdleRx : exec (.freezeIdleRx n) s =
    .next (countBy (cPort n 0x16) (bit (port n s).openRx.isSome + bit (port n s).parked.isSome)
      (setPort n (fun q => { q with freezeIdle := true, discarding := false })
        (discardParked n (discardOpen n s)))) := by
  simp [exec, execFreezeIdleRx, hlive, htrained]

theorem exec_reservedBlock {code : Byte} (hcode : knownBlock code.toNat = false) {t : State}
    (ht : setPort n (fun q => { q with freezeIdle := false }) (count (cPort n 0x0F) s) = t) :
    exec (.reservedBlock n code) s =
      .next (if (port n t).openRx.isSome then discardOpen n (count (cPort n 0x14) t) else t) := by
  subst ht
  simp only [exec, execReservedBlock, hlive, htrained, hcode,
    apply_ite (Host.Outcome.next (φ := Fault) (ρ := Refusal))]
  rfl

/-- A block with no frame open ends a parked frame; else an IDLE block ends a discard, a receiver in discard absorbs up
to the EOF, and the block is stray (R424). -/
theorem exec_strayBlock (kind : StrayKind) (hopen : (port n s).openRx = none) : exec (.strayBlock n kind) s = .next (
    if (port n s).parked.isSome = true then
      setPort n (fun q => { q with discarding := decide (kind = .data ∨ kind = .cont) })
        (errorClass 4 (count (cPort n 6) (discardParked n s)))
    else if kind = .idle then setPort n (fun q => { q with discarding := false }) s
    else if (port n s).discarding = true then setPort n (fun q => { q with discarding := decide (kind ≠ .eof) }) s
    else count (cPort n 0x17) s) := by
  simp only [exec, execStrayBlock, hlive, htrained, hopen, apply_ite (Host.Outcome.next (φ := Fault) (ρ := Refusal))]
  rfl
end
end

/-- Settles O11: each case of Table 7.8a is the equation of its event, split by what the receiver has open or parked. -/
theorem receiverCases : Obligations.ReceiverCases := by
  refine ⟨?preempt, ?cont, fun n s hreceives => exec_frameRxTimeout hreceives rfl, fun n s => exec_freezeIdleRx,
    fun n code s hlive htrained hcode => exec_reservedBlock hlive htrained hcode rfl, ?stray⟩
  case preempt =>
    intro n f s hreceives hparked hclass o t
    have met := exec_expressPreemptSof hreceives f hparked hclass
    refine ⟨fun hseen hleft => met.trans (congrArg _ (if_pos ⟨hseen, hleft⟩)), fun hshort => ?_⟩
    have ends : ¬(4 ≤ o.blocksSeen ∧ 2 ≤ o.payloadLeft) := by omega
    exact met.trans (congrArg _ (if_neg ends))
  case cont =>
    intro n k cls o s hreceives hopen hparked
    have met := exec_contBlock (k := k) (cls := cls) hreceives hopen hparked
    exact ⟨fun hcount hclass => met.trans (congrArg _ (if_pos ⟨hcount, hclass⟩)),
      fun hother => met.trans (congrArg _ (if_neg hother))⟩
  case stray =>
    intro n kind s hlive htrained hopen
    have met := exec_strayBlock hlive htrained kind hopen
    have unparked : (port n s).parked = none → ¬(port n s).parked.isSome = true := fun h => by simp [h]
    refine ⟨fun hparked => ?_, fun hnone hidle => ?_, fun hnone hkind hoff => ?_, fun hnone hkind hon => ?_⟩
    · rw [met, if_pos hparked]
    · rw [met, if_neg (unparked hnone), if_pos hidle]
    · rw [met, if_neg (unparked hnone), if_neg hkind, if_neg (ne_true_of_eq_false hoff)]
    · rw [met, if_neg (unparked hnone), if_neg hkind, if_pos hon]

end Sys2Proof.Machine
end

section
/-! Arriving frames (R404-R407, R413, R414, R417, R424, R462-R464, R473): what opens on a port, what its end leads to,
and where a DATA frame goes. -/

namespace Sys2Proof.Machine

section
variable {n : Nat} {f : RxFrame} {s : State}

/-! ### The events -/

/-- A frame that begins meets what the port has open, and the rest of one meets the frame itself (Table 7.8a). -/
theorem frameIn_live (h : waferLive s = true) : frameIn n f s =
    if f.rest then frameRest n f s
    else frameStart n f (if (port n s).state = .up ∨ (port n s).state = .draining
      then newSof n (f.header.cls.toNat % 8) s else s) := by
  simp [frameIn, h]

/-! ### The rest of a frame (R424) -/

theorem frameRest_open {o : OpenFrame} (h : (port n s).openRx = some o) :
    frameRest n f s = frameEnd n f o (setPort n (fun q => { q with openRx := none }) s) := by
  simp only [frameRest, h]

theorem frameRest_noneOpen (h : (port n s).openRx = none) : frameRest n f s =
    if (port n s).discarding = true then setPort n (fun q => { q with discarding := false }) s
    else count (cPort n 0x17) s := by
  simp only [frameRest, h]

/-! ### The header of a frame (R404, R406, R407, R417) -/

/-- A frame that has come whole leaves nothing to absorb. -/
theorem absorb_whole (h : f.eof ≠ .pending) (t : State) :
    setPort n (fun q => { q with discarding := q.discarding || decide (f.eof = .pending) }) t =
      setPort n (fun q => { q with discarding := q.discarding || false }) t := by
  rw [decide_eq_false h]

section
variable (h : f.eof ≠ .pending)
include h

theorem frameStart_header (hc : headerCheck n f s = .header) : frameStart n f s =
    setPort n (fun q => { q with discarding := q.discarding || false }) (count (cPort n 0x13) s) := by
  simp only [frameStart, hc, absorb_whole h]

theorem frameStart_framing (hc : headerCheck n f s = .framing) : frameStart n f s =
    setPort n (fun q => { q with discarding := q.discarding || false })
      (discardFrame n 0x14 (f.header.cls.toNat % 8) (creditsOf f.header.length.toNat) (admitFrame n f s)) := by
  simp only [frameStart, hc, absorb_whole h]

theorem frameStart_type (hc : headerCheck n f s = .type) : frameStart n f s =
    setPort n (fun q => { q with discarding := q.discarding || false })
      (discardFrame n 0x0E (f.header.cls.toNat % 8) (creditsOf f.header.length.toNat) (admitFrame n f s)) := by
  simp only [frameStart, hc, absorb_whole h]

theorem frameStart_credit (hc : headerCheck n f s = .credit) : frameStart n f s =
    errorClass 3 (setPort n (fun q => { q with discarding := q.discarding || false })
      (discardFrame n 0x0D (f.header.cls.toNat % 8) (creditsOf f.header.length.toNat) (admitFrame n f s))) := by
  simp only [frameStart, hc, absorb_whole h]
end

theorem frameStart_notUp (hc : headerCheck n f s = .notUp) : frameStart n f s = count (cPort n 0x17) s := by
  simp only [frameStart, hc]

/-- The queued form of a frame on the slate that serves its input. -/
def queuedForm (n : Nat) (f : RxFrame) (s : State) : QFrame :=
  dataQFrame n ((servingSite n s).getD 0) f.header f.payload

theorem openOf_cutTo (n : Nat) (f : RxFrame) (s : State) : (openOf n f s).cutTo =
    if goesCut n (queuedForm n f s) (lossyRoom n (queuedForm n f s) s) then some (queuedForm n f s).output else none :=
  rfl

/-- An open frame that has an output to leave by is one that goes cut-through (R475). -/
theorem openOf_startsCut (n : Nat) (f : RxFrame) (s : State) :
    (if (openOf n f s).cutTo.isSome then startCut (queuedForm n f s) (lossyRoom n (queuedForm n f s) s) else s) =
      if goesCut n (queuedForm n f s) (lossyRoom n (queuedForm n f s) s)
        then startCut (queuedForm n f s) (lossyRoom n (queuedForm n f s) s) else s := by
  rw [openOf_cutTo]
  cases goesCut n (queuedForm n f s) (lossyRoom n (queuedForm n f s) s) <;> rfl

/-- A frame whose header passes uses its credits, starts to leave where it goes cut-through, and stays open until its
end has come. -/
theorem frameStart_good (hc : headerCheck n f s = .good) {t : State}
    (ht : useCredits n (f.header.cls.toNat % 8) (creditsOf f.header.length.toNat) s = t) {u : State}
    (hu : (if goesCut n (queuedForm n f t) (lossyRoom n (queuedForm n f t) t)
      then startCut (queuedForm n f t) (lossyRoom n (queuedForm n f t) t) else t) = u) :
    frameStart n f s = if f.eof = .pending then setPort n (fun q => { q with openRx := some (openOf n f t) }) u
      else frameEnd n f (openOf n f t) u := by
  subst hu
  rw [← openOf_startsCut]
  subst ht
  simp only [frameStart, hc]
  rfl

/-! ### The end of a frame (R405, R406, R425) -/

/-- What becomes of a frame whose end fails a check: it is counted, and dropped where it stands. -/
theorem frameEnd_stomp (o : OpenFrame) (hc : endCheck f = .stomp) : frameEnd n f o s =
    dropOpen n { o with frame := none } (count (cPort n 9) (admitFrame n f s)) := by
  simp only [frameEnd, hc]

theorem frameEnd_crc (o : OpenFrame) (hc : endCheck f = .crc) : frameEnd n f o s =
    dropOpen n { o with frame := none } (count (cPort n (if o.cls = 7 then 8 else 5)) (admitFrame n f s)) := by
  simp only [frameEnd, hc]

theorem frameEnd_framing (o : OpenFrame) (hc : endCheck f = .framing) : frameEnd n f o s =
    dropOpen n { o with frame := none } (count (cPort n 0x14) (admitFrame n f s)) := by
  simp only [frameEnd, hc]

theorem frameEnd_dispatch {o : OpenFrame} (hc : endCheck f = .good) (ho : o.cutTo = none) :
    frameEnd n f o s = dispatch n f (admitFrame n f s) := by
  simp only [frameEnd, hc, ho]

theorem frameEnd_cut {o : OpenFrame} {out : Nat} (hc : endCheck f = .good) (ho : o.cutTo = some out) :
    frameEnd n f o s = completeSend out (queuedForm n f (admitFrame n f s)) (admitFrame n f s) := by
  simp only [frameEnd, hc, ho]
  rfl

end

/-! ### Credits of a discarded frame (R413, R414) -/

section
variable {n c k : Nat} {s : State}

/-- A port that is UP and not re-homing grants a freed buffer again (R414). -/
theorem port_returnCredits (hlen : n < s.ports.length) (hn : n < 160) (hc : credited c = true)
    (hup : (port n s).state = .up) (hhome : rehoming n s = false) :
    port n (returnCredits n c k s) = (port n s).grantBack c k := by
  rw [returnCredits, if_pos (by simp [hn, hc, hup, hhome]), port_setPort_same hlen]

/-- Without buffers of an earlier link, all that is freed is granted. -/
theorem grantBack_fresh {q : Port} (h : q.stale.get c = 0) (k : Nat) :
    (q.grantBack c k).grantOut = q.grantOut.add c k ∧ (q.grantBack c k).usedIn = q.usedIn := by
  simp [Port.grantBack, h]

/-- A port whose sender has used credits of a class (R413). -/
def Port.spend (c k : Nat) (q : Port) : Port := { q with usedIn := q.usedIn.add c k }

theorem useCredits_credited (hc : credited c = true) : useCredits n c k s = setPort n (Port.spend c k) s := if_pos hc

/-- The credits of a discarded frame are used and at once returned. -/
theorem port_discardFrame (code : Nat) (hlen : n < s.ports.length) (hn : n < 160) (hc : credited c = true)
    (hup : (port n s).state = .up) (hhome : rehoming n s = false) :
    port n (discardFrame n code c k s) = ((port n s).spend c k).grantBack c k := by
  have port_used : port n (setPort n (Port.spend c k) (count (cPort n code) s)) = (port n s).spend c k :=
    port_setPort_same (s := count (cPort n code) s) hlen _
  have home : rehoming n (setPort n (Port.spend c k) (count (cPort n code) s)) = false := hhome
  have up : (port n (setPort n (Port.spend c k) (count (cPort n code) s))).state = .up := by rw [port_used]; exact hup
  rw [discardFrame, useCredits_credited hc, port_returnCredits (by rwa [setPort_length]) hn hc up home, port_used]

/-- What a sender may still send is the same after as many credits have been granted as it used. -/
theorem outstanding_shift {granted used : Nat} (hg : granted < 65536) (hu : used < 65536) (k : Nat) :
    ((granted + k) % 65536 + 65536 - (used + k) % 65536) % 65536 = (granted + 65536 - used) % 65536 := by
  omega
end

/-! ### DATA frames (R462-R464, R473) -/

section
variable {n : Nat} {h : FrameHeader} {payload : List Byte} {s : State} {f : QFrame}

/-- Room is made for lossy frames alone (R472). -/
theorem lossyRoom_lossless (hcls : f.cls < 4 ∨ f.cls = 7) : lossyRoom n f s = s := by
  have lossless : ¬(4 ≤ f.cls ∧ f.cls ≤ 6) := by omega
  simp [lossyRoom, lossless]

variable (hf : dataQFrame n ((servingSite n s).getD 0) h payload = f)
include hf

theorem dataIn_noTraffic (hup : (port f.output s).state ≠ .up) (hdrain : (port f.output s).state ≠ .draining) :
    dataIn n h payload s = discardArrival f.site n f.output f.cls (port f.output s).cause.toNat h.srcEndpoint.toNat
      h.tag.toNat f.shingles s := by
  subst hf
  exact if_pos ⟨hup, hdrain⟩

/-- Towards an output that carries traffic, a frame is queued unless it is lossy and above a limit. -/
theorem dataIn_traffic (hout : (port f.output s).state = .up ∨ (port f.output s).state = .draining) :
    dataIn n h payload s = if (4 ≤ f.cls ∧ f.cls ≤ 6) ∧ dropsTail n f (lossyRoom n f s) = true
      then tailDrop f.site n f.output f.cls (lossyRoom n f s)
      else enqueue f (count (cSlate f.site 0x0D) (count (cSlate f.site 1) (lossyRoom n f s))) := by
  subst hf
  refine (if_neg (by tauto)).trans ?_
  simp only [Bool.and_eq_true, decide_eq_true_eq]
end

/-- Settles O13: the header's check, the end's check and the output's state each decide on a branch of their own. -/
theorem framesScreenedAndQueued : Obligations.FramesScreenedAndQueued := by
  refine ⟨?events, ?rest, ?whole, ?partly, ?ends, ?credits, ?data⟩
  case events =>
    intro n f s hlive t u
    have arrives : frameIn n f s = u := frameIn_live hlive
    rw [← arrives]
    exact ⟨rfl, rfl, rfl, rfl, rfl⟩
  case rest =>
    intro n f s
    refine ⟨fun o => frameRest_open, fun hnone hon => ?_, fun hnone hoff => ?_⟩
    · rw [frameRest_noneOpen hnone, if_pos hon]
    · rw [frameRest_noneOpen hnone, if_neg (ne_true_of_eq_false hoff)]
  case whole =>
    intro n f s hwhole c k absorb
    refine ⟨frameStart_notUp, frameStart_header hwhole, frameStart_framing hwhole, frameStart_type hwhole,
      frameStart_credit hwhole, fun hgood => ⟨fun hstored => ?_, fun hcut => ?_⟩⟩
    · exact (frameStart_good hgood rfl (if_neg (ne_true_of_eq_false hstored))).trans (if_neg hwhole)
    · exact (frameStart_good hgood rfl (if_pos hcut)).trans (if_neg hwhole)
  case partly =>
    intro n f s hpending hgood
    exact (frameStart_good hgood rfl rfl).trans (if_pos hpending)
  case ends =>
    intro n f o s
    exact ⟨frameEnd_dispatch, fun out => frameEnd_cut, frameEnd_stomp o, frameEnd_crc o, frameEnd_framing o⟩
  case credits =>
    intro n c k code s hlen hn hup hhome hc hstale
    obtain ⟨granted, used⟩ := grantBack_fresh (q := (port n s).spend c k) hstale k
    rw [port_discardFrame code hlen hn hc hup hhome, granted, used]
    simp only [Port.spend, Credits.add, Credits.get_put]
    exact outstanding_shift (Credits.get_lt _ c) (Credits.get_lt _ c) k
  case data =>
    intro n h payload s at_ f t
    refine ⟨dataIn_noTraffic rfl, fun hout hcls => ?_, fun hout hlow hhigh => ⟨fun hdrop => ?_, fun hroom => ?_⟩⟩
    · have lossless : ¬((4 ≤ f.cls ∧ f.cls ≤ 6) ∧ dropsTail n f (lossyRoom n f s) = true) := by omega
      have queued := (dataIn_traffic rfl hout).trans (if_neg lossless)
      rw [lossyRoom_lossless hcls] at queued
      exact ⟨queued, congrArg (·.switch.queue) queued⟩
    · exact (dataIn_traffic rfl hout).trans (if_pos ⟨⟨hlow, hhigh⟩, hdrop⟩)
    · exact (dataIn_traffic rfl hout).trans (if_neg fun hd => ne_true_of_eq_false hroom hd.2)

end Sys2Proof.Machine
end

section
/-! The egress scheduler (R477-R481, R421, R441, R491, R138): when an output sends, what it sends next, how a suspended
frame resumes and how a drain ends. -/

namespace Sys2Proof.Machine

section
variable {n : Nat} {s : State}

/-! ### Grants (R138, R478, R481) -/

theorem grant_chosen {f : QFrame} {ds : List Nat} {turn : Nat} (hserves : outputServes n s = true)
    (hchosen : choose n s = some (f, ds, turn)) : grant n s = settleResults (sendFrame n f ds turn s) := by
  simp [grant, hserves, hchosen]

theorem grant_notServing (h : outputServes n s = false) : grant n s = s := by
  simp [grant, h]

theorem grant_noneChosen (h : choose n s = none) : grant n s = s := by
  simp [grant, h]

theorem outputServes_crossingFull (hfull : crossingFull .fabToPtx n s = true) (hstays : expressSuspends n s = false) :
    outputServes n s = false := by
  simp [outputServes, grantHeld, hfull, hstays]

/-- An express head goes before every other frame and leaves the deficits alone (R478). -/
theorem choose_express {f : QFrame} (h : nextHead n 7 s = some f) :
    choose n s = some (f, (port n s).deficits, (port n s).turn) := by
  simp only [choose, h]

/-! ### Heads (R477, R480) -/

/-- Wherever the round-robin order starts, it takes one of the eligible heads. -/
theorem mem_heads_of_nextHead {cls : Nat} {f : QFrame} (h : nextHead n cls s = some f) : f ∈ heads n cls s := by
  simp only [nextHead] at h
  split at h
  next hlater => exact Option.some.inj h ▸ List.mem_of_find?_eq_some hlater
  next => exact List.mem_of_head? h

theorem eligible_of_mem_heads {cls : Nat} {f : QFrame} (h : f ∈ heads n cls s) :
    f ∈ s.switch.queue ∧ f.output = n ∧ f.cls = cls ∧ eligible n f s = true := by
  obtain ⟨i, -, hi⟩ := List.mem_filterMap.mp h
  split at hi
  next g hfound =>
    obtain ⟨heligible, ⟨⟩⟩ := Option.ite_none_right_eq_some.mp hi
    have hplace := List.find?_some hfound
    simp only [Bool.and_eq_true, decide_eq_true_eq] at hplace
    obtain ⟨⟨hout, hcls⟩, -⟩ := hplace
    exact ⟨List.mem_of_find?_eq_some hfound, hout, hcls, heligible⟩
  next => cases hi

theorem eligible_iff {f : QFrame} : eligible n f s = true ↔
    (credited f.cls = true → (port n s).holdIn.getLsbD (holdIndex f.cls) = false ∧
      f.shingles ≤ ((port n s).grantIn.get f.cls + 65536 - (port n s).usedOut.get f.cls) % 65536) ∧
    reaches f s = true := by
  cases hc : credited f.cls <;> simp [eligible, hc]

theorem meshPath_of_reaches {f : QFrame} (h : reaches f s = true) :
    ∃ m path, servingSite f.output s = some m ∧ meshPath f.site m s = some path := by
  cases hsite : servingSite f.output s with
  | none => simp [reaches, hsite] at h
  | some m =>
    cases hpath : meshPath f.site m s with
    | none => simp [reaches, hsite, hpath] at h
    | some path => exact ⟨m, path, rfl, hpath⟩

/-! ### Suspended frames and drains (R421, R441, R491) -/

theorem exec_frameResume {t : TxFrame} (hsusp : (port n s).suspended = some t) (hserves : outputServes n s = true)
    (hnone : nextHead n 7 s = none) : exec (.frameResume n) s =
      .next (settleResults (emit (.cont n t.frame.cls ((t.fragment + 1) % 4))
        (setPort n (fun q => { q with
          suspended := none, sending := some { t with fragment := (t.fragment + 1) % 4, since := s.now } }) s))) := by
  change execFrameResume n s = _
  simp [execFrameResume, hsusp, hserves, hnone]

theorem exec_portDrainEnd (hlive : waferLive s = true) (hdrain : (port n s).state = .draining) :
    exec (.portDrainEnd n) s = if (port n s).adapt = .none then .next (portFlushed n 0 rAdminDown s)
      else .next (startTraining n 0 (setPort n (fun q => { q with
        adapt := .retraining, fecSOnly := false, lostLanes := 0 }) (stopPort n .draining 0 rAdminDown 0 s))) := by
  change execPortDrainEnd n s = _
  simp [execPortDrainEnd, hlive, hdrain]
end

/-- Settles O14: a grant is split by what serves and what is chosen, and a granted head is one of the eligible ones. -/
theorem outputsServeEligibleHeads : Obligations.OutputsServeEligibleHeads := by
  refine ⟨?sends, ?idle, ?express, ?resumes, ?drains, ?eligible, ?full⟩
  case sends =>
    intro n f ds turn s hserves hchosen
    exact congrArg Host.Outcome.next (grant_chosen hserves hchosen)
  case idle =>
    intro n s hidle
    exact congrArg Host.Outcome.next (hidle.elim grant_notServing grant_noneChosen)
  case express => exact fun n f s => choose_express
  case resumes => exact fun n t s => exec_frameResume
  case drains =>
    intro n s hlive hdrain
    rw [exec_portDrainEnd hlive hdrain]
    exact ⟨fun hdown => if_pos hdown, fun hadapts => if_neg hadapts⟩
  case eligible =>
    intro n cls s f hnext
    obtain ⟨hqueued, hout, rfl, heligible⟩ := eligible_of_mem_heads (mem_heads_of_nextHead hnext)
    obtain ⟨hcredits, hreaches⟩ := eligible_iff.mp heligible
    exact ⟨hqueued, hout, rfl, hcredits, meshPath_of_reaches hreaches⟩
  case full =>
    intro n s hfull hstays
    exact congrArg Host.Outcome.next (grant_notServing (outputServes_crossingFull hfull hstays))

end Sys2Proof.Machine
end

section
/-! Collectives (Table 6.9, R377, R541-R546, R564, R567a, R714, R832): which yealms an admission may take, the order of
its refusals, and what a cancellation finds once the releases due at its tick are made. -/

namespace Sys2Proof.Machine

section
variable {s : State}

/-! ### The yealms of a collective (R541-R546, R567a) -/

@[simp] theorem mem_nearestFirst {a n : Nat} {ns : List Nat} : n ∈ nearestFirst a ns s ↔ n ∈ ns := by
  simp [nearestFirst, mem_sortBy]

theorem eligible_of_mem_eligibleYealms {p0 depth : Nat} {op : ReduceOp} {canon : Bool} {y : Nat × Nat}
    (h : y ∈ eligibleYealms p0 depth op canon s) :
    siteEligible y.1 op canon s = true ∧ yealmEligible y.1 y.2 depth s = true := by
  simp only [eligibleYealms, List.mem_flatMap, List.mem_append, mem_nearestFirst, List.mem_map, List.mem_filter] at h
  obtain ⟨n, hsite, m, ⟨-, hyealm⟩, rfl⟩ := h
  exact ⟨hsite.elim (fun serving => serving.1.2) (fun lending => lending.1.2), hyealm⟩

theorem mem_of_mem_homeFirst {y : Nat × Nat} {ys : List (Nat × Nat)} (h : y ∈ homeFirst ys s) : y ∈ ys := by
  cases hhome : ys.find? fun x => engineOn x.1 2 s with
  | none => simp [homeFirst, hhome] at h
  | some home =>
    simp only [homeFirst, hhome, List.mem_cons] at h
    obtain rfl | hrest := h
    · exact List.mem_of_find?_eq_some hhome
    · exact List.mem_of_mem_filter hrest

section
variable {g : Group} {elements : Nat} {op : ReduceOp} {canon : Bool} {fi : Format}

theorem length_assignYealms_le : (assignYealms g elements op canon fi s).length ≤ param pMaxYealms s :=
  (List.length_take_le _ _).trans (min_le_right _ _)

theorem eligible_of_mem_assignYealms {y : Nat × Nat} (h : y ∈ assignYealms g elements op canon fi s) :
    siteEligible y.1 op canon s = true ∧ yealmEligible y.1 y.2 (param pDepth s) s = true :=
  eligible_of_mem_eligibleYealms (mem_of_mem_homeFirst (List.mem_of_mem_take h))
end

/-! ### The order of an admission's refusals (R541, R564, R714, R832) -/

section
variable {c : Collective}

theorem admission_used (hused : ∃ d ∈ s.reduction.collectives, d.id = c.id) :
    admission c s = .inl (refuse stPrecond rExists 0) :=
  if_pos (by simpa using hused)

/-- An unused ID leaves the refusals after the first. -/
theorem any_id_of_new (hnew : ∀ d ∈ s.reduction.collectives, d.id ≠ c.id) :
    (s.reduction.collectives.any fun d => d.id = c.id) = false := by
  simpa using hnew

theorem admission_tallyForbids (hnew : ∀ d ∈ s.reduction.collectives, d.id ≠ c.id) (htally : tallyForbids s = true) :
    admission c s = .inl (refuse stPrecond rTally s.tally.state.code) := by
  simp [admission, any_id_of_new hnew, htally]

theorem admission_powerless (hnew : ∀ d ∈ s.reduction.collectives, d.id ≠ c.id) (htally : tallyForbids s = false)
    (hpower : s.power.powerFail = true ∨ s.power.quiesced = true) : admission c s = .inl (refusePhase s) := by
  simp [admission, any_id_of_new hnew, htally, hpower]

section
variable (hnew : ∀ d ∈ s.reduction.collectives, d.id ≠ c.id) (htally : tallyForbids s = false)
  (hpower : s.power.powerFail = false) (hquiesced : s.power.quiesced = false)
include hnew htally hpower hquiesced

theorem admission_ledgerHalt {r : Nat} (hledger : ledgerHalt s = some r) :
    admission c s = .inl (refuse stLedgerHalt r 0) := by
  simp [admission, any_id_of_new hnew, htally, hpower, hquiesced, hledger]

theorem admission_noSpace (hledger : ledgerHalt s = none) (hheavy : c.group.powerHeavy = true)
    (hspace : param pHold s * 1048576 < c.elements * c.output.bytes) :
    admission c s = .inl (refuse stBusy rNoSpace 0) := by
  simp [admission, any_id_of_new hnew, htally, hpower, hquiesced, hledger, hheavy, hspace]
end

/-- An admission takes the yealms that the assignment finds, and it finds at least one. -/
theorem assignYealms_of_admission {ys : List (Nat × Nat)} (h : admission c s = .inr ys) :
    assignYealms c.group c.elements c.op c.canonical c.input s = ys ∧ ys ≠ [] := by
  unfold admission at h
  cases hledger : ledgerHalt s with
  | some r =>
    simp only [hledger] at h
    split_ifs at h
  | none =>
    cases hys : assignYealms c.group c.elements c.op c.canonical c.input s with
    | nil =>
      simp only [hledger, hys] at h
      split_ifs at h
    | cons z zs =>
      simp only [hledger, hys] at h
      split_ifs at h
      cases h
      exact ⟨rfl, List.cons_ne_nil z zs⟩
end

/-! ### Cancellation (R377) -/

section
variable {p : Packet}

/-- The state once every release that is due has been made and every result that can leave has left. -/
def dueReleased (s : State) : State := settleResults (rampLoop s.reduction.rampQueue.length s)

theorem collectiveCancelRun_inFlight (hfound : (findCollective (field p.body 0 8) (dueReleased s)).isSome = true) :
    collectiveCancelRun p s = (abortCollective (field p.body 0 8) 1 0 0 (dueReleased s), ok []) :=
  if_pos hfound

/-- A collective that is no longer in flight is told from an unknown one by whether it was released. -/
theorem collectiveCancelRun_ended (hended : findCollective (field p.body 0 8) (dueReleased s) = none) :
    collectiveCancelRun p s =
      if ∃ x ∈ (dueReleased s).reduction.done, x.id = field p.body 0 8 ∧ x.state = .released then
        (dueReleased s, refuse stPrecond rReleased 0)
      else (dueReleased s, refuse stRange rNotFound 0) := by
  have gone : ¬(findCollective (field p.body 0 8) (dueReleased s)).isSome = true := by simp [hended]
  refine (if_neg gone).trans (if_congr ?_ rfl rfl)
  simp [dueReleased]
end
end

/-- Settles O19: an admission is run with the yealms that it found, the refusals are met in the order of the checks, and
a cancellation is judged after the releases that are due. -/
theorem collectivesAdmitted : Obligations.CollectivesAdmitted := by
  refine ⟨?opens, ?status, ?cancels, fun c s => ⟨admission_used, ?refusals, ?yealms⟩⟩
  case opens =>
    intro p s g ys h c b d d' hgroup hdecision hadmits
    exact completes_of_run rfl rfl h (collectiveOpenRun_admits hgroup hdecision hadmits) rfl fun _ => rfl
  case status =>
    intro p s d h b hd
    exact completes_of_run rfl rfl h (collectiveStatusRun_known hd) rfl fun _ => rfl
  case cancels =>
    intro p s h c b n t
    refine ⟨fun hfound => ?_, fun hended hreleased => ?_, fun hended hother => ?_⟩
    · exact completes_of_run rfl rfl h (collectiveCancelRun_inFlight hfound) rfl fun _ => rfl
    · exact refuses_of_run rfl rfl h ((collectiveCancelRun_ended hended).trans (if_pos hreleased)) rfl
    · have unreleased : ¬∃ x ∈ t.reduction.done, x.id = n ∧ x.state = .released :=
        fun ⟨x, hx, hid, hstate⟩ => hother x hx hid hstate
      exact refuses_of_run rfl rfl h ((collectiveCancelRun_ended hended).trans (if_neg unreleased)) rfl
  case refusals =>
    exact fun hnew => ⟨admission_tallyForbids hnew, admission_powerless hnew, fun htally hpower hquiesced =>
      ⟨fun _ => admission_ledgerHalt hnew htally hpower hquiesced, admission_noSpace hnew htally hpower hquiesced⟩⟩
  case yealms =>
    intro ys hadmits
    obtain ⟨rfl, hsome⟩ := assignYealms_of_admission hadmits
    exact ⟨hsome, length_assignYealms_le, fun y => eligible_of_mem_assignYealms⟩

end Sys2Proof.Machine
end

section
/-! The range that a region is allocated (R611-R613, R627): the lowest free one, and how it is cleared. -/

namespace Sys2Proof.Machine

/-! ### The lowest free range (R611-R613) -/

/-- Where the search for a range looks: the Loft's start, and the first boundary of 128 KiB at or past each region's end. -/
def rangeStarts (s : State) : List Nat :=
  0 :: s.loft.regions.map fun r => (r.base + r.size + 131071) / 131072 * 131072

/-- The starts at which a range is inside the Loft and clear of every region. -/
def freeStarts (size : Nat) (s : State) : List Nat :=
  (rangeStarts s).filter fun b => b + size ≤ loftSize s && rangeFree b size s

/-- The lower of the lowest start so far and another. -/
def lowerStart (best : Option Nat) (b : Nat) : Option Nat :=
  match best with
  | none => some b
  | some x => some (min x b)

theorem foldl_lowerStart (bs : List Nat) (x : Nat) : bs.foldl lowerStart (some x) = some (bs.foldl min x) := by
  induction bs generalizing x with
  | nil => rfl
  | cons b bs ih => exact ih (min x b)

theorem freeBase_eq_min? (size : Nat) (s : State) : freeBase size s = (freeStarts size s).min? := by
  change (freeStarts size s).foldl lowerStart none = _
  cases freeStarts size s with
  | nil => rfl
  | cons b bs => exact foldl_lowerStart bs b

section
variable {a size : Nat} {s : State}

theorem rangeFree_iff : rangeFree a size s = true ↔ ∀ r ∈ s.loft.regions, a + size ≤ r.base ∨ r.base + r.size ≤ a := by
  simp [rangeFree]

theorem mem_freeStarts :
    a ∈ freeStarts size s ↔ a ∈ rangeStarts s ∧ a + size ≤ loftSize s ∧ rangeFree a size s = true := by
  simp [freeStarts]

theorem mem_rangeStarts : a ∈ rangeStarts s ↔
    a = 0 ∨ ∃ r ∈ s.loft.regions, (r.base + r.size + 131071) / 131072 * 131072 = a := by
  simp [rangeStarts]

theorem aligned_of_mem_rangeStarts (h : a ∈ rangeStarts s) : a % 131072 = 0 := by
  obtain rfl | ⟨r, -, rfl⟩ := mem_rangeStarts.mp h
  · rfl
  · exact Nat.mul_mod_left _ _

/-- A free range can be moved down to the highest start that is not above it: no region begins or ends between the two. -/
theorem exists_freeStart_le (haligned : a % 131072 = 0) (hfits : a + size ≤ loftSize s)
    (hfree : rangeFree a size s = true) : ∃ b ∈ freeStarts size s, b ≤ a := by
  let b := Nat.findGreatest (· ∈ rangeStarts s) a
  have hstart : b ∈ rangeStarts s :=
    Nat.findGreatest_spec (P := (· ∈ rangeStarts s)) (Nat.zero_le a) (mem_rangeStarts.mpr (.inl rfl))
  have hle : b ≤ a := Nat.findGreatest_le a
  refine ⟨b, mem_freeStarts.mpr ⟨hstart, by omega, rangeFree_iff.mpr fun r hr => ?_⟩, hle⟩
  rcases rangeFree_iff.mp hfree r hr with hbelow | habove
  · exact .inl (by omega)
  · have past : (r.base + r.size + 131071) / 131072 * 131072 ≤ b :=
      Nat.le_findGreatest (by omega) (mem_rangeStarts.mpr (.inr ⟨r, hr, rfl⟩))
    exact .inr (by omega)
end

/-- Settles O24: the search answers the lowest of the free starts, below which no range is free, and clearing keeps the
cells outside the range. -/
theorem allocatedRangeIsFreshAndDisjoint : Obligations.AllocatedRangeIsFreshAndDisjoint := by
  refine ⟨fun size s a h => ?search, fun a size s h => ⟨zeroRange_wf h,
    fun i hlow hhigh => read_zeroRange_inside ⟨hlow, hhigh⟩, fun i hout => read_zeroRange_outside hout⟩⟩
  case search =>
    rw [freeBase_eq_min?, List.min?_eq_some_iff] at h
    obtain ⟨hmem, hleast⟩ := h
    obtain ⟨hstart, hfits, hfree⟩ := mem_freeStarts.mp hmem
    refine ⟨aligned_of_mem_rangeStarts hstart, hfits, rangeFree_iff.mp hfree, fun a' haligned hfits' hfree' => ?_⟩
    obtain ⟨b, hb, hle⟩ := exists_freeStart_le haligned hfits' (rangeFree_iff.mpr hfree')
    exact (hleast b hb).trans hle

end Sys2Proof.Machine
end

section
/-! Writes to the Loft (R604, R606, R607): what a response leaves of the Loft, and what a write that completes stores. -/

namespace Sys2Proof.Machine

/-! ### What a response leaves of the Loft -/

section
variable (s : State)

@[simp] theorem noteNumber_loft (body : RecordBody) (n : Nat) : (noteNumber body n s).loft = s.loft := by
  unfold noteNumber
  split <;> rfl

@[simp] theorem buildRecord_loft (body : RecordBody) (builder extra : Nat) :
    (buildRecord body builder extra s).loft = s.loft := by
  simp only [buildRecord, noteNumber_loft]
  split <;> rfl

@[simp] theorem countHeld_loft : (countHeld s).loft = s.loft := by
  unfold countHeld
  split <;> rfl

@[simp] theorem journalWith_loft (body : RecordBody) (builder extra : Nat) :
    (journalWith body builder extra s).loft = s.loft := by
  unfold journalWith
  split
  · rfl
  · split
    · rfl
    · simp

@[simp] theorem unqueue_loft (f : QFrame) : (unqueue f s).loft = s.loft := by
  unfold unqueue takeOut
  split <;> rfl

@[simp] theorem gutter_loft (n input output cls : Nat) : (gutter n input output cls s).loft = s.loft := by
  simp only [gutter]
  split <;> rfl

@[simp] theorem returnCredits_loft (p cls k : Nat) : (returnCredits p cls k s).loft = s.loft := by
  unfold returnCredits
  split <;> rfl

@[simp] theorem flushOne_loft (cause : Nat) (f : QFrame) : (flushOne cause f s).loft = s.loft := by
  unfold flushOne
  split <;> simp [journalWafer]

@[simp] theorem sendTray_loft (f : QFrame) : (sendTray f s).loft = s.loft := by
  simp only [sendTray]
  split
  · rfl
  · rw [flushOne_loft]; rfl

@[simp] theorem respond_loft (p block : Nat) (write : Bool) (h : FrameHeader) (data : List Byte) (poison : Bool) :
    (respond p block write h data poison s).loft = s.loft := sendTray_loft _ _
end

/-! ### A write that completes (R604, R606, R607) -/

section
variable {r : LoftRequest} {s : State}

/-- The Loft once a write has stored its bytes: the lines that it covers are poisoned no more. -/
def written (r : LoftRequest) (l : Loft) : Loft :=
  { l with
    cells := writeBytes r.address r.data l.cells
    poisonLines := l.poisonLines.filter fun x =>
      !((linesOf r.address r.length).filter fun y => covers r.address r.length y).contains x }

theorem finishWrite_loft (r : LoftRequest) (s : State) :
    (finishWrite r s).loft = if r.forced || r.lost then s.loft else written r s.loft := by
  have counted : ∀ (c : Prop) [Decidable c] (id : Nat), (if c then s else count id s).loft = s.loft := fun c _ id => by
    split <;> rfl
  simp only [finishWrite]
  split
  · rw [respond_loft, counted]
  · simp only [respond_loft, counted]
    rfl

theorem mem_poisonLines_written {l : Loft} {x : Nat} : x ∈ (written r l).poisonLines ↔
    x ∈ l.poisonLines ∧
      ¬(x ∈ linesOf r.address r.length ∧ r.address ≤ x ∧ x + 64 ≤ r.address + r.length) := by
  simp [written, covers, imp_iff_not_or]
end

/-- Settles O26: a completed write leaves the Loft that `written` gives, and a forced or lost one leaves it as it was. -/
theorem loftWritesLandOnlyInRange : Obligations.LoftWritesLandOnlyInRange := by
  intro r s t
  refine ⟨fun hover => ?overtaken, fun hforced hlost => ?stored⟩
  case overtaken =>
    have same : t.loft = s.loft := (finishWrite_loft r s).trans (if_pos (by simpa using hover))
    rw [same]
    exact ⟨rfl, rfl⟩
  case stored =>
    have stored : t.loft = written r s.loft := (finishWrite_loft r s).trans (if_neg (by simp [hforced, hlost]))
    unfold LoftCanonical
    rw [stored]
    exact ⟨fun h => ⟨writeBytes_wf h, fun i hi => read_writeBytes_inside h hi, fun a => read_writeBytes_outside⟩,
      fun l => mem_poisonLines_written⟩

end Sys2Proof.Machine
end

section
/-! What the Loft's blocks, its scrub and its seals finish, and the Loft once its cartridges are initialised again
(R605-R608, R628-R633, R640, R642, R647). -/

namespace Sys2Proof.Machine

/-! ### The events -/

section
variable {s : State}

/-- An access that a block completes: what its ECC found, the buffers freed, and the answer. -/
def accessed (n : Nat) (ecc : EccResult) (r : LoftRequest) (s : State) : State :=
  let t := match ecc with
    | .clean => s
    | .corrected => count (cLoft n 4) s
    | .uncorrectable line => poisonLine line s
  let t := returnCredits r.port (r.header.cls.toNat % 8) (creditsOf r.header.length.toNat)
    { t with loft.requests := t.loft.requests.erase r }
  if r.write then finishWrite r t else finishRead r t

theorem accessDone_oldest {n : Nat} {r : LoftRequest} (ecc : EccResult)
    (hr : (s.loft.requests.find? fun q => q.block = n && !q.refused) = some r) :
    accessDone n ecc s =
      let t := accessed n ecc r s
      pumpLoft n t.loft.waiting.length (answerRefused [] t.loft.requests t) := by
  simp only [accessDone, hr]
  rfl

theorem exec_loftAccessDone {n : Nat} {r : LoftRequest} (ecc : EccResult) (hlive : waferLive s = true)
    (hr : (s.loft.requests.find? fun q => q.block = n && !q.refused) = some r) :
    exec (.loftAccessDone n ecc) s =
      let t := accessed n ecc r s
      .next (pumpLoft n t.loft.waiting.length (answerRefused [] t.loft.requests t)) :=
  (if_pos hlive).trans (congrArg Host.Outcome.next (accessDone_oldest ecc hr))

theorem exec_loftScrubPass {n : Nat} (hlive : waferLive s = true) (hserves : loftCartFaulted n s = false) :
    exec (.loftScrubPass n) s = .next (count (cLoft n 8) s) :=
  if_pos (by simp [hlive, hserves])

theorem exec_scrubUncorrectable {a : Nat} (hlive : waferLive s = true) (ha : a < loftSize s)
    (hserves : loftCartFaulted (cartOf a) s = false) :
    exec (.scrubUncorrectable a) s = .next (poisonLine (a / 64 * 64) s) :=
  if_pos (by simp [hlive, ha, hserves])

theorem exec_loftReinitDone (hrail : loftRail s = true) (hloft : hasLoft s = true) :
    exec .loftReinitDone s = .next { s with power.loftReady := true } :=
  if_pos (by simp [hrail, hloft])

/-! ### Seals (R619, R620, R640) -/

/-- The region once its seal is done. -/
def sealDone (r : Region) (s : State) : Region :=
  { r with kind := .isSealed, digest := regionDigest r s, poisonSeen := r.poisonSeen || regionPoisoned r s }

/-- The region is SEALED, its digest engine has worked, and the seal is journalled. -/
def sealStored (r : Region) (rest : List Nat) (s : State) : State :=
  let t := storeRegion (sealDone r s) { s with loft.seals := rest }
  journalRegion (sealDone r s) 0 1 0 (engineWork (digestSite (cartOf r.base) t) 2 r.size t)

theorem exec_regionSealDone {h : Nat} {rest : List Nat} {r : Region} (hlive : waferLive s = true)
    (hseals : s.loft.seals = h :: rest) (hr : findRegion h s = some r) : exec .regionSealDone s =
      let t := sealStored r rest s
      .next (finishAll (isSealOp h) stOk 0 0 (digestBytes (regionDigest r s))
        ((poisonedLines r t).foldl (fun u l => journalRegion (sealDone r s) 3 2 l u) t)) := by
  simp only [exec, execRegionSealDone, hseals, hr, hlive]
  rfl

variable {h : U32} {r : Region}

theorem exec_resealDone (hlive : waferLive s = true) (hr : findRegion h.toNat s = some r) (hreseal : r.resealing = true) :
    exec (.resealDone h) s =
      let same := decide (regionDigest r s = r.digest)
      let done : Region := { r with kind := .isSealed, resealing := false, poisonSeen := r.poisonSeen || !same }
      let t := storeRegion done s
      .next (journalRegion { done with digest := regionDigest r s } (if same then 4 else 5) 1 0
        (if same then t else poisonDecisions r.handle t)) := by
  simp only [exec, execResealDone, hr, hlive, hreseal]
  rfl

theorem exec_resealDone_same (hlive : waferLive s = true) (hr : findRegion h.toNat s = some r)
    (hreseal : r.resealing = true) (hsame : regionDigest r s = r.digest) :
    exec (.resealDone h) s = .next (journalRegion { r with kind := .isSealed, resealing := false } 4 1 0
      (storeRegion { r with kind := .isSealed, resealing := false } s)) := by
  simp [exec_resealDone hlive hr hreseal, hsame]

theorem exec_resealDone_other (hlive : waferLive s = true) (hr : findRegion h.toNat s = some r)
    (hreseal : r.resealing = true) (hother : regionDigest r s ≠ r.digest) :
    exec (.resealDone h) s = .next (journalRegion
      { r with kind := .isSealed, resealing := false, poisonSeen := true, digest := regionDigest r s } 5 1 0
      (poisonDecisions r.handle (storeRegion { r with kind := .isSealed, resealing := false, poisonSeen := true } s))) := by
  simp [exec_resealDone hlive hr hreseal, hother]
end

/-- Settles O25: each event is its own equation, and a digest computed again is the region's own or another. -/
theorem loftEvents : Obligations.LoftEvents := by
  refine ⟨?access, fun n s => exec_loftScrubPass, fun a s => exec_scrubUncorrectable,
    fun h rest r s => exec_regionSealDone, ?reseal, fun s => exec_loftReinitDone⟩
  case access =>
    exact fun n ecc r s hlive hr => exec_loftAccessDone ecc hlive hr
  case reseal =>
    exact fun h r s hlive hr hreseal =>
      ⟨exec_resealDone_same hlive hr hreseal, exec_resealDone_other hlive hr hreseal⟩

end Sys2Proof.Machine
end

section
/-! The busbar (R714, R1030-R1034, R1062), the pins and cartridges (R648, R1038, R1039), and the writes on the sideband
bus (Table 19.13, R1042-R1046). -/

namespace Sys2Proof.Machine

section
variable {s : State}

/-! ### The busbar -/

theorem exec_busbarPowerFail (hon : s.power.aonUp = true) : exec .busbarPowerFail s = .next (raisePowerFail s) :=
  if_pos hon

theorem exec_busbarOvervoltage (hon : s.power.aonUp = true) : exec .busbarOvervoltage s = .next (raisePowerFail s) :=
  if_pos hon

theorem exec_busbarLow (hon : s.power.aonUp = true) : exec .busbarLow s =
    let t := { s with power.busOutOfRange := true }
    if s.power.phase = .ready then .next (count (cTray 2) { t with power.busLow := true })
    else if s.power.phase = .waferRamp && s.power.step < 9 then .next (setCause rBusRange t)
    else .next t :=
  if_neg (by simp [hon])

theorem exec_busbarLow_ready (hon : s.power.aonUp = true) (hphase : s.power.phase = .ready) : exec .busbarLow s =
    .next (count (cTray 2) { s with power.busOutOfRange := true, power.busLow := true }) :=
  (exec_busbarLow hon).trans (if_pos hphase)

theorem exec_busbarLow_ramping (hon : s.power.aonUp = true) (hphase : s.power.phase = .waferRamp)
    (hstep : s.power.step < 9) :
    exec .busbarLow s = .next (setCause rBusRange { s with power.busOutOfRange := true }) :=
  (exec_busbarLow hon).trans ((if_neg (by simp [hphase])).trans (if_pos (by simp [hphase, hstep])))

theorem exec_powerFailClear (hfail : s.power.powerFail = true) :
    exec .powerFailClear s = .next (busReturned { s with power.powerFail := false }) :=
  if_pos hfail

theorem exec_busbarRangeReturn : exec .busbarRangeReturn s =
    if s.power.powerFail then .next s else .next (busReturned s) := rfl

/-- The hold-up ends: rails go off, and the phase is HELD (R1031, R1032). -/
theorem exec_holdupExpiry_failed (hfail : s.power.powerFail = true) : exec .holdupExpiry s =
    let t := byFinial (fun u => cableOff (if zoneWOn u then waferRailsOff u else u)) s
    .next (settleFlow (reachHeld rBusRange { t with power := { t.power with
      step := min t.power.step 6, cableCut := s.power.cableCut || cableRail s } })) :=
  if_neg (by simp [hfail])

theorem exec_holdupExpiry_cleared (hclear : s.power.powerFail = false) : exec .holdupExpiry s = .next s :=
  if_pos (by simp [hclear])

theorem exec_busRangeResume (hphase : s.power.phase = .held) (hcause : s.power.cause.toNat = rBusRange)
    (hgate : gatePasses s = true) (hauthority : (authority s).isSome = true) (ha : eaveBooting .a s = false)
    (hb : eaveBooting .b s = false) : exec .busRangeResume s = .next (stepSeven (count (cCoolant 3)
      { s with power := { s.power with busOutOfRange := false, busLow := false } })) :=
  if_pos (by simp [hphase, hcause, hgate, hauthority, ha, hb])

/-! ### The shelf, SLOT_ID and a failed cartridge -/

theorem exec_shelfFault_new (hon : s.power.aonUp = true) (hok : s.power.shelfFault = false) :
    exec .shelfFault s = .next (count (cTray 3) { s with power.shelfFault := true }) :=
  if_neg (by simp [hon, hok])

theorem exec_shelfFault_known (hfault : s.power.shelfFault = true) : exec .shelfFault s = .next s :=
  if_pos (by simp [hfault])

theorem exec_slotIdChange_changed {pins : BitVec 5} (hon : s.power.aonUp = true) (hstep : 2 ≤ s.power.step)
    (hpins : pins ≠ s.power.slotPins) :
    exec (.slotIdChange pins) s = .next (count (cTray 4) { s with power.slotPins := pins }) :=
  if_pos (by simp [hon, hstep, hpins])

theorem exec_slotIdChange_same {pins : BitVec 5} (hpins : pins = s.power.slotPins) :
    exec (.slotIdChange pins) s = .next s :=
  if_neg (by simp [hpins])

theorem exec_cartridgeFault (k : CartridgeId) : exec (.cartridgeFault k) s =
    if s.power.faultedCartridges.contains (cartKey k) then .next s
    else .next (cartridgeLost k { s with power.faultedCartridges := s.power.faultedCartridges ++ [cartKey k] }) := rfl

/-! ### RACK_ID and ROW_POS (R1044) -/

section
variable {v : U32}

theorem exec_rackIdWrite (hon : s.power.aonUp = true) : exec (.rackIdWrite v) s =
    if rackReserved v || (rackIdValid s && s.referee.rackId ≠ v ||| 0x80000000) then .next (count (cTray 5) s)
    else if rackIdValid s then .next s
    else .next (forEach (List.range 160) rackKnown { s with referee.rackId := v ||| 0x80000000 }) :=
  if_neg (by simp [hon])

theorem exec_rackIdWrite_refused (hon : s.power.aonUp = true)
    (hbad : rackReserved v = true ∨ rackIdValid s = true ∧ s.referee.rackId ≠ v ||| 0x80000000) :
    exec (.rackIdWrite v) s = .next (count (cTray 5) s) :=
  (exec_rackIdWrite hon).trans (if_pos (by simpa using hbad))

theorem exec_rackIdWrite_held (hon : s.power.aonUp = true) (hbits : rackReserved v = false)
    (hvalid : rackIdValid s = true) (hsame : s.referee.rackId = v ||| 0x80000000) :
    exec (.rackIdWrite v) s = .next s :=
  (exec_rackIdWrite hon).trans ((if_neg (by simp [hbits, hsame])).trans (if_pos hvalid))

theorem exec_rackIdWrite_first (hon : s.power.aonUp = true) (hbits : rackReserved v = false)
    (hfirst : rackIdValid s = false) : exec (.rackIdWrite v) s =
      .next (forEach (List.range 160) rackKnown { s with referee.rackId := v ||| 0x80000000 }) :=
  (exec_rackIdWrite hon).trans ((if_neg (by simp [hbits, hfirst])).trans (if_neg (by simp [hfirst])))

theorem exec_rowPosWrite (hon : s.power.aonUp = true) : exec (.rowPosWrite v) s =
    if rowReserved v || (s.referee.rowPos.getLsbD 31 && s.referee.rowPos ≠ v ||| 0x80000000) then
      .next (count (cTray 5) s)
    else if s.referee.rowPos.getLsbD 31 then .next s
    else .next (forEach opticalPorts refreshHold { s with referee.rowPos := v ||| 0x80000000 }) :=
  if_neg (by simp [hon])

theorem exec_rowPosWrite_refused (hon : s.power.aonUp = true)
    (hbad : rowReserved v = true ∨
      s.referee.rowPos.getLsbD 31 = true ∧ s.referee.rowPos ≠ v ||| 0x80000000) :
    exec (.rowPosWrite v) s = .next (count (cTray 5) s) :=
  (exec_rowPosWrite hon).trans (if_pos (by simpa using hbad))

theorem exec_rowPosWrite_first (hon : s.power.aonUp = true) (hbits : rowReserved v = false)
    (hfirst : s.referee.rowPos.getLsbD 31 = false) : exec (.rowPosWrite v) s =
      .next (forEach opticalPorts refreshHold { s with referee.rowPos := v ||| 0x80000000 }) :=
  (exec_rowPosWrite hon).trans ((if_neg (by simp only [hbits, hfirst, Bool.false_and, Bool.or_false,
    Bool.false_eq_true, not_false_eq_true])).trans (if_neg (ne_true_of_eq_false hfirst)))
end

/-! ### The other registers (R1042, R1045, R1046) -/

theorem exec_markerNextWrite {inside : Bool} (v : U64) (hon : s.power.aonUp = true) :
    exec (.markerNextWrite v inside) s =
      if inside || !s.tally.pllLocked || !s.tally.syncPresent then .next (count (cTray 5) s)
      else .next { s with tally.announced := some v.toNat } :=
  if_neg (by simp [hon])

theorem exec_markerNextWrite_refused {inside : Bool} (v : U64) (hon : s.power.aonUp = true)
    (hbad : inside = true ∨ s.tally.pllLocked = false ∨ s.tally.syncPresent = false) :
    exec (.markerNextWrite v inside) s = .next (count (cTray 5) s) :=
  (exec_markerNextWrite v hon).trans (if_pos (by simpa [or_assoc] using hbad))

theorem exec_markerNextWrite_announces {inside : Bool} (v : U64) (hon : s.power.aonUp = true) (hinside : inside = false)
    (hlocked : s.tally.pllLocked = true) (hsync : s.tally.syncPresent = true) :
    exec (.markerNextWrite v inside) s = .next { s with tally.announced := some v.toNat } :=
  (exec_markerNextWrite v hon).trans (if_neg (by simp [hinside, hlocked, hsync]))

theorem exec_eventAckWrite {n : U32} {e : Event} (he : oldestEvent s = some e) : exec (.eventAckWrite n) s =
    if e.number ≠ n.toNat then .next s
    else .next { s with referee.events := s.referee.events.map fun x =>
      if x.number ≤ e.number then { x with heard := true } else x } := by
  simp only [exec, execEventAckWrite, he]

theorem exec_invSelWrite (v : U16) (hon : s.power.aonUp = true) :
    exec (.invSelWrite v) s = .next { s with referee.invSel := v } :=
  if_pos hon

theorem exec_sidebandRegisterWrite (a : Byte) (d : List Byte) (bc : Bool) (hon : s.power.aonUp = true) :
    exec (.sidebandRegisterWrite a d bc) s = .next (countBy (cTray 5) (sidebandRefused a.toNat d.length bc) s) :=
  if_pos hon
end

/-- Settles O49: each event and each write is its own equation, split by what the pins and the registers hold. -/
theorem pinsAndSideband : Obligations.PinsAndSideband := by
  refine ⟨?busbar, ?failing, ?clear, fun s => exec_busRangeResume, fun s => rfl, ?slotId,
    fun k s hnew => (exec_cartridgeFault k).trans (if_neg (ne_true_of_eq_false hnew)),
    fun k s hknown => (exec_cartridgeFault k).trans (if_pos hknown), ?rackId, ?rowPos, ?markerNext, ?eventAck,
    fun v s => exec_invSelWrite v, fun a d bc s => exec_sidebandRegisterWrite a d bc⟩
  case busbar =>
    exact fun s hon => ⟨exec_busbarPowerFail hon, exec_busbarOvervoltage hon, exec_busbarLow_ready hon,
      exec_busbarLow_ramping hon, exec_shelfFault_new hon, exec_shelfFault_known⟩
  case failing =>
    exact fun s hfail => ⟨exec_powerFailClear hfail, exec_busbarRangeReturn.trans (if_pos hfail),
      exec_holdupExpiry_failed hfail⟩
  case clear =>
    exact fun s hclear => ⟨exec_holdupExpiry_cleared hclear,
      exec_busbarRangeReturn.trans (if_neg (ne_true_of_eq_false hclear))⟩
  case slotId =>
    exact fun pins s hon hstep => ⟨exec_slotIdChange_changed hon hstep, exec_slotIdChange_same⟩
  case rackId =>
    exact fun v s hon => ⟨exec_rackIdWrite_refused hon, exec_rackIdWrite_held hon, exec_rackIdWrite_first hon⟩
  case rowPos =>
    exact fun v s hon => ⟨exec_rowPosWrite_refused hon, exec_rowPosWrite_first hon⟩
  case markerNext =>
    exact fun v inside s hon => ⟨exec_markerNextWrite_refused v hon, exec_markerNextWrite_announces v hon⟩
  case eventAck =>
    exact fun n s e he => ⟨fun hn => (exec_eventAckWrite he).trans (if_pos hn),
      fun hn => (exec_eventAckWrite he).trans (if_neg (not_not.mpr hn))⟩

end Sys2Proof.Machine
end

section
/-! Records of the journal (Tables 12.1-12.3, R678, R686-R688): how long a record is, and how each one that is built
joins the chain. -/

namespace Sys2Proof.Machine

/-! ### The length of a record (R678) -/

@[simp] theorem length_le (n v : Nat) : (le n v).length = n := by
  induction n generalizing v with
  | zero => rfl
  | succ n ih => simp [le, ih]

@[simp] theorem length_leInt (n : Nat) (v : Int) : (leInt n v).length = n := length_le n _

@[simp] theorem length_zs (n : Nat) : (zs n).length = n := List.length_replicate

@[simp] theorem length_digestBytes (d : Digest) : (digestBytes d).length = 32 := by simp [digestBytes]

@[simp] theorem length_padTo (n : Nat) (bs : List Byte) : (padTo n bs).length = n := by
  simp only [padTo, List.length_take, List.length_append, length_zs]
  omega

/-- Every body is padded to 112 bytes after a header of 80. -/
theorem length_recordBytes (r : Record) : (recordBytes r).length = 192 := by simp [recordBytes]

/-! ### What a record leaves of the journal -/

section
variable {s : State}

@[simp] theorem noteNumber_journal (body : RecordBody) (n : Nat) (s : State) :
    (noteNumber body n s).journal = s.journal := by
  unfold noteNumber
  split <;> rfl

@[simp] theorem countHeld_journal (s : State) : (countHeld s).journal = s.journal := by
  unfold countHeld
  split <;> rfl

@[simp] theorem countHeld_mode (s : State) : (countHeld s).mode = s.mode := by
  unfold countHeld
  split <;> rfl

/-- A record that is built takes the next number and the last hash, is stamped, waits behind the others to become
durable, and its own hash is the last (R686, R687). -/
theorem buildRecord_chains (body : RecordBody) (builder extra : Nat) (s : State) :
    ∃ r : Record, r.body = body ∧ r.number = s.journal.next ∧ r.prev = s.journal.lastHash ∧
      r.tally = stampOf builder s ∧ r.mode = s.mode.code ∧
      (buildRecord body builder extra s).journal = { s.journal with
        waiting := s.journal.waiting ++ [r]
        next := s.journal.next + 1
        lastHash := sha256 (recordBytes r)
        fwset := (buildRecord body builder extra s).journal.fwset
        openSince := (buildRecord body builder extra s).journal.openSince } := by
  simp only [buildRecord, noteNumber_journal]
  split
  · exact ⟨_, rfl, rfl, rfl, rfl, rfl, rfl⟩
  · exact ⟨_, rfl, rfl, rfl, rfl, rfl, rfl⟩

@[simp] theorem buildRecord_halted (body : RecordBody) (builder extra : Nat) (s : State) :
    (buildRecord body builder extra s).journal.halted = s.journal.halted := by
  obtain ⟨r, -, -, -, -, -, hjournal⟩ := buildRecord_chains body builder extra s
  rw [hjournal]

/-! ### What becomes of an event (R217, R722, R742) -/

theorem journalWith_waits (body : RecordBody) (builder extra : Nat)
    (h : buildsRecords s = false ∨ buildingWaits s = true) : journalWith body builder extra s =
      { s with journal.frozenNotes := s.journal.frozenNotes ++ [(body, builder, extra)] } :=
  if_pos (by simpa using h)

section
variable (hbuilds : buildsRecords s = true) (hroom : buildingWaits s = false)
include hbuilds hroom

theorem journalWith_unjournalled (body : RecordBody) (builder extra : Nat) (h : unjournalled s = true) :
    journalWith body builder extra s = countUnjournalled s :=
  (if_neg (by simp [hbuilds, hroom])).trans (if_pos h)

theorem journalWith_builds (body : RecordBody) (builder extra : Nat) (h : unjournalled s = false) :
    journalWith body builder extra s = buildRecord body builder extra (countHeld s) :=
  (if_neg (by simp [hbuilds, hroom])).trans (if_neg (by simp [h]))
end

@[simp] theorem journalWith_halted (body : RecordBody) (builder extra : Nat) (s : State) :
    (journalWith body builder extra s).journal.halted = s.journal.halted := by
  unfold journalWith
  split
  · rfl
  · split
    · rfl
    · simp
end

/-- Settles O30: the record that is built has the fields that the chain asks for, and holding it moves no field of the
journal. -/
theorem recordsAreChained : Obligations.RecordsAreChained := by
  refine ⟨rfl, rfl, length_recordBytes, ?_⟩
  intro body builder extra s hbuilds hroom hplace t
  obtain ⟨r, hbody, hnumber, hprev, hstamp, hmode, hjournal⟩ := buildRecord_chains body builder extra (countHeld s)
  have ht : t = buildRecord body builder extra (countHeld s) :=
    journalWith_builds hbuilds hroom body builder extra hplace
  rw [countHeld_journal] at hnumber hprev hjournal
  rw [countHeld_mode] at hmode
  simp only [stampOf, markTallyNat, tallyNat, countHeld_tally] at hstamp
  rw [ht, hjournal]
  exact ⟨r, rfl, hbody, hnumber, hprev, fun h => hstamp.trans (if_neg h), fun h => hstamp.trans (if_pos h), hmode, rfl,
    rfl, rfl⟩

end Sys2Proof.Machine
end

section
/-! The journal's own events (R690-R693, R695, R698-R703, R709-R711, R721, R724, R732): what each one does once it finds
its cause, and when a Ledger journal halts. -/

namespace Sys2Proof.Machine

section
variable {s : State}

/-! ### Records and segments (R690-R695) -/

theorem exec_recordDurable (hmounted : s.power.banksMounted = true) (hwaiting : s.journal.waiting ≠ []) :
    exec .recordDurable s = .next (settleJournal (makeDurable s)) :=
  if_neg (by simp [hmounted, hwaiting])

/-- The places that are taken in the open segment, by records that are built or wait to be. -/
def openRecords (s : State) : Nat := (s.journal.next - 1 + s.journal.frozenNotes.length) % 4096

/-- The open segment is filled with `n` MARK PAD records (R693). -/
def padSegment (n : Nat) (s : State) : State :=
  { (List.range n).foldl (fun u _ => journalWafer (.mark 2 0 0 [] (tallyNat s) (tallyNat s)) u) s with
    journal.openSince := none }

theorem exec_segmentSealTimeout (hbuilds : buildsRecords s = true) (hopen : openRecords s ≠ 0)
    (hbank : bankAccepts s = true) : exec .segmentSealTimeout s =
      .next (padSegment (4096 - openRecords s)
        (onAccepting (fun n t => countBy (cThatch n 4) (4096 - openRecords s) t) s)) :=
  if_neg (by simpa [openRecords, hbuilds, hbank] using hopen)

/-- A sealed segment as Finial signs it: it names the digest of the one before it, and its seal is stamped (R695). -/
def signedSegment (r q : BitVec 384) (g : Segment) (s : State) : Segment :=
  let g := { g with prev := if s.journal.head.segment + 1 = g.number then s.journal.head.segmentDigest else 0 }
  { g with signed := true, sealTally := tallyNat s, sigR := r, sigS := q, digest := sha256 (segmentBody g s) }

/-- What Finial retains of the chain once it has signed a segment (R691). -/
def headAt (g : Segment) (s : State) : ChainHead :=
  let last := (segmentRecords g.number s).getLast?
  { segment := g.number, segmentDigest := g.digest, record := (last.map Record.number).getD 0
    recordHash := (last.map fun x => sha256 (recordBytes x)).getD 0 }

theorem exec_segmentSignDone (r q : BitVec 384) {g : Segment} (hbooted : s.referee.booted = true)
    (hg : (s.journal.segments.find? fun x => !x.signed) = some g) : exec (.segmentSignDone r q) s =
      .next (storeSegment (signedSegment r q g s) { onAccepting (fun n t => count (cThatch n 2) t) s with
        journal.head := headAt (signedSegment r q g s) s }) := by
  simp only [exec, execSegmentSignDone, hbooted, hg, Bool.not_true, Bool.false_eq_true, if_false]
  rfl

/-! ### Banks (R700-R703, R709-R711) -/

section
variable {n : Nat}

theorem state_ne_absent_of_accepts {b : Bank} (h : b.accepts = true) : b.state ≠ .absent :=
  fun habsent => by simp [Bank.accepts, habsent] at h

theorem exec_bankFault (hpresent : (bank n s).state ≠ .absent) : exec (.bankFault n) s =
    if (bank n s).accepts = true then .next (bankOffline n (setBank n (fun b => { b with faulted := true }) s))
    else .next (setBank n (fun b => { b with faulted := true }) s) :=
  if_neg hpresent

theorem exec_bankResyncDone (hlive : waferLive s = true) (hresync : (bank n s).state = .resyncing) :
    exec (.bankResyncDone n) s = .next (settleJournal (resyncDone n s)) :=
  if_pos (by simp [hlive, hresync])

/-- The patrol reads a bank that is mounted and accepts; the freeze does not stop it. -/
theorem exec_thatchPatrol_clean (w : Nat) (hmounted : s.power.banksMounted = true) (hbank : (bank n s).accepts = true) :
    exec (.thatchPatrol n (.clean w)) s = .next (if param pRefreshBits (countBy (cThatch n 7) w s) < w
      then count (cThatch n 0x0C) (countBy (cThatch n 7) w s) else countBy (cThatch n 7) w s) :=
  if_neg (by simp [hmounted, hbank])

theorem exec_thatchPatrol_passComplete (hmounted : s.power.banksMounted = true) (hbank : (bank n s).accepts = true) :
    exec (.thatchPatrol n .passComplete) s = .next (count (cThatch n 0x0D) s) :=
  if_neg (by simp [hmounted, hbank])
end

/-! ### Exports and replays (R724, R732) -/

/-- Without compression, JOURNAL_EXPORT is answered with the whole image of its segment. -/
theorem exec_journalExportDone {o : Op} {n : Nat} {g : Segment} (hlive : waferLive s = true)
    (ho : (s.batten.ops.find? fun x => isExport x.kind) = some o) (hkind : o.kind = .journalExport n false)
    (hg : findSegment n s = some g) (hkept : g.lost = false)
    (hbank : s.journal.bankA.state = .primary ∨ s.journal.bankB.state = .primary) :
    exec .journalExportDone s = .next (settleJournal (finishOp o stOk 0 0 (le 8 n ++
      le 4 (segmentImage g s).length ++ le 1 0 ++ zs 3 ++ segmentImage g s) s)) := by
  have readable : (g.lost || !(s.journal.bankA.state = .primary || s.journal.bankB.state = .primary)) = false := by
    simpa [hkept, or_iff_not_imp_left] using hbank
  simp only [exec, execJournalExportDone, hlive, ho, hkind, hg, readable, Bool.not_true, Bool.false_eq_true, if_false]

/-- An aborted collective is NOT_REPLAYABLE, and a replay ends with its last collective. -/
theorem exec_replayCollectiveDone_aborted {r : Replay} {c : CollectiveRecord} {off len : Nat}
    (hlive : waferLive s = true) (hr : (s.journal.replays.find? fun x => x.state = 0) = some r)
    (hplan : r.plan = [(c, off, len)]) (habort : c.abortCause ≠ 0) : exec .replayCollectiveDone s =
      .next (endReplay r.id 1 { s with journal.replays := s.journal.replays.map fun x =>
        if x.id = r.id then { x with plan := [], outcomes := x.outcomes ++ [(c.collective, 2)] } else x }) := by
  simp only [exec, execReplayCollectiveDone, hlive, hr, hplan, if_pos habort, List.isEmpty_nil, Bool.true_or,
    Bool.not_true, Bool.false_eq_true, if_false, if_true]

/-! ### The halt of a Ledger journal (R721) -/

@[simp] theorem journalEvent_halted (event number : Nat) (s : State) :
    (journalEvent event number s).journal.halted = s.journal.halted :=
  journalWith_halted _ _ _ _

theorem isLedger_iff : isLedger s = true ↔ s.mode = .ledger := beq_iff_eq

theorem isLedger_eq_false_iff : isLedger s = false ↔ s.mode = .openMode := by
  cases h : s.mode <;> simp [isLedger, h]

theorem settleHalt_halts (hledger : isLedger s = true) (hruns : s.journal.halted = false) (hfull : 98 ≤ fill s) :
    settleHalt s = journalEvent 10 0 { s with journal.halted := true } :=
  if_pos (by simp [hledger, hruns, hfull])

theorem settleHalt_ends (hhalted : s.journal.halted = true) (hends : isLedger s = false ∨ fill s < 97) :
    settleHalt s = journalEvent 11 0 { s with journal.halted := false } :=
  (if_neg (by simp [hhalted])).trans (if_pos (by simpa [hhalted] using hends))

/-- Between 97 and 98 per cent a halt lasts, and one that has not begun does not begin. -/
theorem settleHalt_lasts (hledger : isLedger s = true) (hhalted : s.journal.halted = true) (hfill : 97 ≤ fill s) :
    settleHalt s = s :=
  (if_neg (by simp [hhalted])).trans (if_neg (by simpa [hledger] using fun _ => hfill))

theorem settleHalt_open (hopen : isLedger s = false) : (settleHalt s).journal.halted = false := by
  cases hhalted : s.journal.halted with
  | true => rw [settleHalt_ends hhalted (.inl hopen), journalEvent_halted]
  | false =>
    have same : settleHalt s = s := (if_neg (by simp [hopen])).trans (if_neg (by simp [hhalted]))
    rw [same, hhalted]
end

/-- Settles O29: each event is its own equation, the halt is split by mode, state and fill, and an event is journalled,
waits or is counted. -/
theorem journalEvents : Obligations.JournalEvents := by
  refine ⟨fun s => exec_recordDurable, fun s => exec_segmentSealTimeout, fun r q g s => exec_segmentSignDone r q,
    fun n s hbank => (exec_bankFault (state_ne_absent_of_accepts hbank)).trans (if_pos hbank),
    fun n s hbank hpresent => (exec_bankFault hpresent).trans (if_neg (ne_true_of_eq_false hbank)),
    fun n s => exec_bankResyncDone, ?patrol, fun o n g s => exec_journalExportDone,
    fun r c off len s => exec_replayCollectiveDone_aborted, ?halt, ?record⟩
  case patrol =>
    exact fun n s hmounted hbank =>
      ⟨fun w => exec_thatchPatrol_clean w hmounted hbank, exec_thatchPatrol_passComplete hmounted hbank⟩
  case halt =>
    refine fun s => ⟨fun hmode hruns hfull => ?_, fun hmode => settleHalt_lasts (isLedger_iff.mpr hmode),
      fun hhalted hfill => ?_, fun hmode => settleHalt_open (isLedger_eq_false_iff.mpr hmode)⟩
    · rw [settleHalt_halts (isLedger_iff.mpr hmode) hruns hfull, journalEvent_halted]
    · rw [settleHalt_ends hhalted (.inr hfill), journalEvent_halted]
  case record =>
    refine fun body builder extra s => ⟨journalWith_waits body builder extra, fun hbuilds hroom hplace => ?_⟩
    rw [journalWith_unjournalled hbuilds hroom body builder extra hplace]
    exact ⟨rfl, rfl⟩

end Sys2Proof.Machine
end

section
/-! Replays (Table 6.11, R72, R728-R734, Table 12.8): what a REPLAY_START checks and starts, and how a replay is read
and cancelled. -/

namespace Sys2Proof.Machine

section
variable {p : Packet} {s : State} {r : Region}

/-! ### The input of a replay (Table 12.8) -/

/-- The records of every image of a replay input. -/
def inputRecords (g : List Byte) : List (List Byte) := (replayImages g).flatMap imageRecords

/-- The certificate chain of a replay input. -/
def inputChain (g : List Byte) : List Byte := sub g 64 (field g 24 4)

/-- A region whose bytes `g` are a replay input that verifies, in which decision `d` has the region digests `ds` and
between 1 and 65,535 collectives. -/
structure InputVerifies (r : Region) (g : List Byte) (d : Nat) (ds : List Digest) : Prop where
  isSealed : r.kind = .isSealed
  header : replayHeaderGood g r.size d = true
  chain : Config.chainVerifies (inputChain g) = true
  images : imagesGood (inputChain g) none (replayImages g) = true
  digests : decisionDigests (inputRecords g) d = some ds
  nonempty : decisionCollectives (inputRecords g) d ≠ []
  few : (decisionCollectives (inputRecords g) d).length ≤ 65535

/-- The collectives that a REPLAY_START names: those of its decision in the input (R730). -/
def namedCollectives (p : Packet) (g : List Byte) : List (Nat × CollectiveRecord) :=
  decisionCollectives (inputRecords g) (field p.body 0 8)

/-- The first record of decision `d` whose arithmetic generation the running image does not list (R72). -/
def unlisted (g : List Byte) (d : Nat) (s : State) : Option (List Byte) :=
  ((inputRecords g).filter fun x => field x 0 1 = 1 && field x 88 8 = d).find? fun x => !listsGeneration (field x 5 1) s

theorem unlisted_eq_none {g : List Byte} {d : Nat}
    (h : ∀ x ∈ inputRecords g, field x 0 1 = 1 → field x 88 8 = d → listsGeneration (field x 5 1) s = true) :
    unlisted g d s = none := by
  simpa [unlisted, List.find?_eq_none] using h

/-! ### REPLAY_START -/

/-- The sealed region with a digest that the search meets first. -/
def sealedWith (s : State) (y : Digest) : Option Region :=
  s.loft.regions.find? fun q => q.kind = .isSealed && q.digest = y

theorem sealedWith_isSome {y : Digest} : (sealedWith s y).isSome = true ↔
    ∃ q ∈ s.loft.regions, q.kind = .isSealed ∧ q.digest = y := by
  simp [sealedWith]

/-- What a replay needs beyond its input: its decision's regions, data and yealms for each collective that it runs, no
halt, and no other replay in progress. -/
structure ReplayFits (p : Packet) (g : List Byte) (ds : List Digest) (s : State) : Prop where
  regions : ∀ y ∈ ds, ∃ q ∈ s.loft.regions, q.kind = .isSealed ∧ q.digest = y
  runnable : ∀ x ∈ namedCollectives p g, x.2.abortCause = 0 →
    (replayData g x).isSome = true ∧ replayYealms x.2 s ≠ []
  ledger : ledgerHalt s = none
  alone : ∀ x ∈ s.journal.replays, x.state ≠ 0

/-- The replay that a REPLAY_START describes. -/
def describedReplay (p : Packet) (g : List Byte) (ds : List Digest) (s : State) : Replay :=
  { id := s.journal.nextReplay, decision := field p.body 0 8, input := field p.body 8 4
    regions := ds.filterMap fun y => (sealedWith s y).map Region.handle
    plan := (namedCollectives p g).map fun x => (x.2, (replayData g x).getD (0, 0)), outcomes := [], state := 0 }

/-- The state once a replay has been admitted and its first collective has taken its yealms. -/
def replayStarted (p : Packet) (rep : Replay) (s : State) : State :=
  startReplayed rep.id (startOp (.replay rep.id) p 0x64 { s with journal := { s.journal with
    replays := s.journal.replays ++ [rep], nextReplay := rep.id + 1 } })

theorem replayStarted_nextReplay (rep : Replay) :
    (replayStarted p rep s).journal.nextReplay = rep.id + 1 := rfl

theorem replayStarted_replays_length (rep : Replay) :
    (replayStarted p rep s).journal.replays.length = s.journal.replays.length + 1 := by
  simp [replayStarted, startReplayed]

section
variable (hr : findRegion (field p.body 8 4) s = some r)
include hr

theorem replayStartRun_notSealed (hkind : r.kind ≠ .isSealed) :
    replayStartRun p s = (s, refuse stPrecond rNotSealed 0) := by
  simp only [replayStartRun, hr, if_pos hkind]

theorem replayStartRun_badHeader (hkind : r.kind = .isSealed)
    (hheader : replayHeaderGood (readLoft r.base r.size s) r.size (field p.body 0 8) = false) :
    replayStartRun p s = (s, refuse stRange rField 8) := by
  simp only [replayStartRun, hr, if_neg (not_not.mpr hkind), hheader, Bool.not_false, if_true]

/-- Past the checks of its input, a replay with a record of an unlisted generation is refused (R72). -/
theorem replayStartRun_unlisted {ds : List Digest} {x : List Byte}
    (hinput : InputVerifies r (readLoft r.base r.size s) (field p.body 0 8) ds)
    (hx : unlisted (readLoft r.base r.size s) (field p.body 0 8) s = some x) :
    replayStartRun p s = (s, refuse stPrecond rAg (field x 5 1)) := by
  obtain ⟨hkind, hheader, hchain, himages, hdigests, hnonempty, hfew⟩ := hinput
  simp only [inputChain, inputRecords, unlisted] at *
  simp only [replayStartRun, hr, hkind, hheader, hchain, himages, hdigests, hx, List.isEmpty_iff, hnonempty,
    Nat.not_lt.mpr hfew, ne_eq, not_true_eq_false, Bool.not_true, Bool.and_self, Bool.false_eq_true, if_false]

/-- A replay that passes every check is admitted (R730, R731). -/
theorem replayStartRun_starts {g : List Byte} {ds : List Digest} (hg : readLoft r.base r.size s = g)
    (hinput : InputVerifies r g (field p.body 0 8) ds) (hlisted : unlisted g (field p.body 0 8) s = none)
    (hfits : ReplayFits p g ds s) :
    replayStartRun p s = (replayStarted p (describedReplay p g ds s) s,
      .accept (le 4 s.journal.nextReplay ++ le 2 (namedCollectives p g).length ++ zs 2)) := by
  obtain ⟨hkind, hheader, hchain, himages, hdigests, hnonempty, hfew⟩ := hinput
  obtain ⟨hregions, hrunnable, hledger, halone⟩ := hfits
  have found : ((ds.map fun y => sealedWith s y).any Option.isNone) = false := by
    simpa [Option.isSome_iff_ne_none] using fun y hy => sealedWith_isSome.mpr (hregions y hy)
  have data : ((namedCollectives p g).any fun x => x.2.abortCause = 0 && (replayData g x).isNone) = false := by
    simpa [Option.isSome_iff_ne_none] using fun m c hx hrun => (hrunnable (m, c) hx hrun).1
  have yealms : ((namedCollectives p g).any fun x => x.2.abortCause = 0 && (replayYealms x.2 s).isEmpty) = false := by
    simpa using fun m c hx hrun => (hrunnable (m, c) hx hrun).2
  have alone : (s.journal.replays.filter fun x => x.state = 0) = [] := by simpa using halone
  subst hg
  simp only [namedCollectives, inputChain, inputRecords, unlisted, sealedWith] at *
  simp only [replayStartRun, hr, hkind, hheader, hchain, himages, hdigests, hlisted, found, data, hledger, alone,
    yealms, List.isEmpty_iff, hnonempty, Nat.not_lt.mpr hfew, ne_eq, not_true_eq_false, Bool.not_true, Bool.and_self,
    Bool.false_eq_true, if_false, List.length_nil, List.filterMap_map]
  rfl
end

/-! ### REPLAY_STATUS and REPLAY_CANCEL (R734) -/

theorem replayStatusRun_known {x : Replay} (h : (s.journal.replays.find? fun x => x.id = field p.body 0 4) = some x) :
    replayStatusRun p s = (s, ok (le 1 x.state ++ zs 1 ++ le 2 x.outcomes.length ++
      le 2 (x.outcomes.length + x.plan.length) ++ zs 2)) := by
  simp only [replayStatusRun, h]

theorem replayCancelRun_known (h : ∃ x ∈ s.journal.replays, x.id = field p.body 0 4) :
    replayCancelRun p s = (endReplay (field p.body 0 4) 2 s, ok []) :=
  if_pos (by simpa using h)

theorem replayCancelRun_unknown (h : ∀ x ∈ s.journal.replays, x.id ≠ field p.body 0 4) :
    replayCancelRun p s = (s, refuse stRange rNotFound 0) :=
  if_neg (by simpa using h)

end

/-! ### The commands -/

section
variable {p : Packet} {s : State}

theorem completes_replayStart {r : Region} {g : List Byte} {ds : List Digest}
    (h : accepted (.replayStart p) p s = true) (hr : findRegion (field p.body 8 4) (base (.replayStart p) p s) = some r)
    (hg : readLoft r.base r.size (base (.replayStart p) p s) = g) (hinput : InputVerifies r g (field p.body 0 8) ds)
    (hlisted : unlisted g (field p.body 0 8) (base (.replayStart p) p s) = none)
    (hfits : ReplayFits p g ds (base (.replayStart p) p s)) :
    Completes (.replayStart p) p s
      (replayStarted p (describedReplay p g ds (base (.replayStart p) p s)) (base (.replayStart p) p s))
      (.accept (le 4 (base (.replayStart p) p s).journal.nextReplay ++ le 2 (namedCollectives p g).length ++ zs 2))
      id :=
  completes_of_run rfl rfl h (replayStartRun_starts hr hg hinput hlisted hfits) rfl fun _ => rfl

theorem reads_replayStatus {r : Replay} (h : accepted (.replayStatus p) p s = true)
    (hr : ((base (.replayStatus p) p s).journal.replays.find? fun x => x.id = field p.body 0 4) = some r) :
    Reads (.replayStatus p) p s (ok (le 1 r.state ++ zs 1 ++ le 2 r.outcomes.length ++
      le 2 (r.outcomes.length + r.plan.length) ++ zs 2)) :=
  completes_of_run rfl rfl h (replayStatusRun_known hr) rfl fun _ => rfl

theorem completes_replayCancel (h : accepted (.replayCancel p) p s = true)
    (hknown : ∃ x ∈ (base (.replayCancel p) p s).journal.replays, x.id = field p.body 0 4) :
    Completes (.replayCancel p) p s (endReplay (field p.body 0 4) 2 (base (.replayCancel p) p s)) (ok []) id :=
  completes_of_run rfl rfl h (replayCancelRun_known hknown) rfl fun _ => rfl
end

/-- Settles O28: a REPLAY_START is refused at the first check that it fails, and one that passes them all is started. -/
theorem replayCommands : Obligations.ReplayCommands := by
  refine ⟨?start, fun p s r => reads_replayStatus, ?cancel⟩
  case start =>
    intro p s r h c b d g chain rs cs hr
    refine ⟨fun hkind => ?unsealed, fun hkind hheader => ?header, ?unlisted, ?starts⟩
    case unsealed => exact refuses_of_run rfl rfl h (replayStartRun_notSealed hr hkind) rfl
    case header => exact refuses_of_run rfl rfl h (replayStartRun_badHeader hr hkind hheader) rfl
    case unlisted =>
      intro ds x hkind hheader hchain himages hdigests hnonempty hfew hx
      have verifies : InputVerifies r g d ds := ⟨hkind, hheader, hchain, himages, hdigests, hnonempty, hfew⟩
      exact refuses_of_run rfl rfl h (replayStartRun_unlisted hr verifies hx) rfl
    case starts =>
      intro ds hkind hheader hchain himages hdigests hnonempty hfew hlisted hregions hrunnable hledger halone
      exact completes_replayStart h hr rfl ⟨hkind, hheader, hchain, himages, hdigests, hnonempty, hfew⟩
        (unlisted_eq_none hlisted) ⟨hregions, hrunnable, hledger, halone⟩
  case cancel =>
    exact fun p s h => ⟨completes_replayCancel h,
      fun hunknown => refuses_of_run rfl rfl h (replayCancelRun_unknown hunknown) rfl⟩

end Sys2Proof.Machine
end

section
/-! The journal's commands (Table 6.11, R361, R362, R701, R721, R724, R726, R730, R734): what each one answers and
changes. -/

namespace Sys2Proof.Machine

section
variable {p : Packet} {s : State}

/-! ### JOURNAL_EXPORT and JOURNAL_ACK (R724, R726) -/

/-- A JOURNAL_EXPORT that names a segment is taken up while its originator has fewer than 16 outstanding. -/
theorem journalExportRun_target {n : Nat} (h : exportTarget (field p.body 0 8) s = .inl n) : journalExportRun p s =
    if 16 ≤ (s.batten.ops.filter fun o => isExport o.kind && o.originator = p.originator).length then
      (s, refuse stBusy rOutstanding 0)
    else (startOp (.journalExport n (decide (field p.body 8 1 = 1))) p 0x61 s, .accept []) := by
  simp only [journalExportRun, h]

/-- The state once a segment has been acknowledged and its CONTROL record journalled (R726). -/
def acknowledged (g : Segment) (p : Packet) (s : State) : State :=
  let t := onAccepting (fun n t => count (cThatch n 3) t) (storeSegment { g with acked := true } s)
  settleJournal (journalWafer (.control 6 4 0 0 0 (tallyNat t) g.number p.originator.toNat (fill t)
    (sha256 (segmentImage g s)) (sha256 (p.body.drop 48))) t)

/-- A signed segment is acknowledged by the digest of its image alone. -/
theorem journalAckRun_signed {g : Segment} (hg : findSegment (field p.body 0 8) s = some g) (hsigned : g.signed = true)
    (hnew : g.acked = false) : journalAckRun p s =
      if digestOf (sub p.body 8 32) ≠ sha256 (segmentImage g s) then (s, refuse stPrecond rDigest 0)
      else (acknowledged g p s, ok []) := by
  simp only [journalAckRun, hg, hsigned, hnew, Bool.not_true, Bool.false_eq_true, if_false, acknowledged]

/-! ### JOURNAL_MARK (R361, R721, R722) -/

theorem journalMarkRun_halted {d : Nat} (h : ledgerHalt s = some d) :
    journalMarkRun p s = (s, refuse stLedgerHalt d 0) := by
  simp only [journalMarkRun, h]

/-- Where the journal accepts, a mark is journalled, except in Open mode with no place for it. -/
theorem journalMarkRun_accepting (h : ledgerHalt s = none) : journalMarkRun p s =
    if isLedger s = false ∧ (bankAccepts s = false ∨ unjournalled s = true) then (countUnjournalled s, ok (le 8 0))
    else (journalCommand p (.mark 0 (field p.body 0 8) p.originator.toNat (sub p.body 8 32) (tallyNat s)
      (tallyNat s)) s, ok (le 8 (s.journal.next + s.journal.frozenNotes.length))) := by
  simp only [journalMarkRun, h, Bool.and_eq_true, Bool.or_eq_true, Bool.not_eq_true']

/-! ### BANK_SET (R362, R701, R740) -/

/-- In Ledger mode the last bank that accepts is not taken OFFLINE. -/
theorem bankSetRun_eq (p : Packet) (s : State) : bankSetRun p s =
    if field p.body 0 1 = 0 ∧ isLedger s = true ∧ (bank p.inst.toNat s).accepts = true ∧
      (bank (1 - p.inst.toNat) s).accepts = false then (s, refuse stPrecond rLastBank 0)
    else (startOp (.bankOnline p.inst.toNat) p 0x69 s, .accept []) :=
  if_congr (by simp [and_assoc]) rfl rfl
end

/-- Settles O27: each command answers by the checks that it passes, and a replay is started, read and cancelled as the
commands of replays do. -/
theorem journalCommands : Obligations.JournalCommands := by
  refine ⟨fun p s h => completes_of_run rfl rfl h rfl rfl fun _ => rfl, ?exports, ?ack, ?mark, ?bankSet, ?start,
    ?status, ?cancel⟩
  case exports =>
    intro p s n h c b mine htarget
    refine ⟨fun hfew => ?_, fun hmany => ?_⟩
    · exact completes_of_run rfl rfl h ((journalExportRun_target htarget).trans (if_neg (Nat.not_le.mpr hfew))) rfl
        fun _ => rfl
    · exact refuses_of_run rfl rfl h ((journalExportRun_target htarget).trans (if_pos hmany)) rfl
  case ack =>
    intro p s g h c b d hg hsigned _ hnew
    refine ⟨fun hother => ?_, fun hsame => ?_⟩
    · exact refuses_of_run rfl rfl h ((journalAckRun_signed hg hsigned hnew).trans (if_pos hother)) rfl
    · exact completes_of_run rfl rfl h ((journalAckRun_signed hg hsigned hnew).trans (if_neg (not_not.mpr hsame))) rfl
        fun _ => rfl
  case mark =>
    intro p s h c b
    refine ⟨fun d hhalt => ?_, fun hruns hplace => ?_, fun hopen hfull => ?_⟩
    · exact refuses_of_run rfl rfl h (journalMarkRun_halted hhalt) rfl
    · have room : ¬(isLedger b = false ∧ (bankAccepts b = false ∨ unjournalled b = true)) := by
        rintro ⟨hopen, hfull⟩
        rcases hplace with hledger | ⟨haccepts, hjournalled⟩
        · rw [isLedger_iff.mpr hledger] at hopen
          cases hopen
        · simp [haccepts, hjournalled] at hfull
      exact completes_of_run rfl rfl h ((journalMarkRun_accepting hruns).trans (if_neg room)) rfl fun _ => rfl
    · have hruns : ledgerHalt b = none := if_pos (by rw [isLedger_eq_false_iff.mpr hopen]; rfl)
      exact completes_of_run rfl rfl h ((journalMarkRun_accepting hruns).trans
        (if_pos ⟨isLedger_eq_false_iff.mpr hopen, hfull⟩)) rfl fun _ => rfl
  case bankSet =>
    intro p s h c b n last
    have isLast : last ↔ field p.body 0 1 = 0 ∧ isLedger b = true ∧ (bank n b).accepts = true ∧
      (bank (1 - n) b).accepts = false := by rw [isLedger_iff]
    refine ⟨fun hlast => ?_, fun hother => ?_⟩
    · exact refuses_of_run rfl rfl h ((bankSetRun_eq p b).trans (if_pos (isLast.mp hlast))) rfl
    · exact completes_of_run rfl rfl h ((bankSetRun_eq p b).trans (if_neg (mt isLast.mpr hother))) rfl fun _ => rfl
  case start =>
    intro p s r ds h c b d g rs cs hr hkind hheader hchain himages hdigests hnonempty hfew hlisted hregions hrunnable
      hledger halone
    have completes := completes_replayStart h hr rfl ⟨hkind, hheader, hchain, himages, hdigests, hnonempty, hfew⟩
      (unlisted_eq_none hlisted) ⟨hregions, hrunnable, hledger, halone⟩
    exact ⟨runs_of_completes completes, _, completes, replayStarted_nextReplay _, replayStarted_replays_length _⟩
  case status =>
    intro p s r h b hr
    exact ⟨runs_of_completes (reads_replayStatus h hr), reads_replayStatus h hr⟩
  case cancel =>
    intro p s h b hknown
    exact ⟨runs_of_completes (completes_replayCancel h hknown), completes_replayCancel h hknown⟩

end Sys2Proof.Machine
end

section
/-! The block as a whole: a step runs the command at the front of the queue, and every command goes on. -/

namespace Sys2Proof.Machine

theorem step_idle {s : State} (h : s.pending = []) : step s = .next (idleTick s) := by
  simp [step, h]

theorem step_front {c : Instr} {rest : List Instr} {s : State} (h : s.pending = c :: rest) :
    step s = exec c { s with pending := rest } := by
  simp [step, h]

/-- An outcome that keeps the identity is a next state. -/
theorem runs_of_fixedNext {o : Host.Outcome State Fault Refusal} {x : Identity × List Instr}
    (h : fixedNext o = some x) : Runs o := by
  cases o with
  | next t => exact ⟨t, rfl⟩
  | fault r => nomatch h
  | refused r => nomatch h

theorem runs_exec (c : Instr) (s : State) : Runs (exec c s) := runs_of_fixedNext (fixedNext_exec c s)

/-- Settles O53: the queue decides which of its two arms a step takes. -/
theorem stepRunsTheFrontCommand : Obligations.StepRunsTheFrontCommand :=
  ⟨fun _ _ => step_front rfl, fun _ _ _ h => step_front h, fun _ h => step_idle h⟩

/-- Settles O57: every command's outcome holds the identity of a next state, and a step is a tick or a command. -/
theorem theBlockGoesOn : Obligations.TheBlockGoesOn := by
  refine ⟨runs_exec, fun s => ?_⟩
  cases hq : s.pending with
  | nil => exact ⟨_, step_idle hq⟩
  | cons c rest => exact step_front hq ▸ runs_exec c _

end Sys2Proof.Machine
end

section
/-! The frame of the events of ports, outputs and the journal: a state without what these events change, and the
operations that leave it. -/

namespace Sys2Proof.Machine

/-- A state without what the receivers' events change and, with `wide`, without what any event of the ports, the outputs
and the journal changes. -/
def still (wide : Bool) (s : State) : State :=
  { s with
    ports := [], sites := [], switch := {}, counters := {}, freezeUnit := {}, out := []
    batten := if wide then {} else s.batten
    reduction := if wide then {} else s.reduction
    journal := if wide then {} else s.journal
    tally.lastPtpNs := if wide then 0 else s.tally.lastPtpNs }

@[simp] theorem still_update (w : Bool) (s : State) (counters ports sites switch freezeUnit out) :
    still w { s with
      counters := counters, ports := ports, sites := sites, switch := switch, freezeUnit := freezeUnit
      out := out } = still w s := (rfl)

@[simp] theorem still_update_wide (s : State)
    (batten counters ports sites switch reduction journal freezeUnit out) :
    still true { s with
      batten := batten, counters := counters, ports := ports, sites := sites, switch := switch, reduction := reduction
      journal := journal, freezeUnit := freezeUnit, out := out } = still true s := (rfl)

theorem eq_of_still_wide {s t : State} (h : still true t = still true s) : t = { s with
    batten := t.batten, counters := t.counters, ports := t.ports, sites := t.sites, switch := t.switch
    reduction := t.reduction, journal := t.journal, freezeUnit := t.freezeUnit, out := t.out
    tally.lastPtpNs := t.tally.lastPtpNs } :=
  congrArg (fun u : State => { u with
    batten := t.batten, counters := t.counters, ports := t.ports, sites := t.sites, switch := t.switch
    reduction := t.reduction, journal := t.journal, freezeUnit := t.freezeUnit, out := t.out
    tally.lastPtpNs := t.tally.lastPtpNs }) h

theorem eq_of_still_narrow {s t : State} (h : still false t = still false s) : t = { s with
    ports := t.ports, sites := t.sites, switch := t.switch, counters := t.counters, freezeUnit := t.freezeUnit
    out := t.out } :=
  congrArg (fun u : State => { u with
    ports := t.ports, sites := t.sites, switch := t.switch, counters := t.counters, freezeUnit := t.freezeUnit
    out := t.out, tally.lastPtpNs := u.tally.lastPtpNs }) h

@[simp] theorem still_ite (w : Bool) (c : Prop) [Decidable c] (s t : State) :
    still w (if c then s else t) = if c then still w s else still w t := apply_ite (still w) c s t

@[simp] theorem still_foldl (w : Bool) {α : Type} {f : State → α → State}
    (h : ∀ u x, still w (f u x) = still w u) (xs : List α) (s : State) :
    still w (xs.foldl f s) = still w s := by
  induction xs generalizing s with
  | nil => rfl
  | cons x xs ih => exact (ih _).trans (h s x)

@[simp] theorem still_fst_ite (w : Bool) {α : Type} (c : Prop) [Decidable c] (a b : State × α) :
    still w (if c then a else b).1 = if c then still w a.1 else still w b.1 := apply_ite (fun x => still w x.1) c a b

/-! ### State and shared operations -/

@[simp] theorem still_emit (w : Bool) (o : Out) (s : State) : still w (emit o s) = still w s := (rfl)

@[simp] theorem still_countBy (w : Bool) (id n : Nat) (s : State) : still w (countBy id n s) = still w s := (rfl)

@[simp] theorem still_count (w : Bool) (id : Nat) (s : State) : still w (count id s) = still w s := (rfl)

@[simp] theorem still_setPort (w : Bool) (p : Nat) (f : Port → Port) (s : State) :
    still w (setPort p f s) = still w s := (rfl)

@[simp] theorem still_setSite (w : Bool) (n : Nat) (f : Site → Site) (s : State) :
    still w (setSite n f s) = still w s := (rfl)

@[simp] theorem still_portTo (w : Bool) (p : Nat) (st : PortState) (cause : Nat) (s : State) :
    still w (portTo p st cause s) = still w s := (rfl)

@[simp] theorem still_setBank (n : Nat) (f : Bank → Bank) (s : State) :
    still true (setBank n f s) = still true s := by
  simp [setBank]

@[simp] theorem still_trigger (w : Bool) (code collective classes : Nat) (s : State) :
    still w (trigger code collective classes s) = still w s := by simp [trigger]

@[simp] theorem still_errorClass (w : Bool) (cls : Nat) (s : State) :
    still w (errorClass cls s) = still w s := by simp [errorClass]

@[simp] theorem still_forEach (w : Bool) {f : Nat → State → State}
    (h : ∀ n u, still w (f n u) = still w u) (xs : List Nat) (s : State) :
    still w (forEach xs f s) = still w s := still_foldl w (fun u n => h n u) xs s

/-! ### Records -/

@[simp] theorem still_noteNumber (body : RecordBody) (n : Nat) (s : State) :
    still true (noteNumber body n s) = still true s := by
  unfold noteNumber
  split <;> simp

@[simp] theorem still_buildRecord (body : RecordBody) (builder extra : Nat) (s : State) :
    still true (buildRecord body builder extra s) = still true s := by
  simp only [buildRecord, still_noteNumber]
  split <;> rfl

@[simp] theorem still_countUnjournalled (s : State) : still true (countUnjournalled s) = still true s := (rfl)

@[simp] theorem still_countHeld (s : State) : still true (countHeld s) = still true s := by simp [countHeld]

@[simp] theorem still_journalWith (body : RecordBody) (builder extra : Nat) (s : State) :
    still true (journalWith body builder extra s) = still true s := by simp [journalWith]

@[simp] theorem still_journalWafer (body : RecordBody) (s : State) :
    still true (journalWafer body s) = still true s := by
  simp [journalWafer]

@[simp] theorem still_flushNotes (s : State) : still true (flushNotes s) = still true s := by simp [flushNotes]

@[simp] theorem still_settleBuilding (s : State) :
    still true (settleBuilding s) = still true s := by simp [settleBuilding]

@[simp] theorem still_journalBank (n : Nat) (old new : BankState) (s : State) :
    still true (journalBank n old new s) = still true s := by simp [journalBank]

/-! ### Frames, credits and shingles -/

@[simp] theorem still_returnCredits (w : Bool) (p cls k : Nat) (s : State) :
    still w (returnCredits p cls k s) = still w s := by
  simp [returnCredits]

@[simp] theorem still_sendCredit (w : Bool) (p : Nat) (s : State) : still w (sendCredit p s) = still w s := (rfl)

@[simp] theorem still_takeShingles (w : Bool) (n k : Nat) (s : State) :
    still w (takeShingles n k s) = still w s := (rfl)

@[simp] theorem still_freeShingles (n k : Nat) (s : State) : still true (freeShingles n k s) = still true s := (rfl)

@[simp] theorem still_flyShingles (n k : Nat) (s : State) : still true (flyShingles n k s) = still true s := (rfl)

@[simp] theorem still_landShingles (w : Bool) (n k : Nat) (s : State) :
    still w (landShingles n k s) = still w s := (rfl)

@[simp] theorem still_enqueue (w : Bool) (f : QFrame) (s : State) : still w (enqueue f s) = still w s := (rfl)

@[simp] theorem still_takeOut (f : QFrame) (s : State) : still true (takeOut f s) = still true s := by
  unfold takeOut
  split <;> simp

@[simp] theorem still_unqueue (f : QFrame) (s : State) : still true (unqueue f s) = still true s := by simp [unqueue]

@[simp] theorem still_gutter (n input output cls : Nat) (s : State) :
    still true (gutter n input output cls s) = still true s := by
  simp [gutter]

@[simp] theorem still_sever (input output cls cause endpoint tag n : Nat) (s : State) :
    still true (sever input output cls cause endpoint tag n s) = still true s := by simp [sever]

@[simp] theorem still_flushOne (cause : Nat) (f : QFrame) (s : State) :
    still true (flushOne cause f s) = still true s := by
  unfold flushOne
  split <;> simp

@[simp] theorem still_severAll (cause : Nat) (fs : List QFrame) (s : State) :
    still true (severAll cause fs s) = still true s :=
  still_foldl true (fun t x => by dsimp only; split <;> simp) _ s

@[simp] theorem still_landFrame (w : Bool) (f : QFrame) (s : State) :
    still w (landFrame f s) = still w s := by simp [landFrame]

@[simp] theorem still_landPort (p : Nat) (s : State) : still true (landPort p s) = still true s := by
  unfold landPort
  split <;> simp

@[simp] theorem still_cutOne (f : QFrame) (s : State) : still true (cutOne f s) = still true s := by
  unfold cutOne
  split <;> simp

@[simp] theorem still_flush (which : QFrame → Bool) (cut : List QFrame) (mode cause p : Nat) (s : State) :
    still true (flush which cut mode cause p s) = still true s := by simp [flush]

@[simp] theorem still_sendTray (f : QFrame) (s : State) : still true (sendTray f s) = still true s := by simp [sendTray]

@[simp] theorem still_dormerCopy (w : Bool) (n p at_ : Nat) (egress : Bool) (h : FrameHeader) (payload : List Byte)
    (s : State) :
    
    still w (dormerCopy n p at_ egress h payload s) = still w s := by simp [dormerCopy]

@[simp] theorem still_dormers (w : Bool) (p : Nat) (egress : Bool) (h : FrameHeader) (payload : List Byte) (s : State) :
    still w (dormers p egress h payload s) = still w s := by simp [dormers]

@[simp] theorem still_skylightSample (w : Bool) (p at_ : Nat) (h : FrameHeader) (payload : List Byte) (s : State) :
    still w (skylightSample p at_ h payload s) = still w s := by simp [skylightSample]

@[simp] theorem still_skylight (w : Bool) (p : Nat) (h : FrameHeader) (payload : List Byte) (s : State) :
    still w (skylight p h payload s) = still w s := by simp [skylight]

@[simp] theorem still_useCredits (w : Bool) (p cls k : Nat) (s : State) :
    still w (useCredits p cls k s) = still w s := by
  simp [useCredits]

@[simp] theorem still_admitFrame (w : Bool) (p : Nat) (f : RxFrame) (s : State) :
    still w (admitFrame p f s) = still w s := by
  simp [admitFrame]

@[simp] theorem still_stompCut (w : Bool) (p out : Nat) (s : State) : still w (stompCut p out s) = still w s := by
  simp only [stompCut]
  repeat' split
  all_goals simp

@[simp] theorem still_dropOpen (w : Bool) (p : Nat) (o : OpenFrame) (s : State) :
    still w (dropOpen p o s) = still w s := by
  unfold dropOpen
  repeat' split
  all_goals simp

@[simp] theorem still_discardOpen (w : Bool) (p : Nat) (s : State) : still w (discardOpen p s) = still w s := by
  unfold discardOpen
  split <;> simp

@[simp] theorem still_discardParked (w : Bool) (p : Nat) (s : State) : still w (discardParked p s) = still w s := by
  unfold discardParked
  split <;> simp

@[simp] theorem still_dropReception (p : Nat) (s : State) : still true (dropReception p s) = still true s := by
  simp [dropReception]

@[simp] theorem still_setWindow (o : Nat) (w : Window) (s : State) :
    still true (setWindow o w s) = still true s := (rfl)

@[simp] theorem still_keep (o seq : Nat) (r : Reply) (final : Bool) (s : State) :
    still true (keep o seq r final s) = still true s := by
  unfold keep
  split <;> simp

@[simp] theorem still_sendReply (path : Path) (r : Reply) (s : State) :
    still true (sendReply path r s) = still true s := by
  cases path <;> simp [sendReply]

@[simp] theorem still_finishOp (op : Op) (status reason arg : Nat) (payload : List Byte) (s : State) :
    still true (finishOp op status reason arg payload s) = still true s := by simp [finishOp]

@[simp] theorem still_finishAll (kind : OpKind → Bool) (status reason arg : Nat) (payload : List Byte) (s : State) :
    still true (finishAll kind status reason arg payload s) = still true s := by simp [finishAll]

@[simp] theorem still_finishFirst (kind : OpKind → Bool) (status reason arg : Nat) (payload others : List Byte)
    (s : State) :
    still true (finishFirst kind status reason arg payload others s) = still true s := by
  unfold finishFirst
  split <;> simp

@[simp] theorem still_storeCollective (c : Collective) (s : State) :
    still true (storeCollective c s) = still true s := (rfl)

@[simp] theorem still_journalCollective (c : Collective) (s : State) :
    still true (journalCollective c s) = still true s := by
  simp [journalCollective]

@[simp] theorem still_retire (c : Collective) (s : State) : still true (retire c s) = still true s := (rfl)

@[simp] theorem still_settleReeds (s : State) : still true (settleReeds s) = still true s := by simp [settleReeds]

@[simp] theorem still_settleLending (s : State) : still true (settleLending s) = still true s := by simp [settleLending]

@[simp] theorem still_engineWork (n e bytes : Nat) (s : State) :
    still true (engineWork n e bytes s) = still true s := (rfl)

@[simp] theorem still_finishRelease (c : Collective) (s : State) : still true (finishRelease c s) = still true s := by
  simp [finishRelease]

@[simp] theorem still_settleCollective (id : Nat) (s : State) : still true (settleCollective id s) = still true s := by
  unfold settleCollective
  split <;> simp

@[simp] theorem still_settleResults (s : State) : still true (settleResults s) = still true s := by simp [settleResults]

@[simp] theorem still_settlePortUp (p : Nat) (s : State) :
    still true (settlePortUp p s) = still true s := by simp [settlePortUp]

@[simp] theorem still_adaptFailed (p : Nat) (s : State) :
    still true (adaptFailed p s) = still true s := by simp [adaptFailed]

@[simp] theorem still_adaptAborted (p : Nat) (s : State) :
    still true (adaptAborted p s) = still true s := by simp [adaptAborted]

@[simp] theorem still_adaptDone (p : Nat) (s : State) : still true (adaptDone p s) = still true s := by simp [adaptDone]

@[simp] theorem still_flushPort (p mode cause : Nat) (s : State) :
    still true (flushPort p mode cause s) = still true s := by
  simp [flushPort]

@[simp] theorem still_portOff (p cause : Nat) (s : State) : still true (portOff p cause s) = still true s := (rfl)

@[simp] theorem still_portDisabled (p n sv : Nat) (s : State) : still true (portDisabled p n sv s) = still true s := by
  simp [portDisabled]

@[simp] theorem still_stopPort (p : Nat) (st : PortState) (mode flushCause cause : Nat) (s : State) :
    still true (stopPort p st mode flushCause cause s) = still true s := by simp [stopPort]

@[simp] theorem still_portFlushed (p mode cause : Nat) (s : State) :
    still true (portFlushed p mode cause s) = still true s := by
  simp [portFlushed]

@[simp] theorem still_startTraining (w : Bool) (p cause : Nat) (s : State) :
    still w (startTraining p cause s) = still w s := (rfl)

@[simp] theorem still_retrain (p cause : Nat) (s : State) : still true (retrain p cause s) = still true s := by
  unfold retrain
  split <;> simp

@[simp] theorem still_linkLost (p cause : Nat) (s : State) :
    still true (linkLost p cause s) = still true s := by simp [linkLost]

@[simp] theorem still_enterUp (p : Nat) (s : State) : still true (enterUp p s) = still true s := by simp [enterUp]

@[simp] theorem still_enterWaiting (p : Nat) (s : State) : still true (enterWaiting p s) = still true s := by
  simp only [enterWaiting]
  repeat' split
  all_goals simp

@[simp] theorem still_enterMiswired (p cause : Nat) (s : State) :
    still true (enterMiswired p cause s) = still true s := by
  simp [enterMiswired]

@[simp] theorem still_planCheck (p : Nat) (b : IdentityBlock) (s : State) :
    still true (planCheck p b s) = still true s := by
  unfold planCheck
  split <;> simp

@[simp] theorem still_enterIdentity (p : Nat) (s : State) : still true (enterIdentity p s) = still true s := by
  simp [enterIdentity]

@[simp] theorem still_startDrain (w : Bool) (p : Nat) (s : State) :
    still w (startDrain p s) = still w s := by simp [startDrain]

@[simp] theorem still_storeSegment (g : Segment) (s : State) : still true (storeSegment g s) = still true s := (rfl)

@[simp] theorem still_journalEvent (event number : Nat) (s : State) :
    still true (journalEvent event number s) = still true s := by
  simp [journalEvent]

@[simp] theorem still_settleWarning (s : State) : still true (settleWarning s) = still true s := by simp [settleWarning]

@[simp] theorem still_settleHalt (s : State) : still true (settleHalt s) = still true s := by simp [settleHalt]

@[simp] theorem still_settleUnjournalled (s : State) : still true (settleUnjournalled s) = still true s := by
  simp [settleUnjournalled]

@[simp] theorem still_reclaimOldest (s : State) : still true (reclaimOldest s) = still true s := by
  unfold reclaimOldest
  repeat' split
  all_goals simp

@[simp] theorem still_settleJournal (s : State) : still true (settleJournal s) = still true s := by simp [settleJournal]

@[simp] theorem still_bankTo (n : Nat) (st : BankState) (s : State) : still true (bankTo n st s) = still true s := by
  simp [bankTo]

@[simp] theorem still_bankOffline (n : Nat) (s : State) :
    still true (bankOffline n s) = still true s := by simp [bankOffline]

@[simp] theorem still_setLevel (id v : Nat) (s : State) : still true (setLevel id v s) = still true s := (rfl)

@[simp] theorem still_retireBlock (n : Nat) (s : State) :
    still true (retireBlock n s) = still true s := by simp [retireBlock]

@[simp] theorem still_setRing (n : Nat) (f : Ring → Ring) (s : State) :
    still true (setRing n f s) = still true s := by
  simp [setRing]

@[simp] theorem still_leaveBlock (n : Nat) (s : State) :
    still true (leaveBlock n s) = still true s := by simp [leaveBlock]

@[simp] theorem still_nextPage (n : Nat) (s : State) : still true (nextPage n s) = still true s := by simp [nextPage]

@[simp] theorem still_programRecord (n number : Nat) (s : State) :
    still true (programRecord n number s) = still true s := by
  simp [programRecord]

@[simp] theorem still_onAccepting {f : Nat → State → State} (h : ∀ n u, still true (f n u) = still true u)
    (s : State) :
    still true (onAccepting f s) = still true s := by
  simp [onAccepting, h]

@[simp] theorem still_dropFull (s : State) : still true (dropFull s) = still true s := by simp [dropFull]

@[simp] theorem still_takeDurable (r : Record) (s : State) : still true (takeDurable r s) = still true s := (rfl)

@[simp] theorem still_makeDurable (s : State) : still true (makeDurable s) = still true s := by
  unfold makeDurable
  split <;> simp

@[simp] theorem still_resyncDone (n : Nat) (s : State) :
    still true (resyncDone n s) = still true s := by simp [resyncDone]

@[simp] theorem still_depart (p : Nat) (f : QFrame) (ds : List Nat) (turn : Nat) (s : State) :
    still true (depart p f ds turn s) = still true s := by
  simp only [depart]
  repeat' split
  all_goals simp

@[simp] theorem still_completeSend (p : Nat) (f : QFrame) (s : State) :
    still true (completeSend p f s) = still true s := by
  simp [completeSend]

@[simp] theorem still_sendFrame (p : Nat) (f : QFrame) (ds : List Nat) (turn : Nat) (s : State) :
    still true (sendFrame p f ds turn s) = still true s := by simp [sendFrame]

@[simp] theorem still_grant (p : Nat) (s : State) : still true (grant p s) = still true s := by
  unfold grant
  repeat' split
  all_goals simp

@[simp] theorem still_sendLstate (w : Bool) (p request round : Nat) (s : State) :
    still w (sendLstate p request round s) = still w s :=
  (rfl)

@[simp] theorem still_refreshHold (w : Bool) (p : Nat) (s : State) : still w (refreshHold p s) = still w s := (rfl)

@[simp] theorem still_tryTrain (w : Bool) (p : Nat) (s : State) :
    still w (tryTrain p s) = still w s := by simp [tryTrain]

@[simp] theorem still_trainingFailed (p : Nat) (s : State) : still true (trainingFailed p s) = still true s := by
  simp [trainingFailed]

@[simp] theorem still_identityKnown (p : Nat) (b : IdentityBlock) (s : State) :
    still true (identityKnown p b s) = still true s := by
  simp only [identityKnown]
  repeat' split
  all_goals simp

@[simp] theorem still_adaptDrain (w : Bool) (p : Nat) (s : State) :
    still w (adaptDrain p s) = still w s := by simp [adaptDrain]

@[simp] theorem still_takeGrant (w : Bool) (p cls grant : Nat) (s : State) :
    still w (takeGrant p cls grant s) = still w s := by
  simp [takeGrant]

@[simp] theorem still_sendAlign (p : Nat) (s : State) : still true (sendAlign p s) = still true s := by simp [sendAlign]

@[simp] theorem still_markLost (p lane : Nat) (s : State) : still true (markLost p lane s) = still true s := (rfl)

@[simp] theorem still_preempted (w : Bool) (p : Nat) (f : OpenFrame) (s : State) :
    still w (preempted p f s).2 = still w s := by
  unfold preempted
  split <;> simp

@[simp] theorem still_selectApplication (w : Bool) (p : Nat) (offers : Bool) (s : State) :
    still w (selectApplication p offers s) = still w s := by simp [selectApplication]

/-! ### The meanings of the events -/

/-- What is left of the state that an outcome goes on to. -/
def stillNext (w : Bool) : Host.Outcome State Fault Refusal → Option State
  | .next t => some (still w t)
  | _ => none

@[simp] theorem stillNext_next (w : Bool) (t : State) : stillNext w (.next t) = some (still w t) := (rfl)

@[simp] theorem stillNext_ite (w : Bool) (c : Prop) [Decidable c] (o q : Host.Outcome State Fault Refusal) :
    stillNext w (if c then o else q) = if c then stillNext w o else stillNext w q := apply_ite (stillNext w) c o q

@[simp] theorem stillNext_execSegmentSignDone (r s_ : BitVec 384) (s : State) :
    stillNext true (execSegmentSignDone r s_ s) = some (still true s) := by
  unfold execSegmentSignDone
  repeat' split
  all_goals simp

@[simp] theorem stillNext_execThatchPatrol (bank_ : Nat) (read : NandRead) (s : State) :
    stillNext true (execThatchPatrol bank_ read s) = some (still true s) := by
  simp only [execThatchPatrol]
  repeat' split
  all_goals simp

@[simp] theorem stillNext_execJournalExportDone (s : State) :
    stillNext true (execJournalExportDone s) = some (still true s) := by
  unfold execJournalExportDone
  repeat' split
  all_goals simp

@[simp] theorem stillNext_execFrameResume (port : Nat) (s : State) :
    stillNext true (execFrameResume port s) = some (still true s) := by
  unfold execFrameResume
  split <;> simp

@[simp] theorem stillNext_execContBlock (w : Bool) (port : Nat) (count_ : BitVec 2) (cls : Byte) (s : State) :
    stillNext w (execContBlock port count_ cls s) = some (still w s) := by
  simp only [execContBlock]
  repeat' split
  all_goals simp

@[simp] theorem stillNext_execSegmentSealTimeout (s : State) :
    stillNext true (execSegmentSealTimeout s) = some (still true s) := by
  simp only [execSegmentSealTimeout, stillNext_ite, stillNext_next]
  split
  · rfl
  · refine congrArg some ((still_update_wide ..).trans ?_)
    simp

/-! ### The two families -/

theorem stillNext_exec_receiver (w : Bool) {c : Instr} (h : receiverEvent c = true) (s : State) :
    stillNext w (exec c s) = some (still w s) := by
  unfold receiverEvent at h
  split at h
  case h_13 => exact absurd h Bool.false_ne_true
  all_goals simp [exec, execIdentitySend, execLstateBlock, execLstateRefresh, execCreditBlock, execCreditRefresh,
    execFreezeIdleRx, execReservedBlock, execExpressPreemptSof, execFrameRxTimeout, execStrayBlock, execModuleReady]

theorem stillNext_exec_port {c : Instr} (h : portEvent c = true) (s : State) :
    stillNext true (exec c s) = some (still true s) := by
  unfold portEvent at h
  split at h
  case h_30 => exact absurd h Bool.false_ne_true
  all_goals simp [exec, execPortSignalDetect, execLinkTrainingDone, execTrainingTimeout, execPortRetrainTimer,
    execBerMeasureEnd, execFecSwitch, execIdentityBlock, execAlignRound, execFecUncorrectable, execLaneSignalLoss,
    execFecLBerWindow, execAdaptAckTimeout, execModuleRemoval, execEgressGrant, execPortDrainEnd,
    execCrossingQueueOverrun, execIdentitySend, execLstateBlock, execLstateRefresh, execCreditBlock, execCreditRefresh,
    execFreezeIdleRx, execReservedBlock, execExpressPreemptSof, execFrameRxTimeout, execStrayBlock, execModuleReady]

theorem stillNext_exec_journal {c : Instr} (h : journalEvent_ c = true) (s : State) :
    stillNext true (exec c s) = some (still true s) := by
  cases c
  case recordDurable => simp [exec, execRecordDurable]
  case segmentSealTimeout => exact stillNext_execSegmentSealTimeout s
  case segmentSignDone r q => exact stillNext_execSegmentSignDone r q s
  case bankFault n => simp [exec, execBankFault]
  case bankResyncDone n => simp [exec, execBankResyncDone]
  case thatchPatrol n read => exact stillNext_execThatchPatrol n read s
  case journalExportDone => exact stillNext_execJournalExportDone s
  all_goals exact absurd h Bool.false_ne_true

theorem still_of_exec {w : Bool} {c : Instr} {s t : State} (h : stillNext w (exec c s) = some (still w s))
    (e : exec c s = .next t) : still w t = still w s := by simpa [e] using h

/-- Settles O59: each event of the two families leaves the state as it was but for what `still` drops. -/
theorem portAndJournalEventsFrame : Obligations.PortAndJournalEventsFrame := by
  intro c s t h e
  exact eq_of_still_wide (still_of_exec (h.elim (stillNext_exec_port · s) (stillNext_exec_journal · s)) e)

end Sys2Proof.Machine
end

section
/-! The frames of the events that one unit alone takes: what boundary scan, the analogue timers, the pins, the tally's
own events, the sideband bus, connections and the clock change. -/

namespace Sys2Proof.Machine

/-- Whatever state an outcome goes on to satisfies `P`. -/
def GoesTo (P : State → Prop) (o : Host.Outcome State Fault Refusal) : Prop := ∀ t, o = .next t → P t

@[simp] theorem goesTo_next {P : State → Prop} {t : State} : GoesTo P (.next t) ↔ P t :=
  ⟨fun h => h t rfl, fun h _ e => Host.Outcome.next.inj e ▸ h⟩

theorem goesTo_ite {P : State → Prop} {c : Prop} [Decidable c] {o q : Host.Outcome State Fault Refusal}
    (ho : c → GoesTo P o) (hq : ¬c → GoesTo P q) : GoesTo P (if c then o else q) := by
  split
  · exact ho ‹_›
  · exact hq ‹_›

section
variable {s t u : State}

/-! ### Boundary scan -/

/-- `t` differs from `s` at most in what boundary scan changes. -/
def ScanAlone (s t : State) : Prop := t = { s with
  patrol := t.patrol, counters := t.counters, sites := t.sites, freezeUnit := t.freezeUnit, freeCount := t.freeCount }

theorem ScanAlone.refl (s : State) : ScanAlone s s := rfl

theorem ScanAlone.trans (h : ScanAlone s t) (k : ScanAlone t u) : ScanAlone s u :=
  Eq.trans k (by rw [ScanAlone] at h; rw [h])

theorem scanAlone_loadTap (x : Tap) (ir : Byte) (dr : Nat) (s : State) : ScanAlone s (loadTap x ir dr s) := by
  cases x <;> rfl

theorem scanAlone_captureFree (x : Tap) (ir : Byte) (s : State) : ScanAlone s (captureFree x ir s) := by
  cases x <;> rfl

theorem scanAlone_destructive {f : State → State} (hf : ∀ u, ScanAlone u (f u)) (x : Tap) (s : State) :
    ScanAlone s (destructive x f s) := by
  unfold destructive
  split
  · cases x <;> rfl
  · split
    · exact .trans (t := { s with freezeUnit.destructive := true }) rfl (hf _)
    · exact hf s

theorem scanAlone_leaveMbist (s : State) : ScanAlone s (leaveMbist s) := by
  unfold leaveMbist
  split
  · split <;> rfl
  · rfl

theorem scanAlone_startMbist (s : State) : ScanAlone s (startMbist s) := by
  unfold startMbist
  split
  · split <;> rfl
  · rfl

theorem scanAlone_askMbist (n : Nat) (s : State) : ScanAlone s (askMbist n s) :=
  
  (scanAlone_leaveMbist s).trans (.trans (t := loadTap .wafer 0x23 0 { leaveMbist s with patrol :=
    { (leaveMbist s).patrol with mbistSite := some n, mbistWait := true, mbistDone := false } }) rfl
    (scanAlone_startMbist _)) 

theorem scanAlone_resetTaps (s : State) : GoesTo (ScanAlone s) (execTapReset s) := by
  have one : ∀ x u, ScanAlone u (if tapPresent x u then loadTap x 0x02 (tapIdcode x u) u else u) := fun x u => by
    split
    · exact scanAlone_loadTap ..
    · rfl
  exact goesTo_next.mpr ((one .coping s).trans ((one .eaveA _).trans ((one .eaveB _).trans (one .wafer _))))

theorem scanAlone_exec {c : Instr} (h : scanEvent c = true) (s : State) : GoesTo (ScanAlone s) (exec c s) := by
  have same : GoesTo (ScanAlone s) (.next s) := goesTo_next.mpr rfl
  have loads : ∀ x ir dr, GoesTo (ScanAlone s) (.next (loadTap x ir dr s)) := fun x ir dr =>
    goesTo_next.mpr (scanAlone_loadTap x ir dr s)
  have captures : ∀ x ir, GoesTo (ScanAlone s) (.next (captureFree x ir s)) := fun x ir =>
    goesTo_next.mpr (scanAlone_captureFree x ir s)
  have reads : ∀ x ir, GoesTo (ScanAlone s) (.next (destructive x (captureFree x ir) s)) := fun x ir =>
    goesTo_next.mpr (scanAlone_destructive (scanAlone_captureFree x ir) x s)
  cases c
  case extest x => exact goesTo_ite (fun _ => reads _ _) fun _ => same
  case samplePreload x => exact goesTo_ite (fun _ => captures _ _) fun _ => same
  case idcode x => exact goesTo_ite (fun _ => loads _ _ _) fun _ => same
  case clamp x =>
    exact goesTo_ite (fun _ => goesTo_next.mpr (scanAlone_destructive (scanAlone_loadTap x _ _) x s)) fun _ => same
  case highz x =>
    exact goesTo_ite (fun _ => goesTo_next.mpr (scanAlone_destructive (scanAlone_loadTap x _ _) x s)) fun _ => same
  case extestPulse x => exact goesTo_ite (fun _ => same) fun _ => goesTo_ite (fun _ => reads _ _) fun _ => loads _ _ _
  case extestTrain x => exact goesTo_ite (fun _ => same) fun _ => goesTo_ite (fun _ => reads _ _) fun _ => loads _ _ _
  case descriptorRead x =>
    exact goesTo_ite (fun _ => same) fun _ => goesTo_ite (fun _ => loads _ _ _) fun _ => loads _ _ _
  case slateSel x v =>
    exact goesTo_ite (fun _ => same) fun _ => goesTo_ite
      (fun _ => goesTo_next.mpr (.trans (t := { s with patrol.selected := if v.toNat < 36 then some v.toNat else none })
        rfl (scanAlone_loadTap ..))) fun _ => loads _ _ _
  case scanDump x => exact goesTo_ite (fun _ => same) fun _ => goesTo_ite (fun _ => reads _ _) fun _ => loads _ _ _
  case mbistRun x =>
    refine goesTo_ite (fun _ => same) fun _ => ?_
    split
    · exact loads _ _ _
    · refine goesTo_next.mpr (scanAlone_destructive (fun u => ?_) x s)
      split
      · exact scanAlone_loadTap ..
      · exact scanAlone_askMbist _ u
  case tallyRead x => exact goesTo_ite (fun _ => same) fun _ => goesTo_ite (fun _ => loads _ _ _) fun _ => loads _ _ _
  case bypass x => exact goesTo_ite (fun _ => loads _ _ _) fun _ => same
  case tapReset => exact scanAlone_resetTaps s
  all_goals exact absurd h Bool.false_ne_true

/-! ### Timers, pins, the sideband bus and connections -/

theorem goesTo_ite_same {P : State → Prop} {c : Prop} [Decidable c] {o : Host.Outcome State Fault Refusal}
    (hs : P s) (ho : c → GoesTo P o) : GoesTo P (if c then o else .next s) :=
  goesTo_ite ho fun _ => goesTo_next.mpr hs

theorem analogueTimer_frame {c : Instr} (h : analogueTimer c = true) (s : State) :
    GoesTo (fun t => t = { s with coping := t.coping }) (exec c s) := by
  cases c
  case deglitchHoldEnd ch => exact goesTo_ite_same rfl fun _ => goesTo_next.mpr rfl
  case complianceFaultClear ch => exact goesTo_next.mpr rfl
  case aoutSelfCodeSwitch =>
    simp only [exec, execAoutSelfCodeSwitch]
    repeat' split
    all_goals exact goesTo_next.mpr rfl
  case calMeasurementEnd w =>
    simp only [exec, execCalMeasurementEnd]
    repeat' split
    all_goals exact goesTo_next.mpr rfl
  all_goals exact absurd h Bool.false_ne_true

theorem pinEvent_frame {c : Instr} (h : pinEvent c = true) (s : State) :
    GoesTo (fun t => t = { s with power := t.power, counters := t.counters }) (exec c s) := by
  cases c
  case busbarLow =>
    simp only [exec, execBusbarLow]
    repeat' split
    all_goals exact goesTo_next.mpr rfl
  case shelfFault => exact goesTo_ite (fun _ => goesTo_next.mpr rfl) fun _ => goesTo_next.mpr rfl
  case shelfOkReturn => exact goesTo_next.mpr rfl
  case slotIdChange pins => exact goesTo_ite_same rfl fun _ => goesTo_next.mpr rfl
  case coolantGateAlert => exact goesTo_ite_same rfl fun _ => goesTo_next.mpr rfl
  case loftReinitDone => exact goesTo_ite_same rfl fun _ => goesTo_next.mpr rfl
  all_goals exact absurd h Bool.false_ne_true

theorem tallyEvent_frame {c : Instr} (h : tallyEvent c = true) (s : State) :
    GoesTo (fun t => t = { s with
      tally := t.tally, counters := t.counters, ports := t.ports, out := t.out, freeCount := t.freeCount })
      (exec c s) := by
  cases c
  case tallyPllLock => exact goesTo_ite_same rfl fun _ => goesTo_next.mpr rfl
  case tallySyncReturn => exact goesTo_ite (fun _ => goesTo_next.mpr rfl) fun _ => goesTo_next.mpr rfl
  case ptpMessage e v =>
    cases e <;> exact goesTo_ite (fun _ => goesTo_next.mpr rfl) fun _ => goesTo_next.mpr rfl
  case markerNextWrite v inside =>
    exact goesTo_ite (fun _ => goesTo_next.mpr rfl) fun _ =>
      goesTo_ite (fun _ => goesTo_next.mpr rfl) fun _ => goesTo_next.mpr rfl
  case tallyRequest n t1 =>
    exact goesTo_ite (fun _ => goesTo_next.mpr rfl) fun _ =>
      goesTo_ite (fun _ => goesTo_next.mpr rfl) fun _ => goesTo_next.mpr rfl
  case tallyResponse n t1 t2 t3 t4 =>
    exact goesTo_ite (fun _ => goesTo_next.mpr rfl) fun _ => goesTo_next.mpr rfl
  all_goals exact absurd h Bool.false_ne_true

/-- Refreshing what holds some ports changes those ports alone. -/
theorem forEach_refreshHold_frame (ps : List Nat) (s : State) :
    forEach ps refreshHold s = { s with ports := (forEach ps refreshHold s).ports } := by
  unfold forEach
  induction ps generalizing s with
  | nil => rfl
  | cons p ps ih => exact (ih (refreshHold p s)).trans rfl

theorem sidebandEvent_frame {c : Instr} (h : sidebandEvent c = true) (s : State) :
    GoesTo (fun t => t = { s with referee := t.referee, counters := t.counters, ports := t.ports }) (exec c s) := by
  cases c
  case rowPosWrite v =>
    refine goesTo_ite (fun _ => goesTo_next.mpr rfl) fun _ => goesTo_ite (fun _ => goesTo_next.mpr rfl) fun _ =>
      goesTo_ite (fun _ => goesTo_next.mpr rfl) fun _ => goesTo_next.mpr ?_
    rw [forEach_refreshHold_frame]
  case eventAckWrite n =>
    simp only [exec, execEventAckWrite]
    repeat' split
    all_goals exact goesTo_next.mpr rfl
  case invSelWrite v => exact goesTo_ite_same rfl fun _ => goesTo_next.mpr rfl
  case sidebandRegisterWrite a d b => exact goesTo_ite_same rfl fun _ => goesTo_next.mpr rfl
  all_goals exact absurd h Bool.false_ne_true

theorem dropConnection_frame (k : Connection) (s : State) :
    dropConnection k s = { s with batten := (dropConnection k s).batten } := by
  simp only [dropConnection]
  repeat' split
  all_goals rfl

theorem connectionEvent_frame {c : Instr} (h : connectionEvent c = true) (s : State) :
    GoesTo (fun t => t = { s with batten := t.batten, out := t.out }) (exec c s) := by
  cases c
  case tlsHandshake n e hello =>
    simp only [exec, execTlsHandshake, admitClient]
    repeat' split
    all_goals exact goesTo_next.mpr rfl
  case connectionClose n =>
    simp only [exec, execConnectionClose]
    split
    · exact goesTo_next.mpr (by rw [dropConnection_frame])
    · exact goesTo_next.mpr rfl
  case sessionLingerExpiry o => exact goesTo_ite_same rfl fun _ => goesTo_next.mpr rfl
  all_goals exact absurd h Bool.false_ne_true

/-! ### Events at which time passes and counters are copied -/

/-- `t` differs from `s` at most in the time, the tally, the counters and the reduction's tokens. -/
def ClockAlone (s t : State) : Prop :=
  t = { s with now := t.now, tally := t.tally, counters := t.counters, reduction := t.reduction }

theorem ClockAlone.trans (h : ClockAlone s t) (k : ClockAlone t u) : ClockAlone s u :=
  Eq.trans k (by rw [ClockAlone] at h; rw [h])

theorem clockAlone_advance (k : Nat) (s : State) : ClockAlone s (advance k s) := by
  unfold advance
  split <;> rfl

theorem clockAlone_advanceTo (tick : Nat) (s : State) : ClockAlone s (advanceTo tick s) := by
  unfold advanceTo
  split
  · exact clockAlone_advance _ s
  · rfl

theorem clockAlone_snapNow (id : Nat) (s : State) : ClockAlone s (snapNow id s) := by
  simp only [snapNow, captureOthers]
  repeat' split
  all_goals rfl

theorem clockAlone_takeArmed (s : State) : ClockAlone s (takeArmed s) := by
  unfold takeArmed
  split
  · rfl
  · exact .trans (t := { s with counters.armed := none }) rfl ((clockAlone_advanceTo ..).trans (clockAlone_snapNow ..))

theorem clockAlone_takePeriodic (m : Nat) (s : State) : ClockAlone s (takePeriodic m s) :=
  .trans (t := { s with counters.nextId := s.counters.nextId + 1, counters.lastPeriodic := some m }) rfl
    (clockAlone_snapNow ..)

theorem clockAlone_exec {c : Instr} (h : clockEvent c = true) (s : State) : GoesTo (ClockAlone s) (exec c s) := by
  cases c
  case tallySlewStep =>
    refine goesTo_ite (fun _ => goesTo_next.mpr rfl) fun _ => goesTo_ite (fun _ => goesTo_next.mpr rfl) fun _ =>
      goesTo_ite_same rfl fun _ => goesTo_next.mpr ((clockAlone_advance 1 s).trans rfl)
  case counterSnapshot => exact goesTo_ite_same rfl fun _ => goesTo_next.mpr (clockAlone_takeArmed s)
  case periodicSnapshot =>
    refine goesTo_ite (fun _ => goesTo_next.mpr rfl) fun _ => ?_
    split
    · exact goesTo_next.mpr (clockAlone_takePeriodic ..)
    · exact goesTo_next.mpr ((clockAlone_advanceTo ..).trans (clockAlone_takePeriodic ..))
  all_goals exact absurd h Bool.false_ne_true
end

/-- Settles O60: the frame of each family is that of its events, one by one. -/
theorem smallEventsFrame : Obligations.SmallEventsFrame :=
  ⟨fun _ s t h e => scanAlone_exec h s t e, fun _ s t h e => analogueTimer_frame h s t e,
    fun _ s t h e => pinEvent_frame h s t e, fun _ s t h e => tallyEvent_frame h s t e,
    fun _ s _ h e => eq_of_still_narrow (still_of_exec (stillNext_exec_receiver false h s) e),
    fun _ s t h e => sidebandEvent_frame h s t e, fun _ s t h e => connectionEvent_frame h s t e,
    fun _ s t h e => clockAlone_exec h s t e⟩

end Sys2Proof.Machine
end

section
/-! The Loft's bytes in canonical form (10_loft): the operations that do not touch them. -/

namespace Sys2Proof.Machine

/-- Whether the Loft's bytes are in canonical form. -/
def loftWf (s : State) : Bool := Memory.wf s.loft.cells

/-- The operations that `still` does not see leave the Loft, so that the form is followed on what it leaves. -/
theorem loftCanonical_iff_still {s : State} : LoftCanonical s ↔ loftWf (still true s) = true := Iff.rfl

@[simp] theorem loftWf_fold (s : State) : Memory.wf s.loft.cells = loftWf (still true s) := (rfl)

@[simp] theorem loftWf_mk (ident mode params plan planLoaded power batten tally counters ports sites switch reduction
    loft journal freezeUnit referee coping firmware patrol invCycles invHours invAt out now freeCount pending) :
    loftWf (still true ⟨ident, mode, params, plan, planLoaded, power, batten, tally, counters, ports, sites, switch,
      reduction, loft, journal, freezeUnit, referee, coping, firmware, patrol, invCycles, invHours, invAt, out, now,
      freeCount, pending⟩) = Memory.wf loft.cells := (rfl)

@[simp] theorem loftWf_ite (c : Prop) [Decidable c] (s t : State) :
    loftWf (if c then s else t) = if c then loftWf s else loftWf t := apply_ite loftWf c s t

@[simp] theorem loftWf_foldl {α : Type} {f : State → α → State}
    (h : ∀ u x, loftWf (still true (f u x)) = loftWf (still true u)) (xs : List α) (s : State) :
    loftWf (still true (xs.foldl f s)) = loftWf (still true s) := by
  induction xs generalizing s with
  | nil => rfl
  | cons x xs ih => exact (ih _).trans (h s x)

@[simp] theorem loftWf_forEach {f : Nat → State → State}
    (h : ∀ n u, loftWf (still true (f n u)) = loftWf (still true u)) (xs : List Nat) (s : State) :
    loftWf (still true (forEach xs f s)) = loftWf (still true s) := loftWf_foldl (fun u n => h n u) xs s

@[simp] theorem loftWf_fst_ite {α : Type} (c : Prop) [Decidable c] (a b : State × α) :
    loftWf (still true (if c then a else b).1) = if c then loftWf (still true a.1) else loftWf (still true b.1) :=
  apply_ite (fun x => loftWf (still true x.1)) c a b

theorem loftWf_fst_of_ite {α : Type} {c : Prop} [Decidable c] {a b : State × α} {s : State}
    (ha : loftWf (still true a.1) = loftWf (still true s)) (hb : loftWf (still true b.1) = loftWf (still true s)) :
    loftWf (still true (if c then a else b).1) = loftWf (still true s) := by
  split
  · exact ha
  · exact hb

/-- Whether the state that an outcome goes on to has its Loft in canonical form. -/
def loftNext : Host.Outcome State Fault Refusal → Option Bool
  | .next t => some (loftWf (still true t))
  | _ => none

@[simp] theorem loftNext_next (t : State) : loftNext (.next t) = some (loftWf (still true t)) := (rfl)

@[simp] theorem loftNext_ite (c : Prop) [Decidable c] (o q : Host.Outcome State Fault Refusal) :
    loftNext (if c then o else q) = if c then loftNext o else loftNext q := apply_ite loftNext c o q

/-! ### State and shared operations -/

@[simp] theorem loftWf_bumpFree (s : State) : loftWf (still true (bumpFree s)) = loftWf (still true s) := (rfl)

@[simp] theorem loftWf_uncount (id : Nat) (s : State) :
    loftWf (still true (uncount id s)) = loftWf (still true s) := (rfl)

@[simp] theorem loftWf_clearCounters (which : Nat → Bool) (s : State) :
    loftWf (still true (clearCounters which s)) = loftWf (still true s) := (rfl)

@[simp] theorem loftWf_setPhase (ph : Phase) (cause : Nat) (s : State) :
    loftWf (still true (setPhase ph cause s)) = loftWf (still true s) := (rfl)

@[simp] theorem loftWf_setCause (cause : Nat) (s : State) :
    loftWf (still true (setCause cause s)) = loftWf (still true s) := (rfl)

@[simp] theorem loftWf_accrue (s : State) : loftWf (still true (accrue s)) = loftWf (still true s) := (rfl)

@[simp] theorem loftWf_setLatches (f : Latches → Latches) (s : State) :
    loftWf (still true (setLatches f s)) = loftWf (still true s) := (rfl)

@[simp] theorem loftWf_setEave (e : Eave) (f : EaveUnit → EaveUnit) (s : State) :
    loftWf (still true (setEave e f s)) = loftWf (still true s) := by
  unfold setEave
  split <;> simp

@[simp] theorem loftWf_matchTrigger (collective event : Nat) (s : State) :
    loftWf (still true (matchTrigger collective event s)) = loftWf (still true s) := by simp [matchTrigger]

@[simp] theorem loftWf_setParam (id v : Nat) (s : State) :
    loftWf (still true (setParam id v s)) = loftWf (still true s) := by
  unfold setParam
  split <;> simp

@[simp] theorem loftWf_rampRefill (k : Nat) (s : State) :
    loftWf (still true (rampRefill k s)) = loftWf (still true s) := by simp [rampRefill]

@[simp] theorem loftWf_advance (k : Nat) (s : State) :
    loftWf (still true (advance k s)) = loftWf (still true s) := by simp [advance]

@[simp] theorem loftWf_advanceTo (t : Nat) (s : State) :
    loftWf (still true (advanceTo t s)) = loftWf (still true s) := by simp [advanceTo]

/-! ### Records -/

@[simp] theorem loftWf_journalCommand (p : Packet) (body : RecordBody) (s : State) :
    loftWf (still true (journalCommand p body s)) = loftWf (still true s) := by simp [journalCommand]

@[simp] theorem loftWf_journalEave (body : RecordBody) (s : State) :
    loftWf (still true (journalEave body s)) = loftWf (still true s) := by
  simp [journalEave]

@[simp] theorem loftWf_journalFinial (body : RecordBody) (s : State) :
    loftWf (still true (journalFinial body s)) = loftWf (still true s) := by
  simp [journalFinial]

@[simp] theorem loftWf_tallyTo (st : TallyState) (cause : Nat) (s : State) :
    loftWf (still true (tallyTo st cause s)) = loftWf (still true s) := by
  simp [tallyTo]

@[simp] theorem loftWf_journalFwset (reason builder : Nat) (s : State) :
    loftWf (still true (journalFwset reason builder s)) = loftWf (still true s) := by simp [journalFwset]

@[simp] theorem loftWf_refreshTested (s : State) :
    loftWf (still true (refreshTested s)) = loftWf (still true s) := (rfl)

/-! ### Frames, credits and shingles -/

@[simp] theorem loftWf_holdShingles (n k : Nat) (s : State) :
    loftWf (still true (holdShingles n k s)) = loftWf (still true s) := (rfl)

@[simp] theorem loftWf_releaseShingles (n k : Nat) (s : State) :
    loftWf (still true (releaseShingles n k s)) = loftWf (still true s) := (rfl)

@[simp] theorem loftWf_freshStore (n : Nat) (s : State) :
    loftWf (still true (freshStore n s)) = loftWf (still true s) := (rfl)

@[simp] theorem loftWf_discardArrival (n input output cls cause endpoint tag k : Nat) (s : State) :
    loftWf (still true (discardArrival n input output cls cause endpoint tag k s)) = loftWf (still true s) := by
  simp [discardArrival]

@[simp] theorem loftWf_landAll (s : State) :
    loftWf (still true (landAll s)) = loftWf (still true s) := by simp [landAll]

@[simp] theorem loftWf_discardFrame (p code cls k : Nat) (s : State) :
    loftWf (still true (discardFrame p code cls k s)) = loftWf (still true s) := by
  simp [discardFrame]

/-! ### Replies and operations in progress -/

@[simp] theorem loftWf_markExecuted (o q : Nat) (d : Digest) (path : Path) (s : State) :
    loftWf (still true (markExecuted o q d path s)) = loftWf (still true s) := (rfl)

@[simp] theorem loftWf_originate (path : Path) (o opcode unit inst : Nat) (body : List Byte) (s : State) :
    loftWf (still true (originate path o opcode unit inst body s)) = loftWf (still true s) := (rfl)

@[simp] theorem loftWf_finialSends (opcode unit inst : Nat) (body : List Byte) (s : State) :
    loftWf (still true (finialSends opcode unit inst body s)) = loftWf (still true s) := (rfl)

@[simp] theorem loftWf_ridgeSends (opcode unit inst : Nat) (body : List Byte) (s : State) :
    loftWf (still true (ridgeSends opcode unit inst body s)) = loftWf (still true s) := by simp [ridgeSends]

@[simp] theorem loftWf_byLatchWrites {send : List Byte → State → State} {act : State → State}
    (hsend : ∀ b u, loftWf (still true (send b u)) = loftWf (still true u)) (s : State) :
    loftWf (still true (byLatchWrites send act s)) = loftWf (still true (act s)) := by
  simp [byLatchWrites, hsend]

@[simp] theorem loftWf_byFinial (act : State → State) (s : State) :
    loftWf (still true (byFinial act s)) = loftWf (still true (act s)) := by
  simp [byFinial]

@[simp] theorem loftWf_byEaves (act : State → State) (s : State) :
    loftWf (still true (byEaves act s)) = loftWf (still true (act s)) := by
  simp [byEaves]

@[simp] theorem loftWf_answerIn (o : Nat) (p : Packet) (opcode : Nat) (a : Ans) (s : State) :
    loftWf (still true (answerIn o p opcode a s)) = loftWf (still true s) := by
  unfold answerIn
  repeat' split
  all_goals simp

@[simp] theorem loftWf_answer (p : Packet) (opcode : Nat) (a : Ans) (s : State) :
    loftWf (still true (answer p opcode a s)) = loftWf (still true s) := by simp [answer]

@[simp] theorem loftWf_answerUnrecorded (p : Packet) (opcode status reason arg : Nat) (s : State) :
    loftWf (still true (answerUnrecorded p opcode status reason arg s)) = loftWf (still true s) := by
  simp [answerUnrecorded]

@[simp] theorem loftWf_startOp (kind : OpKind) (p : Packet) (opcode : Nat) (s : State) :
    loftWf (still true (startOp kind p opcode s)) = loftWf (still true s) := (rfl)

@[simp] theorem loftWf_endSession (o : U32) (s : State) :
    loftWf (still true (endSession o s)) = loftWf (still true s) := (rfl)

@[simp] theorem loftWf_hearBefore (n : Nat) (s : State) :
    loftWf (still true (hearBefore n s)) = loftWf (still true s) := (rfl)

@[simp] theorem loftWf_postEvent (kind channel : Nat) (s : State) :
    loftWf (still true (postEvent kind channel s)) = loftWf (still true s) := (rfl)

/-! ### Collectives and results -/

@[simp] theorem loftWf_abortCollective (id cause reason arg : Nat) (s : State) :
    loftWf (still true (abortCollective id cause reason arg s)) = loftWf (still true s) := by
  unfold abortCollective
  split <;> simp

@[simp] theorem loftWf_abortWhere (which : Collective → Bool) (cause reason arg : Nat) (s : State) :
    loftWf (still true (abortWhere which cause reason arg s)) = loftWf (still true s) := by simp [abortWhere]

@[simp] theorem loftWf_sendTile (c : Collective) (t : Nat) (s : State) :
    loftWf (still true (sendTile c t s)) = loftWf (still true s) := by
  simp [sendTile]

@[simp] theorem loftWf_sendRetire (c : Collective) (t : Nat) (s : State) :
    loftWf (still true (sendRetire c t s)) = loftWf (still true s) := by
  simp [sendRetire]

@[simp] theorem loftWf_releaseHeld (id : Nat) (s : State) :
    loftWf (still true (releaseHeld id s)) = loftWf (still true s) := by
  unfold releaseHeld
  split <;> simp

@[simp] theorem loftWf_joinRamp (id : Nat) (s : State) :
    loftWf (still true (joinRamp id s)) = loftWf (still true s) := (rfl)

@[simp] theorem loftWf_allTilesDone (c : Collective) (t : Nat) (s : State) :
    loftWf (still true (allTilesDone c t s)) = loftWf (still true s) := by
  simp [allTilesDone]

@[simp] theorem loftWf_completeTile (id t : Nat) (s : State) :
    loftWf (still true (completeTile id t s)) = loftWf (still true s) := by
  unfold completeTile
  split <;> simp

@[simp] theorem loftWf_intake (c : Collective) (at_ rank : Nat) (h : FrameHeader) (payload : List Byte) (s : State) :
    loftWf (still true (intake c at_ rank h payload s)) = loftWf (still true s) := by
  simp only [intake, still_ite, loftWf_ite, loftWf_abortCollective, still_count]
  rw [loftWf_forEach fun t u => by split <;> simp]
  simp

@[simp] theorem loftWf_contribTo (c : Collective) (p at_ : Nat) (h : FrameHeader) (payload : List Byte) (s : State) :
    loftWf (still true (contribTo c p at_ h payload s)) = loftWf (still true s) := by
  unfold contribTo
  split <;> simp

@[simp] theorem loftWf_contribIn (p : Nat) (h : FrameHeader) (payload : List Byte) (s : State) :
    loftWf (still true (contribIn p h payload s)) = loftWf (still true s) := by
  simp only [contribIn]
  repeat' split
  all_goals simp

@[simp] theorem loftWf_takeEarly (id : Nat) (s : State) :
    loftWf (still true (takeEarly id s)) = loftWf (still true s) :=
  loftWf_foldl (fun t e => by split <;> simp) _ _

@[simp] theorem loftWf_flushEarlyOne (cause : Nat) (e : EarlyFrame) (s : State) :
    loftWf (still true (flushEarlyOne cause e s)) = loftWf (still true s) := by simp [flushEarlyOne]

@[simp] theorem loftWf_flushEarly (which : EarlyFrame → Bool) (cause : Nat) (s : State) :
    loftWf (still true (flushEarly which cause s)) = loftWf (still true s) := by simp [flushEarly]

@[simp] theorem loftWf_takeFlushed (id : Nat) (s : State) :
    loftWf (still true (takeFlushed id s)) = loftWf (still true s) := by
  simp only [takeFlushed]
  repeat' split
  all_goals simp

@[simp] theorem loftWf_rampLoop (k : Nat) (s : State) : loftWf (still true (rampLoop k s)) = loftWf (still true s) := by
  induction k generalizing s with
  | zero => rfl
  | succ k ih =>
    unfold rampLoop
    split <;> simp [ih]

/-! ### Port states -/

@[simp] theorem loftWf_holdNoSlate (p : Nat) (s : State) :
    loftWf (still true (holdNoSlate p s)) = loftWf (still true s) := by simp [holdNoSlate]

/-! ### Isolation and re-homing -/

@[simp] theorem loftWf_reclaim (t : Option Nat) (s : State) :
    loftWf (still true (reclaim t s)) = loftWf (still true s) := by
  unfold reclaim
  split <;> simp

@[simp] theorem loftWf_severRequests (cause : Nat) (rs : List LoftRequest) (s : State) :
    loftWf (still true (severRequests cause rs s)) = loftWf (still true s) :=
  loftWf_foldl (fun t x => by dsimp only; split <;> simp) _ s

@[simp] theorem loftWf_holdPorts (ps : List Nat) (s : State) :
    loftWf (still true (holdPorts ps s)) = loftWf (still true s) := by simp [holdPorts]

@[simp] theorem loftWf_slateRailOff (n : Nat) (s : State) :
    loftWf (still true (slateRailOff n s)) = loftWf (still true s) := (rfl)

@[simp] theorem loftWf_leaveRoll (n : Nat) (s : State) :
    loftWf (still true (leaveRoll n s)) = loftWf (still true s) := by simp [leaveRoll]

@[simp] theorem loftWf_retarget (n : Nat) (s : State) :
    loftWf (still true (retarget n s)) = loftWf (still true s) := by simp [retarget]

@[simp] theorem loftWf_replanTick (s : State) :
    loftWf (still true (replanTick s)) = loftWf (still true s) := by simp [replanTick]

@[simp] theorem loftWf_journalIsolation (n cause : Nat) (target : Option Nat) (s : State) :
    loftWf (still true (journalIsolation n cause target s)) = loftWf (still true s) := by simp [journalIsolation]

@[simp] theorem loftWf_noteSiteFailure (n : Nat) (s : State) :
    loftWf (still true (noteSiteFailure n s)) = loftWf (still true s) := by
  simp [noteSiteFailure]

@[simp] theorem loftWf_drainSite (n m : Nat) (s : State) :
    loftWf (still true (drainSite n m s)) = loftWf (still true s) := by simp [drainSite]

@[simp] theorem loftWf_readvertise (p : Nat) (s : State) :
    loftWf (still true (readvertise p s)) = loftWf (still true s) := by simp [readvertise]

@[simp] theorem loftWf_bringUp (m : Nat) (s : State) :
    loftWf (still true (bringUp m s)) = loftWf (still true s) := by simp [bringUp]

@[simp] theorem loftWf_applyMap (r : Rehoming) (s : State) :
    loftWf (still true (applyMap r s)) = loftWf (still true s) := by simp [applyMap]

@[simp] theorem loftWf_finishRehoming (r : Rehoming) (s : State) :
    loftWf (still true (finishRehoming r s)) = loftWf (still true s) := by
  simp [finishRehoming]

@[simp] theorem loftWf_bistOutcome (n : Nat) (r : SlateBist) (s : State) :
    loftWf (still true (bistOutcome n r s)) = loftWf (still true s) := (rfl)

@[simp] theorem loftWf_slateRailOn (n : Nat) (s : State) :
    loftWf (still true (slateRailOn n s)) = loftWf (still true s) := (rfl)

@[simp] theorem loftWf_slateRelease (n : Nat) (s : State) :
    loftWf (still true (slateRelease n s)) = loftWf (still true s) := (rfl)

/-! ### The Loft -/

@[simp] theorem loftWf_storeRegion (r : Region) (s : State) :
    loftWf (still true (storeRegion r s)) = loftWf (still true s) := (rfl)

@[simp] theorem loftWf_journalRegion (r : Region) (event kind line : Nat) (s : State) :
    loftWf (still true (journalRegion r event kind line s)) = loftWf (still true s) := by simp [journalRegion]

@[simp] theorem loftWf_poisonDecisions (h : Nat) (s : State) :
    loftWf (still true (poisonDecisions h s)) = loftWf (still true s) := (rfl)

@[simp] theorem loftWf_seePoison (h : Nat) (s : State) :
    loftWf (still true (seePoison h s)) = loftWf (still true s) := by
  unfold seePoison
  split <;> simp

@[simp] theorem loftWf_poisonLine (line : Nat) (s : State) :
    loftWf (still true (poisonLine line s)) = loftWf (still true s) := by
  simp only [poisonLine]
  repeat' split
  all_goals simp

@[simp] theorem loftWf_respond (p block : Nat) (write : Bool) (h : FrameHeader) (data : List Byte) (poison : Bool)
    (s : State) :
    loftWf (still true (respond p block write h data poison s)) = loftWf (still true s) := by simp [respond]

@[simp] theorem loftWf_answerPoison (r : LoftRequest) (s : State) :
    loftWf (still true (answerPoison r s)) = loftWf (still true s) := by
  simp [answerPoison]

@[simp] theorem loftWf_loftAccept (r : LoftRequest) (s : State) :
    loftWf (still true (loftAccept r s)) = loftWf (still true s) := by
  unfold loftAccept
  split <;> simp

@[simp] theorem loftWf_loftIn (write : Bool) (p : Nat) (h : FrameHeader) (payload : List Byte) (s : State) :
    loftWf (still true (loftIn write p h payload s)) = loftWf (still true s) := by simp [loftIn]

@[simp] theorem loftWf_pumpLoft (block k : Nat) (s : State) :
    loftWf (still true (pumpLoft block k s)) = loftWf (still true s) := by
  induction k generalizing s with
  | zero => rfl
  | succ k ih =>
    unfold pumpLoft
    split <;> simp [ih]

@[simp] theorem loftWf_pumpAll (s : State) :
    loftWf (still true (pumpAll s)) = loftWf (still true s) := by simp [pumpAll]

@[simp] theorem loftWf_finishRead (r : LoftRequest) (s : State) :
    loftWf (still true (finishRead r s)) = loftWf (still true s) := by
  simp [finishRead]

@[simp] theorem loftWf_answerRefused (kept rs : List LoftRequest) (s : State) :
    loftWf (still true (answerRefused kept rs s)) = loftWf (still true s) := by
  induction rs generalizing kept s with
  | nil => rfl
  | cons r rest ih => simp [answerRefused, ih]

@[simp] theorem loftWf_forceDecisions (h : Nat) (s : State) :
    loftWf (still true (forceDecisions h s)) = loftWf (still true s) :=
  loftWf_foldl (fun t d => by dsimp only; split <;> simp) _ s

@[simp] theorem loftWf_endReplay (id state : Nat) (s : State) :
    loftWf (still true (endReplay id state s)) = loftWf (still true s) := by
  unfold endReplay
  split <;> simp

@[simp] theorem loftWf_stopReplays (h : Nat) (s : State) :
    loftWf (still true (stopReplays h s)) = loftWf (still true s) := by simp [stopReplays]

@[simp] theorem loftWf_freeRegion (r : Region) (force : Bool) (s : State) :
    loftWf (still true (freeRegion r force s)) = loftWf (still true s) := by
  simp [freeRegion]

@[simp] theorem loftWf_loftCartLost (n : Nat) (s : State) :
    loftWf (still true (loftCartLost n s)) = loftWf (still true s) := by simp [loftCartLost]

@[simp] theorem loftWf_regionInfoRun (p : Packet) (s : State) :
    loftWf (still true (regionInfoRun p s).1) = loftWf (still true s) := by
  unfold regionInfoRun
  split <;> simp

@[simp] theorem loftWf_regionListRun (p : Packet) (s : State) :
    loftWf (still true (regionListRun p s).1) = loftWf (still true s) := (rfl)

@[simp] theorem loftWf_regionFindRun (p : Packet) (s : State) :
    loftWf (still true (regionFindRun p s).1) = loftWf (still true s) := by
  simp only [regionFindRun]
  repeat' split
  all_goals simp

@[simp] theorem loftWf_regionSealRun (p : Packet) (s : State) :
    loftWf (still true (regionSealRun p s).1) = loftWf (still true s) := by
  unfold regionSealRun
  split <;> simp

@[simp] theorem loftWf_regionFreeRun (p : Packet) (s : State) :
    loftWf (still true (regionFreeRun p s).1) = loftWf (still true s) := by
  unfold regionFreeRun
  split <;> simp

/-! ### Groups, decisions, reeds and engines -/

@[simp] theorem loftWf_journalChain (builder : Nat) (bs : List RecordBody) (s : State) :
    loftWf (still true (journalChain builder bs s)) = loftWf (still true s) := by
  induction bs generalizing s with
  | nil => rfl
  | cons b rest ih => cases rest <;> simp [journalChain, ih]

@[simp] theorem loftWf_groupDefineRun (p : Packet) (s : State) :
    loftWf (still true (groupDefineRun p s).1) = loftWf (still true s) := by
  simp only [groupDefineRun]
  repeat' split
  all_goals simp

@[simp] theorem loftWf_groupDeleteRun (p : Packet) (s : State) :
    loftWf (still true (groupDeleteRun p s).1) = loftWf (still true s) := by
  simp only [groupDeleteRun]
  repeat' split
  all_goals simp

@[simp] theorem loftWf_collectiveOpenRun (p : Packet) (s : State) :
    loftWf (still true (collectiveOpenRun p s).1) = loftWf (still true s) := by
  simp only [collectiveOpenRun]
  repeat' split
  all_goals simp

@[simp] theorem loftWf_collectiveOpenAfter (p : Packet) (s : State) :
    loftWf (still true (collectiveOpenAfter p s)) = loftWf (still true s) := by
  simp [collectiveOpenAfter]

@[simp] theorem loftWf_collectiveStatusRun (p : Packet) (s : State) :
    loftWf (still true (collectiveStatusRun p s).1) = loftWf (still true s) := by
  simp only [collectiveStatusRun]
  repeat' split
  all_goals simp

@[simp] theorem loftWf_collectiveCancelRun (p : Packet) (s : State) :
    loftWf (still true (collectiveCancelRun p s).1) = loftWf (still true s) := by
  simp [collectiveCancelRun]

@[simp] theorem loftWf_decisionOpenRun (p : Packet) (s : State) :
    loftWf (still true (decisionOpenRun p s).1) = loftWf (still true s) := by
  simp [decisionOpenRun]

@[simp] theorem loftWf_decisionCloseRun (p : Packet) (s : State) :
    loftWf (still true (decisionCloseRun p s).1) = loftWf (still true s) := by
  simp only [decisionCloseRun]
  repeat' split
  all_goals simp

@[simp] theorem loftWf_reedDisableRun (p : Packet) (s : State) :
    loftWf (still true (reedDisableRun p s).1) = loftWf (still true s) := (rfl)

@[simp] theorem loftWf_reedDisableAfter (p : Packet) (s : State) :
    loftWf (still true (reedDisableAfter p s)) = loftWf (still true s) := by
  simp [reedDisableAfter]

@[simp] theorem loftWf_reedEnableRun (p : Packet) (s : State) :
    loftWf (still true (reedEnableRun p s).1) = loftWf (still true s) := by
  simp [reedEnableRun]

@[simp] theorem loftWf_setEngine (inst : Nat) (f : Engine → Engine) (s : State) :
    loftWf (still true (setEngine inst f s)) = loftWf (still true s) :=
  (rfl)

@[simp] theorem loftWf_engineDisableRun (p : Packet) (s : State) :
    loftWf (still true (engineDisableRun p s).1) = loftWf (still true s) := (rfl)

@[simp] theorem loftWf_engineDisableAfter (p : Packet) (s : State) :
    loftWf (still true (engineDisableAfter p s)) = loftWf (still true s) := by
  simp [engineDisableAfter]

@[simp] theorem loftWf_engineEnableRun (p : Packet) (s : State) :
    loftWf (still true (engineEnableRun p s).1) = loftWf (still true s) := (rfl)

/-! ### The journal -/

@[simp] theorem loftWf_startResync (n : Nat) (s : State) :
    loftWf (still true (startResync n s)) = loftWf (still true s) := by simp [startResync]

@[simp] theorem loftWf_closePage (n : Nat) (s : State) :
    loftWf (still true (closePage n s)) = loftWf (still true s) := by simp [closePage]

@[simp] theorem loftWf_onAccepting {f : Nat → State → State} (h : ∀ n u, loftWf (still true (f n u)) = loftWf
    (still true u)) (s : State) :
    
    loftWf (still true (onAccepting f s)) = loftWf (still true s) := by
  simp [onAccepting, h]

@[simp] theorem loftWf_flushDurable (s : State) :
    loftWf (still true (flushDurable s)) = loftWf (still true s) := by simp [flushDurable]

@[simp] theorem loftWf_mountChain (r : MountResult) (s : State) :
    loftWf (still true (mountChain r s)) = loftWf (still true s) := by
  simp only [mountChain]
  repeat' split
  all_goals simp

@[simp] theorem loftWf_mountBanks (r : MountResult) (s : State) :
    loftWf (still true (mountBanks r s)) = loftWf (still true s) := by
  simp [mountBanks]

@[simp] theorem loftWf_unmountBanks (program : Bool) (s : State) :
    loftWf (still true (unmountBanks program s)) = loftWf (still true s) := by
  simp [unmountBanks]

@[simp] theorem loftWf_journalStatusRun (p : Packet) (s : State) :
    loftWf (still true (journalStatusRun p s).1) = loftWf (still true s) := (rfl)

@[simp] theorem loftWf_journalExportRun (p : Packet) (s : State) :
    loftWf (still true (journalExportRun p s).1) = loftWf (still true s) := by
  unfold journalExportRun
  split <;> simp

@[simp] theorem loftWf_journalAckRun (p : Packet) (s : State) :
    loftWf (still true (journalAckRun p s).1) = loftWf (still true s) := by
  simp only [journalAckRun]
  repeat' split
  all_goals simp

@[simp] theorem loftWf_journalMarkRun (p : Packet) (s : State) :
    loftWf (still true (journalMarkRun p s).1) = loftWf (still true s) := by
  unfold journalMarkRun
  split <;> simp

@[simp] theorem loftWf_bankSetRun (p : Packet) (s : State) :
    loftWf (still true (bankSetRun p s).1) = loftWf (still true s) := by simp [bankSetRun]

@[simp] theorem loftWf_bankSettled (n : Nat) (s : State) :
    loftWf (still true (bankSettled n s)) = loftWf (still true s) := by
  unfold bankSettled
  split <;> simp

@[simp] theorem loftWf_bankSetAfter (p : Packet) (s : State) :
    loftWf (still true (bankSetAfter p s)) = loftWf (still true s) := by
  simp [bankSetAfter]

@[simp] theorem loftWf_startReplayed (id : Nat) (s : State) :
    loftWf (still true (startReplayed id s)) = loftWf (still true s) := (rfl)

@[simp] theorem loftWf_replayStartRun (p : Packet) (s : State) :
    loftWf (still true (replayStartRun p s).1) = loftWf (still true s) := by
  unfold replayStartRun
  extract_lets
  split
  · rfl
  · refine loftWf_fst_of_ite rfl ?_
    extract_lets
    refine loftWf_fst_of_ite rfl ?_
    extract_lets
    refine loftWf_fst_of_ite rfl ?_
    extract_lets
    split
    · rfl
    · refine loftWf_fst_of_ite rfl (loftWf_fst_of_ite rfl ?_)
      split
      · rfl
      · extract_lets
        refine loftWf_fst_of_ite rfl (loftWf_fst_of_ite rfl ?_)
        split
        · rfl
        · exact loftWf_fst_of_ite rfl (loftWf_fst_of_ite rfl rfl)

@[simp] theorem loftWf_replayStatusRun (p : Packet) (s : State) :
    loftWf (still true (replayStatusRun p s).1) = loftWf (still true s) := by
  unfold replayStatusRun
  split <;> simp

@[simp] theorem loftWf_replayCancelRun (p : Packet) (s : State) :
    loftWf (still true (replayCancelRun p s).1) = loftWf (still true s) := by
  simp [replayCancelRun]

/-! ### The switch core -/

@[simp] theorem loftWf_makeRoom (n k : Nat) (fs : List QFrame) (s : State) :
    loftWf (still true (makeRoom n k fs s)) = loftWf (still true s) := by
  induction fs generalizing s with
  | nil => rfl
  | cons f rest ih =>
    unfold makeRoom
    split
    · rfl
    · rw [ih]
      split <;> simp

@[simp] theorem loftWf_tailDrop (at_ p output cls : Nat) (s : State) :
    loftWf (still true (tailDrop at_ p output cls s)) = loftWf (still true s) :=
  (rfl)

@[simp] theorem loftWf_startCut (f : QFrame) (s : State) :
    loftWf (still true (startCut f s)) = loftWf (still true s) := by
  simp only [startCut]
  repeat' split
  all_goals simp

@[simp] theorem loftWf_lossyRoom (p : Nat) (f : QFrame) (s : State) :
    loftWf (still true (lossyRoom p f s)) = loftWf (still true s) := by
  simp [lossyRoom]

@[simp] theorem loftWf_dataIn (p : Nat) (h : FrameHeader) (payload : List Byte) (s : State) :
    loftWf (still true (dataIn p h payload s)) = loftWf (still true s) := by simp [dataIn]

@[simp] theorem loftWf_newSof (p cls : Nat) (s : State) :
    loftWf (still true (newSof p cls s)) = loftWf (still true s) := by
  simp only [newSof]
  repeat' split
  all_goals simp

@[simp] theorem loftWf_dispatch (p : Nat) (f : RxFrame) (s : State) :
    loftWf (still true (dispatch p f s)) = loftWf (still true s) := by
  simp only [dispatch]
  repeat' split
  all_goals simp

@[simp] theorem loftWf_frameEnd (p : Nat) (f : RxFrame) (o : OpenFrame) (s : State) :
    loftWf (still true (frameEnd p f o s)) = loftWf (still true s) := by
  unfold frameEnd
  split <;> simp

@[simp] theorem loftWf_frameStart (p : Nat) (f : RxFrame) (s : State) :
    loftWf (still true (frameStart p f s)) = loftWf (still true s) := by
  unfold frameStart
  split <;> simp

@[simp] theorem loftWf_frameRest (p : Nat) (f : RxFrame) (s : State) :
    loftWf (still true (frameRest p f s)) = loftWf (still true s) := by
  simp only [frameRest]
  repeat' split
  all_goals simp

@[simp] theorem loftWf_frameIn (p : Nat) (f : RxFrame) (s : State) :
    loftWf (still true (frameIn p f s)) = loftWf (still true s) := by simp [frameIn]

/-! ### Bring-up and the ports' own events -/

@[simp] theorem loftWf_refreshHolds (s : State) : loftWf (still true (refreshHolds s)) = loftWf (still true s) := (rfl)

@[simp] theorem loftWf_portStatusRun (p : Packet) (s : State) :
    loftWf (still true (portStatusRun p s).1) = loftWf (still true s) := (rfl)

@[simp] theorem loftWf_portUpRun (p : Packet) (s : State) :
    loftWf (still true (portUpRun p s).1) = loftWf (still true s) := (rfl)

@[simp] theorem loftWf_portUpAfter (p : Packet) (s : State) :
    loftWf (still true (portUpAfter p s)) = loftWf (still true s) := by
  simp only [portUpAfter]
  repeat' split
  all_goals simp

@[simp] theorem loftWf_portDownRun (p : Packet) (s : State) :
    loftWf (still true (portDownRun p s).1) = loftWf (still true s) := (rfl)

@[simp] theorem loftWf_portDownAfter (p : Packet) (s : State) :
    loftWf (still true (portDownAfter p s)) = loftWf (still true s) := by
  simp only [portDownAfter]
  repeat' split
  all_goals simp

@[simp] theorem loftWf_portAdaptRun (p : Packet) (s : State) :
    loftWf (still true (portAdaptRun p s).1) = loftWf (still true s) := by
  simp [portAdaptRun]

@[simp] theorem loftWf_portAdaptAfter (p : Packet) (s : State) :
    loftWf (still true (portAdaptAfter p s)) = loftWf (still true s) := by
  simp [portAdaptAfter]

@[simp] theorem loftWf_recheckPort (p : Nat) (s : State) :
    loftWf (still true (recheckPort p s)) = loftWf (still true s) := by
  simp only [recheckPort]
  repeat' split
  all_goals simp

@[simp] theorem loftWf_cablePlanLoadRun (p : Packet) (s : State) :
    loftWf (still true (cablePlanLoadRun p s).1) = loftWf (still true s) := by
  simp only [cablePlanLoadRun]
  repeat' split
  all_goals simp

@[simp] theorem loftWf_cablePlanReadRun (p : Packet) (s : State) :
    loftWf (still true (cablePlanReadRun p s).1) = loftWf (still true s) := (rfl)

@[simp] theorem loftWf_opticReadRun (p : Packet) (s : State) :
    loftWf (still true (opticReadRun p s).1) = loftWf (still true s) := by
  simp [opticReadRun]

/-! ### Rails, zones and the reset of the wafer -/

@[simp] theorem loftWf_quiesce (s : State) :
    loftWf (still true (quiesce s)) = loftWf (still true s) := by simp [quiesce]

@[simp] theorem loftWf_endFreeze (ended : Option Nat) (s : State) :
    loftWf (still true (endFreeze ended s)) = loftWf (still true s) := by
  simp [endFreeze]

@[simp] theorem loftWf_cancelArm (s : State) : loftWf (still true (cancelArm s)) = loftWf (still true s) := by
  unfold cancelArm
  split <;> simp

@[simp] theorem loftWf_clearWafer (s : State) : loftWf (still true (clearWafer s)) = loftWf (still true s) := (rfl)

@[simp] theorem loftWf_waferDown (restart : Bool) (s : State) :
    loftWf (still true (waferDown restart s)) = loftWf (still true s) := by
  simp [waferDown]

@[simp] theorem loftWf_discardScheduled (s : State) :
    loftWf (still true (discardScheduled s)) = loftWf (still true s) := by simp [discardScheduled]

@[simp] theorem loftWf_restartWafer (s : State) :
    loftWf (still true (restartWafer s)) = loftWf (still true s) := by simp [restartWafer]

@[simp] theorem loftWf_railPortsOff (ps : List Nat) (s : State) :
    loftWf (still true (railPortsOff ps s)) = loftWf (still true s) := by
  simp [railPortsOff]

@[simp] theorem loftWf_cartRailOff (b : Nat) (s : State) :
    loftWf (still true (cartRailOff b s)) = loftWf (still true s) := (rfl)

@[simp] theorem loftWf_cableOff (s : State) :
    loftWf (still true (cableOff s)) = loftWf (still true s) := by simp [cableOff]

@[simp] theorem loftWf_opticalOff (s : State) :
    loftWf (still true (opticalOff s)) = loftWf (still true s) := by simp [opticalOff]

@[simp] theorem loftWf_rimOff (s : State) : loftWf (still true (rimOff s)) = loftWf (still true s) := by simp [rimOff]

@[simp] theorem loftWf_gateLost (s : State) :
    loftWf (still true (gateLost s)) = loftWf (still true s) := by simp [gateLost]

@[simp] theorem loftWf_journalAction (builder channel : Nat) (s : State) :
    loftWf (still true (journalAction builder channel s)) = loftWf (still true s) := by simp [journalAction]

/-! ### The commands of Table 6.8 -/

@[simp] theorem loftWf_topologyReadRun (p : Packet) (s : State) :
    loftWf (still true (topologyReadRun p s).1) = loftWf (still true s) := (rfl)

@[simp] theorem loftWf_dormerStatusRun (p : Packet) (s : State) :
    loftWf (still true (dormerStatusRun p s).1) = loftWf (still true s) := (rfl)

@[simp] theorem loftWf_skylightReadRun (p : Packet) (s : State) :
    loftWf (still true (skylightReadRun p s).1) = loftWf (still true s) := (rfl)

@[simp] theorem loftWf_slateIsolateRun (p : Packet) (s : State) :
    loftWf (still true (slateIsolateRun p s).1) = loftWf (still true s) := by
  simp [slateIsolateRun]

@[simp] theorem loftWf_finishRestore (n status reason arg : Nat) (payload : List Byte) (s : State) :
    loftWf (still true (finishRestore n status reason arg payload s)) = loftWf (still true s) := by
  unfold finishRestore
  split <;> simp

@[simp] theorem loftWf_tryRestore (n : Nat) (s : State) :
    loftWf (still true (tryRestore n s)) = loftWf (still true s) := by simp [tryRestore]

@[simp] theorem loftWf_retryRestores (s : State) :
    loftWf (still true (retryRestores s)) = loftWf (still true s) := by simp [retryRestores]

@[simp] theorem loftWf_slateRestoreRun (p : Packet) (s : State) :
    loftWf (still true (slateRestoreRun p s).1) = loftWf (still true s) := by
  simp [slateRestoreRun]

@[simp] theorem loftWf_slateRestoreAfter (p : Packet) (s : State) :
    loftWf (still true (slateRestoreAfter p s)) = loftWf (still true s) := by
  simp [slateRestoreAfter]

@[simp] theorem loftWf_restoreDone (n : Nat) (r : SlateBist) (s : State) :
    loftWf (still true (restoreDone n r s)) = loftWf (still true s) := by
  simp [restoreDone]

/-! ### Connections and reset lines -/

@[simp] theorem loftWf_dropConnection (c : Connection) (s : State) :
    loftWf (still true (dropConnection c s)) = loftWf (still true s) := by
  unfold dropConnection
  split <;> simp

@[simp] theorem loftWf_closeConnection (c : Connection) (s : State) :
    loftWf (still true (closeConnection c s)) = loftWf (still true s) := by
  simp [closeConnection]

@[simp] theorem loftWf_dropEave (e : Eave) (s : State) :
    loftWf (still true (dropEave e s)) = loftWf (still true s) := by simp [dropEave]

@[simp] theorem loftWf_dropSessions (s : State) : loftWf (still true (dropSessions s)) = loftWf (still true s) := by
  simp [dropSessions]

@[simp] theorem loftWf_eaveTo (e : Eave) (st : ControllerState) (s : State) :
    loftWf (still true (eaveTo e st s)) = loftWf (still true s) := by
  simp [eaveTo]

@[simp] theorem loftWf_dropWindows (e : Eave) (s : State) :
    loftWf (still true (dropWindows e s)) = loftWf (still true s) := (rfl)

@[simp] theorem loftWf_splitWindows (e : Eave) (s : State) :
    loftWf (still true (splitWindows e s)) = loftWf (still true s) := (rfl)

@[simp] theorem loftWf_holdEave (e : Eave) (s : State) :
    loftWf (still true (holdEave e s)) = loftWf (still true s) := by simp [holdEave]

@[simp] theorem loftWf_releaseEave (e : Eave) (s : State) :
    loftWf (still true (releaseEave e s)) = loftWf (still true s) := by simp [releaseEave]

@[simp] theorem loftWf_nameAuthority (e : Eave) (s : State) :
    loftWf (still true (nameAuthority e s)) = loftWf (still true s) := by
  simp [nameAuthority]

@[simp] theorem loftWf_swapRecord (s : State) :
    loftWf (still true (swapRecord s)) = loftWf (still true s) := by simp [swapRecord]

/-! ### Firmware -/

@[simp] theorem loftWf_storeSlot (x : ImageSlot) (s : State) :
    loftWf (still true (storeSlot x s)) = loftWf (still true s) := (rfl)

@[simp] theorem loftWf_writePointer (kind target slot : Nat) (trial : Bool) (left : Nat) (s : State) :
    loftWf (still true (writePointer kind target slot trial left s)) = loftWf (still true s) := (rfl)

@[simp] theorem loftWf_runImage (r : Running) (s : State) :
    loftWf (still true (runImage r s)) = loftWf (still true s) := (rfl)

@[simp] theorem loftWf_setSlotState (kind slot target : Nat) (st : SlotState) (s : State) :
    loftWf (still true (setSlotState kind slot target st s)) = loftWf (still true s) := (rfl)

@[simp] theorem loftWf_bootTarget (kind target : Nat) (s : State) :
    loftWf (still true (bootTarget kind target s).1) = loftWf (still true s) := by
  unfold bootTarget
  repeat' split
  all_goals simp

@[simp] theorem loftWf_checkCartridges (s : State) :
    loftWf (still true (checkCartridges s)) = loftWf (still true s) := (rfl)

@[simp] theorem loftWf_finishActivation (status reason arg : Nat) (payload : List Byte) (s : State) :
    loftWf (still true (finishActivation status reason arg payload s)) = loftWf (still true s) := by
  simp only [finishActivation]
  repeat' split
  all_goals simp

@[simp] theorem loftWf_activated (a : Activation) (s : State) :
    loftWf (still true (activated a s)) = loftWf (still true s) := by
  unfold activated
  split <;> simp

@[simp] theorem loftWf_loadSites (a : Activation) (ns : List Nat) (s : State) :
    loftWf (still true (loadSites a ns s)) = loftWf (still true s) := by
  simp [loadSites]

@[simp] theorem loftWf_rollDone (a : Activation) (s : State) :
    loftWf (still true (rollDone a s)) = loftWf (still true s) := by simp [rollDone]

@[simp] theorem loftWf_rollNext (s : State) : loftWf (still true (rollNext s)) = loftWf (still true s) := by
  simp only [rollNext]
  repeat' split
  all_goals simp

@[simp] theorem loftWf_rollStop (a : Activation) (n : Nat) (s : State) :
    loftWf (still true (rollStop a n s)) = loftWf (still true s) := by
  simp [rollStop]

@[simp] theorem loftWf_rollBistFailed (n : Nat) (r : SlateBist) (a : Activation) (s : State) :
    loftWf (still true (rollBistFailed n r a s)) = loftWf (still true s) := by simp [rollBistFailed]

@[simp] theorem loftWf_holdForSwitch (a : Activation) (e : Eave) (s : State) :
    loftWf (still true (holdForSwitch a e s)) = loftWf (still true s) := by
  simp [holdForSwitch]

@[simp] theorem loftWf_switchDone (a : Activation) (s : State) :
    loftWf (still true (switchDone a s)) = loftWf (still true s) := by simp [switchDone]

@[simp] theorem loftWf_startActivation (s : State) :
    loftWf (still true (startActivation s)) = loftWf (still true s) := by
  simp only [startActivation]
  repeat' split
  all_goals simp

@[simp] theorem loftWf_settleActivations (s : State) :
    loftWf (still true (settleActivations s)) = loftWf (still true s) := by
  simp [settleActivations]

@[simp] theorem loftWf_activationMarker (s : State) :
    loftWf (still true (activationMarker s)) = loftWf (still true s) := by
  unfold activationMarker
  split <;> simp

@[simp] theorem loftWf_activationMark (s : State) : loftWf (still true (activationMark s)) = loftWf (still true s) := by
  unfold activationMark
  split <;> simp

@[simp] theorem loftWf_eaveReady (e : Eave) (s : State) :
    loftWf (still true (eaveReady e s)) = loftWf (still true s) := by
  unfold eaveReady
  split <;> simp

@[simp] theorem loftWf_eaveReverted (e : Eave) (s : State) :
    loftWf (still true (eaveReverted e s)) = loftWf (still true s) := by
  unfold eaveReverted
  split <;> simp

@[simp] theorem loftWf_restartTarget (a : Activation) (s : State) :
    loftWf (still true (restartTarget a s)) = loftWf (still true s) := by
  simp [restartTarget]

@[simp] theorem loftWf_startMbist (s : State) : loftWf (still true (startMbist s)) = loftWf (still true s) := by
  unfold startMbist
  split <;> simp

@[simp] theorem loftWf_mbistEnds (n : Nat) (pass : Bool) (s : State) :
    loftWf (still true (mbistEnds n pass s)) = loftWf (still true s) := by
  simp [mbistEnds]

@[simp] theorem loftWf_imgDownloadRun (p : Packet) (s : State) :
    loftWf (still true (imgDownloadRun p s).1) = loftWf (still true s) := by
  simp only [imgDownloadRun]
  repeat' split
  all_goals simp

@[simp] theorem loftWf_imgVerifyRun (p : Packet) (s : State) :
    loftWf (still true (imgVerifyRun p s).1) = loftWf (still true s) := by
  simp [imgVerifyRun]

@[simp] theorem loftWf_verifyAgain (x : ImageSlot) (result : VerifyResult) (s : State) :
    loftWf (still true (verifyAgain x result s)) = loftWf (still true s) := by simp [verifyAgain]

@[simp] theorem loftWf_imgActivateRun (p : Packet) (s : State) :
    loftWf (still true (imgActivateRun p s).1) = loftWf (still true s) := by
  unfold imgActivateRun
  repeat' split
  all_goals simp

@[simp] theorem loftWf_imgActivateAfter (p : Packet) (s : State) :
    loftWf (still true (imgActivateAfter p s)) = loftWf (still true s) := by
  simp [imgActivateAfter]

@[simp] theorem loftWf_imgConfirmRun (p : Packet) (s : State) :
    loftWf (still true (imgConfirmRun p s).1) = loftWf (still true s) := by
  simp [imgConfirmRun]

@[simp] theorem loftWf_imgStatusRun (p : Packet) (s : State) :
    loftWf (still true (imgStatusRun p s).1) = loftWf (still true s) := (rfl)

@[simp] theorem loftWf_manifestLoadRun (p : Packet) (s : State) :
    loftWf (still true (manifestLoadRun p s).1) = loftWf (still true s) := by
  simp [manifestLoadRun]

@[simp] theorem loftWf_manifestReadRun (p : Packet) (s : State) :
    loftWf (still true (manifestReadRun p s).1) = loftWf (still true s) := (rfl)

@[simp] theorem loftWf_fwIdentityRun (p : Packet) (s : State) :
    loftWf (still true (fwIdentityRun p s).1) = loftWf (still true s) := (rfl)

/-! ### The tally -/

@[simp] theorem loftWf_finishRestart (s : State) :
    loftWf (still true (finishRestart s)) = loftWf (still true s) := by simp [finishRestart]

@[simp] theorem loftWf_reachHeld (cause : Nat) (s : State) :
    loftWf (still true (reachHeld cause s)) = loftWf (still true s) := by simp [reachHeld]

@[simp] theorem loftWf_checkReady (s : State) :
    loftWf (still true (checkReady s)) = loftWf (still true s) := by simp [checkReady]

@[simp] theorem loftWf_startAcquiring (s : State) :
    loftWf (still true (startAcquiring s)) = loftWf (still true s) := (rfl)

@[simp] theorem loftWf_releaseWaiting (s : State) :
    loftWf (still true (releaseWaiting s)) = loftWf (still true s) := by simp [releaseWaiting]

@[simp] theorem loftWf_tallyLocked (s : State) :
    loftWf (still true (tallyLocked s)) = loftWf (still true s) := by simp [tallyLocked]

@[simp] theorem loftWf_loadTally (m : Nat) (s : State) :
    loftWf (still true (loadTally m s)) = loftWf (still true s) := by simp [loadTally]

@[simp] theorem loftWf_noteError (e : Int) (s : State) :
    loftWf (still true (noteError e s)) = loftWf (still true s) := by simp [noteError]

@[simp] theorem loftWf_handleError (e : Int) (expected : Nat) (s : State) :
    loftWf (still true (handleError e expected s)) = loftWf (still true s) := by
  simp [handleError]

@[simp] theorem loftWf_markTally (s : State) : loftWf (still true (markTally s)) = loftWf (still true s) := by
  simp only [markTally]
  repeat' split
  all_goals simp

@[simp] theorem loftWf_anchorAt (capture : Option PtpCapture) (s : State) :
    loftWf (still true (anchorAt capture s)) = loftWf (still true s) := by
  unfold anchorAt
  split <;> simp

@[simp] theorem loftWf_broadcastTally (s : State) : loftWf (still true (broadcastTally s)) = loftWf (still true s) := by
  unfold broadcastTally
  split <;> simp

@[simp] theorem loftWf_toMarker (s : State) : loftWf (still true (toMarker s)) = loftWf (still true s) := by
  unfold toMarker
  split <;> simp

@[simp] theorem loftWf_syncLost (s : State) : loftWf (still true (syncLost s)) = loftWf (still true s) := by
  simp only [syncLost]
  repeat' split
  all_goals simp

@[simp] theorem loftWf_tallyStatusRun (p : Packet) (s : State) :
    loftWf (still true (tallyStatusRun p s).1) = loftWf (still true s) := (rfl)

@[simp] theorem loftWf_tallyReacquireRun (p : Packet) (s : State) :
    loftWf (still true (tallyReacquireRun p s).1) = loftWf (still true s) := (rfl)

@[simp] theorem loftWf_tallyReacquireAfter (p : Packet) (s : State) :
    loftWf (still true (tallyReacquireAfter p s)) = loftWf (still true s) := by
  simp [tallyReacquireAfter]

/-! ### The Coping unit -/

@[simp] theorem loftWf_setSense (ch : Nat) (f : SenseChannel → SenseChannel) (s : State) :
    loftWf (still true (setSense ch f s)) = loftWf (still true s) := (rfl)

@[simp] theorem loftWf_setAout (ch : Nat) (f : AoutChannel → AoutChannel) (s : State) :
    loftWf (still true (setAout ch f s)) = loftWf (still true s) := (rfl)

@[simp] theorem loftWf_driveCode (ch : Nat) (code : U16) (s : State) :
    loftWf (still true (driveCode ch code s)) = loftWf (still true s) := by
  simp [driveCode]

@[simp] theorem loftWf_disturb (kind : Nat → Bool) (ch : Nat) (s : State) :
    loftWf (still true (disturb kind ch s)) = loftWf (still true s) := by
  unfold disturb
  split <;> simp

@[simp] theorem loftWf_dropEntry (ch : Nat) (s : State) :
    loftWf (still true (dropEntry ch s)) = loftWf (still true s) := by
  unfold dropEntry
  split <;> simp

@[simp] theorem loftWf_writeAout (ch : Nat) (code : U16) (s : State) :
    loftWf (still true (writeAout ch code s)) = loftWf (still true s) := by
  simp [writeAout]

@[simp] theorem loftWf_enterFallback (ch : Nat) (s : State) :
    loftWf (still true (enterFallback ch s)) = loftWf (still true s) := by
  simp [enterFallback]

@[simp] theorem loftWf_applySpan (ch v : Nat) (s : State) :
    loftWf (still true (applySpan ch v s)) = loftWf (still true s) := by simp [applySpan]

@[simp] theorem loftWf_aoutWriteRun (p : Packet) (s : State) :
    loftWf (still true (aoutWriteRun p s).1) = loftWf (still true s) := by
  simp [aoutWriteRun]

@[simp] theorem loftWf_aoutReadRun (p : Packet) (s : State) :
    loftWf (still true (aoutReadRun p s).1) = loftWf (still true s) := (rfl)

@[simp] theorem loftWf_settleFlow (s : State) : loftWf (still true (settleFlow s)) = loftWf (still true s) := (rfl)

@[simp] theorem loftWf_safeAout (s : State) :
    loftWf (still true (safeAout s)) = loftWf (still true s) := by simp [safeAout]

@[simp] theorem loftWf_noteFlow (ch : Nat) (raw : Int) (s : State) :
    loftWf (still true (noteFlow ch raw s)) = loftWf (still true s) := by
  simp [noteFlow]

@[simp] theorem loftWf_resetChannel (ch : Nat) (s : State) :
    loftWf (still true (resetChannel ch s)) = loftWf (still true s) := by
  simp [resetChannel]

@[simp] theorem loftWf_syncAll (s : State) :
    loftWf (still true (syncAll s)) = loftWf (still true s) := by simp [syncAll]

@[simp] theorem loftWf_senseSyncRun (p : Packet) (s : State) :
    loftWf (still true (senseSyncRun p s).1) = loftWf (still true s) := by
  simp [senseSyncRun]

@[simp] theorem loftWf_senseReadRun (p : Packet) (s : State) :
    loftWf (still true (senseReadRun p s).1) = loftWf (still true s) := (rfl)

@[simp] theorem loftWf_endCalibration (status reason : Nat) (payload : List Byte) (s : State) :
    loftWf (still true (endCalibration status reason payload s)) = loftWf (still true s) := by
  unfold endCalibration
  split <;> simp

@[simp] theorem loftWf_calRunRun (p : Packet) (s : State) :
    loftWf (still true (calRunRun p s).1) = loftWf (still true s) := (rfl)

@[simp] theorem loftWf_calRunAfter (p : Packet) (s : State) :
    loftWf (still true (calRunAfter p s)) = loftWf (still true s) := by
  unfold calRunAfter
  repeat' split
  all_goals simp

@[simp] theorem loftWf_calResult (k : Calibration) (s : State) :
    loftWf (still true (calResult k s).1) = loftWf (still true s) := by simp [calResult]

/-! ### Counters -/

@[simp] theorem loftWf_capture (id : Nat) (s : State) :
    loftWf (still true (capture id s)) = loftWf (still true s) := (rfl)

@[simp] theorem loftWf_captureOthers (s : State) :
    loftWf (still true (captureOthers s)) = loftWf (still true s) := by simp [captureOthers]

@[simp] theorem loftWf_snapNow (id : Nat) (s : State) :
    loftWf (still true (snapNow id s)) = loftWf (still true s) := by simp [snapNow]

@[simp] theorem loftWf_takeArmed (s : State) : loftWf (still true (takeArmed s)) = loftWf (still true s) := by
  unfold takeArmed
  split <;> simp

@[simp] theorem loftWf_takePeriodic (m : Nat) (s : State) :
    loftWf (still true (takePeriodic m s)) = loftWf (still true s) := by simp [takePeriodic]

@[simp] theorem loftWf_snapsBefore (tick : Nat) (s : State) :
    loftWf (still true (snapsBefore tick s)) = loftWf (still true s) := by
  simp only [snapsBefore]
  repeat' split
  all_goals simp

@[simp] theorem loftWf_counterSnapRun (p : Packet) (s : State) :
    loftWf (still true (counterSnapRun p s).1) = loftWf (still true s) := (rfl)

@[simp] theorem loftWf_counterReadRun (p : Packet) (s : State) :
    loftWf (still true (counterReadRun p s).1) = loftWf (still true s) := (rfl)

/-! ### Parameters -/

@[simp] theorem loftWf_policyChanged (s : State) : loftWf (still true (policyChanged s)) = loftWf (still true s) := by
  refine loftWf_forEach (fun p t => ?_) _ s
  dsimp only
  repeat' split
  all_goals simp

@[simp] theorem loftWf_shareChanged (old : Nat) (s : State) :
    loftWf (still true (shareChanged old s)) = loftWf (still true s) := by
  simp [shareChanged]

@[simp] theorem loftWf_paramEffect (id oldShare : Nat) (s : State) :
    loftWf (still true (paramEffect id oldShare s)) = loftWf (still true s) := by
  simp [paramEffect]

@[simp] theorem loftWf_applyParam (id v : Nat) (s : State) :
    loftWf (still true (applyParam id v s)) = loftWf (still true s) := by simp [applyParam]

@[simp] theorem loftWf_paramStageRun (p : Packet) (s : State) :
    loftWf (still true (paramStageRun p s).1) = loftWf (still true s) := by
  simp only [paramStageRun]
  repeat' split
  all_goals simp

@[simp] theorem loftWf_paramReadRun (p : Packet) (s : State) :
    loftWf (still true (paramReadRun p s).1) = loftWf (still true s) := by
  simp only [paramReadRun]
  repeat' split
  all_goals simp

@[simp] theorem loftWf_paramDescribeRun (p : Packet) (s : State) :
    loftWf (still true (paramDescribeRun p s).1) = loftWf (still true s) := by
  simp only [paramDescribeRun]
  repeat' split
  all_goals simp

@[simp] theorem loftWf_paramCommitRun (p : Packet) (s : State) :
    loftWf (still true (paramCommitRun p s).1) = loftWf (still true s) := by
  simp only [paramCommitRun, loftWf_fst_ite]
  cases setFault (stagedOf p.originator s) s <;> simp

@[simp] theorem loftWf_paramDiscardRun (p : Packet) (s : State) :
    loftWf (still true (paramDiscardRun p s).1) = loftWf (still true s) := by
  simp [paramDiscardRun]

@[simp] theorem loftWf_applyMarked (id v : Nat) (s : State) :
    loftWf (still true (applyMarked id v s)) = loftWf (still true s) := by
  simp [applyMarked]

@[simp] theorem loftWf_applySet (x : Scheduled) (s : State) :
    loftWf (still true (applySet x s)) = loftWf (still true s) := by simp [applySet]

/-! ### Freeze and snapshot -/

@[simp] theorem loftWf_disarm (rs : List FreezeRequest) (s : State) :
    loftWf (still true (disarm rs s)) = loftWf (still true s) := by simp [disarm]

@[simp] theorem loftWf_freezePort (p : Nat) (s : State) :
    loftWf (still true (freezePort p s)) = loftWf (still true s) := by simp [freezePort]

@[simp] theorem loftWf_freezeNow (s : State) :
    loftWf (still true (freezeNow s)) = loftWf (still true s) := by simp [freezeNow]

@[simp] theorem loftWf_thawPort (p : Nat) (s : State) :
    loftWf (still true (thawPort p s)) = loftWf (still true s) := by simp [thawPort]

@[simp] theorem loftWf_thawTally (s : State) : loftWf (still true (thawTally s)) = loftWf (still true s) := by
  unfold thawTally
  split <;> simp

@[simp] theorem loftWf_repeatSlice (s : State) : loftWf (still true (repeatSlice s)) = loftWf (still true s) := by
  unfold repeatSlice
  split <;> simp

@[simp] theorem loftWf_thawNow (s : State) :
    loftWf (still true (thawNow s)) = loftWf (still true s) := by simp [thawNow]

@[simp] theorem loftWf_thawRun (p : Packet) (s : State) :
    loftWf (still true (thawRun p s).1) = loftWf (still true s) := by simp [thawRun]

@[simp] theorem loftWf_restartRun (p : Packet) (s : State) :
    loftWf (still true (restartRun p s).1) = loftWf (still true s) := by simp [restartRun]

@[simp] theorem loftWf_abortOutside (s : State) :
    loftWf (still true (abortOutside s)) = loftWf (still true s) := by simp [abortOutside]

@[simp] theorem loftWf_restartAfter (p : Packet) (s : State) :
    loftWf (still true (restartAfter p s)) = loftWf (still true s) := by
  simp [restartAfter]

@[simp] theorem loftWf_freezeRun (p : Packet) (s : State) :
    loftWf (still true (freezeRun p s).1) = loftWf (still true s) := by simp [freezeRun]

@[simp] theorem loftWf_freezeAtRun (p : Packet) (s : State) :
    loftWf (still true (freezeAtRun p s).1) = loftWf (still true s) := by
  unfold freezeAtRun
  split <;> simp

@[simp] theorem loftWf_snapStartRun (p : Packet) (s : State) :
    loftWf (still true (snapStartRun p s).1) = loftWf (still true s) := by
  simp [snapStartRun]

@[simp] theorem loftWf_startReadout (s : State) : loftWf (still true (startReadout s)) = loftWf (still true s) := by
  unfold startReadout
  repeat' split
  all_goals simp

/-! ### The referee -/

@[simp] theorem loftWf_dropSwap (s : State) :
    loftWf (still true (dropSwap s)) = loftWf (still true s) := by simp [dropSwap]

@[simp] theorem loftWf_restartOnly (e : Eave) (s : State) :
    loftWf (still true (restartOnly e s)) = loftWf (still true s) := by simp [restartOnly]

@[simp] theorem loftWf_divergedToFinial (r : Diverged) (s : State) :
    loftWf (still true (divergedToFinial r s)) = loftWf (still true s) := by
  simp [divergedToFinial]

@[simp] theorem loftWf_passSchedule (ts : Nat) (s : State) :
    loftWf (still true (passSchedule ts s)) = loftWf (still true s) := by
  simp [passSchedule]

@[simp] theorem loftWf_skipSwap (ts : Nat) (s : State) :
    loftWf (still true (skipSwap ts s)) = loftWf (still true s) := by
  simp only [skipSwap]
  repeat' split
  all_goals simp

@[simp] theorem loftWf_compareDigests (s : State) :
    loftWf (still true (compareDigests s)) = loftWf (still true s) := by simp [compareDigests]

@[simp] theorem loftWf_swapReported (s : State) :
    loftWf (still true (swapReported s)) = loftWf (still true s) := by simp [swapReported]

@[simp] theorem loftWf_intervalEnd (e : Eave) (s : State) :
    loftWf (still true (intervalEnd e s)) = loftWf (still true s) := by simp [intervalEnd]

@[simp] theorem loftWf_roleSwapRun (p : Packet) (s : State) :
    loftWf (still true (roleSwapRun p s).1) = loftWf (still true s) := by
  simp [roleSwapRun]

@[simp] theorem loftWf_adoptAuthority (reportA reportB : Byte) (s : State) :
    loftWf (still true (adoptAuthority reportA reportB s)) = loftWf (still true s) := by
  unfold adoptAuthority
  split <;> simp

@[simp] theorem loftWf_controllerStatusRun (p : Packet) (s : State) :
    loftWf (still true (controllerStatusRun p s).1) = loftWf (still true s) :=
  (rfl)

@[simp] theorem loftWf_inventoryRun (p : Packet) (s : State) :
    loftWf (still true (inventoryRun p s).1) = loftWf (still true s) := (rfl)

/-! ### Power -/

@[simp] theorem loftWf_eraseDownloads (kind : Nat) (s : State) :
    loftWf (still true (eraseDownloads kind s)) = loftWf (still true s) := (rfl)

@[simp] theorem loftWf_cartBoot (b : Nat) (s : State) :
    loftWf (still true (cartBoot b s)) = loftWf (still true s) := by simp [cartBoot]

@[simp] theorem loftWf_cartRailOn (b : Nat) (s : State) :
    loftWf (still true (cartRailOn b s)) = loftWf (still true s) := by simp [cartRailOn]

@[simp] theorem loftWf_railsOn (s : State) :
    loftWf (still true (railsOn s)) = loftWf (still true s) := by simp [railsOn]

@[simp] theorem loftWf_stepSeven (s : State) :
    loftWf (still true (stepSeven s)) = loftWf (still true s) := by simp [stepSeven]

@[simp] theorem loftWf_railUp (n : Nat) (s : State) :
    loftWf (still true (railUp n s)) = loftWf (still true s) := by simp [railUp]

@[simp] theorem loftWf_enableNext (s : State) : loftWf (still true (enableNext s)) = loftWf (still true s) := by
  unfold enableNext
  repeat' split
  all_goals simp

@[simp] theorem loftWf_raisePowerFail (s : State) :
    loftWf (still true (raisePowerFail s)) = loftWf (still true s) := by simp [raisePowerFail]

@[simp] theorem loftWf_busReturned (s : State) :
    loftWf (still true (busReturned s)) = loftWf (still true s) := by simp [busReturned]

@[simp] theorem loftWf_cartridgeLost (c : CartridgeId) (s : State) :
    loftWf (still true (cartridgeLost c s)) = loftWf (still true s) := by
  unfold cartridgeLost
  split <;> simp

@[simp] theorem loftWf_trayStateRun (p : Packet) (s : State) :
    loftWf (still true (trayStateRun p s).1) = loftWf (still true s) := (rfl)

@[simp] theorem loftWf_changeMode (m : Mode) (originator : U32) (s : State) :
    loftWf (still true (changeMode m originator s)) = loftWf (still true s) := by simp [changeMode]

@[simp] theorem loftWf_modeSetRun (p : Packet) (s : State) :
    loftWf (still true (modeSetRun p s).1) = loftWf (still true s) := by
  simp only [modeSetRun]
  repeat' split
  all_goals simp

/-! ### Boot -/

@[simp] theorem loftWf_noteEpoch (i v : Nat) (s : State) :
    loftWf (still true (noteEpoch i v s)) = loftWf (still true s) := (rfl)

@[simp] theorem loftWf_quarantine (e : Eave) (s : State) :
    loftWf (still true (quarantine e s)) = loftWf (still true s) := by simp [quarantine]

@[simp] theorem loftWf_settleAdmission (s : State) :
    loftWf (still true (settleAdmission s)) = loftWf (still true s) := by simp [settleAdmission]

@[simp] theorem loftWf_admitOne (s : State) : loftWf (still true (admitOne s)) = loftWf (still true s) := by
  simp only [admitOne]
  repeat' split
  all_goals simp

@[simp] theorem loftWf_firstBoot (e : Eave) (bad : Bool) (ee : EpochResult) (s : State) :
    loftWf (still true (firstBoot e bad ee s)) = loftWf (still true s) := by
  unfold firstBoot
  repeat' split
  all_goals simp

@[simp] theorem loftWf_laterBoot (e : Eave) (bad : Bool) (ee : EpochResult) (s : State) :
    loftWf (still true (laterBoot e bad ee s)) = loftWf (still true s) := by
  unfold laterBoot
  split <;> simp

@[simp] theorem loftWf_resetServo (e : Eave) (s : State) :
    loftWf (still true (resetServo e s)) = loftWf (still true s) := by
  unfold resetServo
  split <;> simp

@[simp] theorem loftWf_raiseWaferReset (s : State) :
    loftWf (still true (raiseWaferReset s)) = loftWf (still true s) := by simp [raiseWaferReset]

@[simp] theorem loftWf_releaseWafer (s : State) :
    loftWf (still true (releaseWafer s)) = loftWf (still true s) := by simp [releaseWafer]

@[simp] theorem loftWf_siteBist (r : BistResult) (n : Nat) (s : State) :
    loftWf (still true (siteBist r n s)) = loftWf (still true s) := by
  simp [siteBist]

@[simp] theorem loftWf_holdWafer (cause : Nat) (s : State) :
    loftWf (still true (holdWafer cause s)) = loftWf (still true s) := by simp [holdWafer]

@[simp] theorem loftWf_recover (r : LoadResult) (s : State) :
    loftWf (still true (recover r s)) = loftWf (still true s) := by simp [recover]

@[simp] theorem loftWf_bootRecovery {release : State → State} (h : ∀ u, loftWf (still true (release u)) = loftWf
    (still true u)) (s : State) :
    
    loftWf (still true (bootRecovery release s)) = loftWf (still true s) := by
  simp [bootRecovery, h]

@[simp] theorem loftWf_fallBack (s : State) :
    loftWf (still true (fallBack s)) = loftWf (still true s) := by simp [fallBack]

@[simp] theorem loftWf_startSite (n : Nat) (s : State) :
    loftWf (still true (startSite n s)) = loftWf (still true s) := by simp [startSite]

@[simp] theorem loftWf_rehomeAtBoot (n : Nat) (s : State) :
    loftWf (still true (rehomeAtBoot n s)) = loftWf (still true s) := by simp [rehomeAtBoot]

@[simp] theorem loftWf_unanchorInBand (s : State) :
    loftWf (still true (unanchorInBand s)) = loftWf (still true s) := (rfl)

@[simp] theorem loftWf_bootEndsActivation (reverted : Bool) (s : State) :
    loftWf (still true (bootEndsActivation reverted s)) = loftWf (still true s) := by
  unfold bootEndsActivation
  split <;> simp

@[simp] theorem loftWf_startSlates (reverted : Bool) (s : State) :
    loftWf (still true (startSlates reverted s)) = loftWf (still true s) := by
  simp [startSlates]

@[simp] theorem loftWf_checkManifest (reverted : Bool) (s : State) :
    loftWf (still true (checkManifest reverted s)) = loftWf (still true s) := by
  simp [checkManifest]

@[simp] theorem loftWf_checkWafer (reverted : Bool) (s : State) :
    loftWf (still true (checkWafer reverted s)) = loftWf (still true s) := by
  unfold checkWafer
  split <;> simp

theorem loftWf_of_rechoose {s t : State} (h : rechoose s = some t) : loftWf (still true t) = loftWf (still true s) := by
  simp only [rechoose] at h
  repeat' split at h
  all_goals cases h
  all_goals simp

@[simp] theorem loftWf_loaded (r : LoadResult) (reverted : Bool) (s : State) :
    loftWf (still true (loaded r reverted s)) = loftWf (still true s) := by
  simp only [loaded]
  split
  · simp
  · split
    · next hr => simp [loftWf_of_rechoose hr]
    · simp

@[simp] theorem loftWf_bootRecords (replaced : Bool) (s : State) :
    loftWf (still true (bootRecords replaced s)) = loftWf (still true s) := by
  simp [bootRecords]

@[simp] theorem loftWf_mountAll (r : MountResult) (s : State) :
    loftWf (still true (mountAll r s)) = loftWf (still true s) := by
  simp only [mountAll]
  split
  · rfl
  · simp

@[simp] theorem loftWf_latchEave (e : Eave) (on : Bool) (s : State) :
    loftWf (still true (latchEave e on s)) = loftWf (still true s) := by
  simp [latchEave]

@[simp] theorem loftWf_thatchOff (s : State) :
    loftWf (still true (thatchOff s)) = loftWf (still true s) := by simp [thatchOff]

@[simp] theorem loftWf_latchWafer (on : Bool) (s : State) :
    loftWf (still true (latchWafer on s)) = loftWf (still true s) := by simp [latchWafer]

/-! ### Patrol and boundary scan -/

@[simp] theorem loftWf_withdraw (x : Slice) (s : State) :
    loftWf (still true (withdraw x s)) = loftWf (still true s) := by
  unfold withdraw
  split <;> simp

@[simp] theorem loftWf_endSlice (x : Slice) (s : State) :
    loftWf (still true (endSlice x s)) = loftWf (still true s) := by simp [endSlice]

@[simp] theorem loftWf_swapRam (n h : Nat) (s : State) :
    loftWf (still true (swapRam n h s)) = loftWf (still true s) := by simp [swapRam]

@[simp] theorem loftWf_patrolStatusRun (p : Packet) (s : State) :
    loftWf (still true (patrolStatusRun p s).1) = loftWf (still true s) := (rfl)

@[simp] theorem loftWf_setTap (t : Tap) (u : TapUnit) (s : State) :
    loftWf (still true (setTap t u s)) = loftWf (still true s) := by
  unfold setTap
  split <;> simp

@[simp] theorem loftWf_loadTap (t : Tap) (ir : Byte) (dr : Nat) (s : State) :
    loftWf (still true (loadTap t ir dr s)) = loftWf (still true s) := by
  simp [loadTap]

@[simp] theorem loftWf_bypassTap (t : Tap) (s : State) :
    loftWf (still true (bypassTap t s)) = loftWf (still true s) := by simp [bypassTap]

@[simp] theorem loftWf_destructive {f : State → State} (h : ∀ u, loftWf (still true (f u)) = loftWf (still true u))
    (t : Tap) (s : State) :
    
    loftWf (still true (destructive t f s)) = loftWf (still true s) := by
  simp [destructive, h]

@[simp] theorem loftWf_captureFree (t : Tap) (ir : Byte) (s : State) :
    loftWf (still true (captureFree t ir s)) = loftWf (still true s) := by
  simp [captureFree]

@[simp] theorem loftWf_leaveMbist (s : State) : loftWf (still true (leaveMbist s)) = loftWf (still true s) := by
  unfold leaveMbist
  split <;> simp

@[simp] theorem loftWf_askMbist (n : Nat) (s : State) :
    loftWf (still true (askMbist n s)) = loftWf (still true s) := by simp [askMbist]

/-! ### The sideband -/

@[simp] theorem loftWf_sidebandError (s : State) :
    loftWf (still true (sidebandError s)) = loftWf (still true s) := (rfl)

@[simp] theorem loftWf_rackKnown (p : Nat) (s : State) :
    loftWf (still true (rackKnown p s)) = loftWf (still true s) := by
  simp only [rackKnown]
  repeat' split
  all_goals simp

/-! ### Sessions -/

@[simp] theorem loftWf_admitClient (conn : Nat) (e : Eave) (hello : TlsHello) (s : State) :
    loftWf (still true (admitClient conn e hello s)) = loftWf (still true s) := by simp [admitClient]

@[simp] theorem loftWf_answerHere (p : Packet) (opcode status reason arg : Nat) (payload : List Byte) (s : State) :
    loftWf (still true (answerHere p opcode status reason arg payload s)) = loftWf (still true s) := by
  unfold answerHere
  cases p.path <;> simp

@[simp] theorem loftWf_bindConnection (n : Nat) (o : U32) (s : State) :
    loftWf (still true (bindConnection n o s)) = loftWf (still true s) := (rfl)

@[simp] theorem loftWf_newSession (c : Connection) (p : Packet) (s : State) :
    loftWf (still true (newSession c p s).1) = loftWf (still true s) :=
  (rfl)

@[simp] theorem loftWf_sessionOpen (c : Connection) (p : Packet) (s : State) :
    loftWf (still true (sessionOpen c p s)) = loftWf (still true s) := by
  unfold sessionOpen
  split <;> simp

@[simp] theorem loftWf_identityRun (p : Packet) (s : State) :
    loftWf (still true (identityRun p s).1) = loftWf (still true s) := (rfl)

@[simp] theorem loftWf_featuresRun (p : Packet) (s : State) :
    loftWf (still true (featuresRun p s).1) = loftWf (still true s) := (rfl)

@[simp] theorem loftWf_certReadRun (p : Packet) (s : State) :
    loftWf (still true (certReadRun p s).1) = loftWf (still true s) := (rfl)

@[simp] theorem loftWf_completionReadRun (p : Packet) (s : State) :
    loftWf (still true (completionReadRun p s).1) = loftWf (still true s) := (rfl)

@[simp] theorem loftWf_sessionCloseRun (p : Packet) (s : State) :
    loftWf (still true (sessionCloseRun p s).1) = loftWf (still true s) := (rfl)

@[simp] theorem loftWf_sessionCloseAfter (p : Packet) (s : State) :
    loftWf (still true (sessionCloseAfter p s)) = loftWf (still true s) := (rfl)

@[simp] theorem loftWf_rolemapReadRun (p : Packet) (s : State) :
    loftWf (still true (rolemapReadRun p s).1) = loftWf (still true s) := (rfl)

@[simp] theorem loftWf_rolemapWriteRun (p : Packet) (s : State) :
    loftWf (still true (rolemapWriteRun p s).1) = loftWf (still true s) := by
  simp [rolemapWriteRun]

@[simp] theorem loftWf_rolemapWriteAfter (p : Packet) (s : State) :
    loftWf (still true (rolemapWriteAfter p s)) = loftWf (still true s) := by
  simp [rolemapWriteAfter]

/-! ### Reception of Batten packets -/

@[simp] theorem loftWf_countAt (c : Instr) (p : Packet) (code : Nat) (s : State) :
    loftWf (still true (countAt c p code s)) = loftWf (still true s) := (rfl)

@[simp] theorem loftWf_takeCopy (key : Nat) (c : Instr) (p : Packet) (s : State) :
    loftWf (still true (takeCopy key c p s)) = loftWf (still true s) := by
  unfold takeCopy
  repeat' split
  all_goals simp

@[simp] theorem loftWf_settleDue (s : State) :
    loftWf (still true (settleDue s)) = loftWf (still true s) := by simp [settleDue]

@[simp] theorem loftWf_again (c : Instr) (p : Packet) (first : Digest) (path : Path) (s : State) :
    loftWf (still true (again c p first path s)) = loftWf (still true s) := by simp [again]

@[simp] theorem loftWf_stale (c : Instr) (p : Packet) (s : State) :
    loftWf (still true (stale c p s)) = loftWf (still true s) := by simp [stale]

theorem loftWf_of_judged {key : Nat} {c : Instr} {p : Packet} {s t : State} (h : judged key c p s = some t) :
    loftWf (still true t) = loftWf (still true s) := by
  simp only [judged] at h
  repeat' split at h
  all_goals cases h
  all_goals simp

@[simp] theorem loftWf_record (key : Nat) (c : Instr) (p : Packet) (s : State) :
    loftWf (still true (record key c p s)) = loftWf (still true s) :=
  (rfl)

@[simp] theorem loftWf_freePacket (p : Packet) (s : State) :
    loftWf (still true (freePacket p s)) = loftWf (still true s) := by
  unfold freePacket
  split <;> simp

@[simp] theorem loftWf_anchor (p : Packet) (s : State) :
    loftWf (still true (anchor p s)) = loftWf (still true s) := by simp [anchor]

@[simp] theorem loftWf_battenIn (p : Nat) (endpoint : U16) (bytes : List Byte) (s : State) :
    loftWf (still true (battenIn p endpoint bytes s).1) = loftWf (still true s) := by simp [battenIn]

@[simp] theorem loftWf_carry (c : Instr) (p : Packet) (s : State) :
    loftWf (still true (carry c p s).1) = loftWf (still true s) := by
  simp only [carry]
  cases p.path with
  | management n =>
    dsimp only
    cases connection n s <;> simp
  | inBand q e => simp
  | ridge e => simp
  | finial => simp

@[simp] theorem loftWf_idleTick (s : State) :
    loftWf (still true (idleTick s)) = loftWf (still true s) := by simp [idleTick]

/-! ### The meanings of the commands, and a step -/

@[simp] theorem loftNext_execRegionSealDone (s : State) :
    loftNext (execRegionSealDone s) = some (loftWf (still true s)) := by
  unfold execRegionSealDone
  repeat' split
  all_goals simp

@[simp] theorem loftNext_execResealDone (handle : U32) (s : State) :
    loftNext (execResealDone handle s) = some (loftWf (still true s)) := by
  unfold execResealDone
  split <;> simp

@[simp] theorem loftNext_execContribEarlyHoldExpiry (port : Nat) (s : State) :
    loftNext (execContribEarlyHoldExpiry port s) = some (loftWf (still true s)) := by
  unfold execContribEarlyHoldExpiry
  repeat' split
  all_goals simp

@[simp] theorem loftNext_execCollectiveTimeout (collective : U64) (s : State) :
    loftNext (execCollectiveTimeout collective s) = some (loftWf (still true s)) := by
  unfold execCollectiveTimeout
  split <;> simp

@[simp] theorem loftNext_execReplayCollectiveDone (s : State) :
    loftNext (execReplayCollectiveDone s) = some (loftWf (still true s)) := by
  unfold execReplayCollectiveDone
  repeat' split
  all_goals simp

@[simp] theorem loftNext_execCartridgeMcuReady (target : Nat) (s : State) :
    loftNext (execCartridgeMcuReady target s) = some (loftWf (still true s)) := by
  unfold execCartridgeMcuReady
  split <;> simp

@[simp] theorem loftNext_execRollSiteReady (site_ : Nat) (s : State) :
    loftNext (execRollSiteReady site_ s) = some (loftWf (still true s)) := by
  unfold execRollSiteReady
  split <;> simp

@[simp] theorem loftNext_execActivationTimeout (site_ : Nat) (s : State) :
    loftNext (execActivationTimeout site_ s) = some (loftWf (still true s)) := by
  unfold execActivationTimeout
  split <;> simp

@[simp] theorem loftNext_execSlateBistDone (site_ : Nat) (result : SlateBist) (s : State) :
    loftNext (execSlateBistDone site_ result s) = some (loftWf (still true s)) := by
  unfold execSlateBistDone
  repeat' split
  all_goals simp

@[simp] theorem loftNext_execRehomeMapSwitch (s : State) :
    loftNext (execRehomeMapSwitch s) = some (loftWf (still true s)) := by
  simp only [execRehomeMapSwitch]
  repeat' split
  all_goals simp

@[simp] theorem loftNext_execImgVerifyDone (result : VerifyResult) (s : State) :
    loftNext (execImgVerifyDone result s) = some (loftWf (still true s)) := by
  unfold execImgVerifyDone
  repeat' split
  all_goals simp

@[simp] theorem loftNext_execPtpMessage (eave : Eave) (servo : PtpMessage) (s : State) :
    loftNext (execPtpMessage eave servo s) = some (loftWf (still true s)) := by
  unfold execPtpMessage
  repeat' split
  all_goals simp

@[simp] theorem loftNext_execCalStartCheckEnd (window : CalWindow) (s : State) :
    loftNext (execCalStartCheckEnd window s) = some (loftWf (still true s)) := by
  unfold execCalStartCheckEnd
  split <;> simp

@[simp] theorem loftNext_execAoutSelfCodeSwitch (s : State) :
    loftNext (execAoutSelfCodeSwitch s) = some (loftWf (still true s)) := by
  unfold execAoutSelfCodeSwitch
  split <;> simp

@[simp] theorem loftNext_execCalMeasurementEnd (window : CalWindow) (s : State) :
    loftNext (execCalMeasurementEnd window s) = some (loftWf (still true s)) := by
  unfold execCalMeasurementEnd
  split <;> simp

@[simp] theorem loftNext_execCalEndCheckEnd (window : CalWindow) (s : State) :
    loftNext (execCalEndCheckEnd window s) = some (loftWf (still true s)) := by
  unfold execCalEndCheckEnd
  split <;> simp

@[simp] theorem loftNext_execPeriodicSnapshot (s : State) :
    loftNext (execPeriodicSnapshot s) = some (loftWf (still true s)) := by
  simp only [execPeriodicSnapshot]
  repeat' split
  all_goals simp

@[simp] theorem loftNext_execParamSetApply (s : State) :
    loftNext (execParamSetApply s) = some (loftWf (still true s)) := by
  unfold execParamSetApply
  split <;> simp

@[simp] theorem loftNext_execFreezeAtReached (s : State) :
    loftNext (execFreezeAtReached s) = some (loftWf (still true s)) := by
  unfold execFreezeAtReached
  split <;> simp

@[simp] theorem loftNext_execSnapDone (durationMs : Nat) (s : State) :
    loftNext (execSnapDone durationMs s) = some (loftWf (still true s)) := by
  unfold execSnapDone
  split <;> simp

@[simp] theorem loftNext_execRoleSwapCheck (s : State) :
    loftNext (execRoleSwapCheck s) = some (loftWf (still true s)) := by
  unfold execRoleSwapCheck
  repeat' split
  all_goals simp

@[simp] theorem loftNext_execRoleSwapMarker (s : State) :
    loftNext (execRoleSwapMarker s) = some (loftWf (still true s)) := by
  simp only [execRoleSwapMarker]
  repeat' split
  all_goals simp

@[simp] theorem loftNext_execFinialWatchdogRestart (reportA reportB : Byte) (s : State) :
    loftNext (execFinialWatchdogRestart reportA reportB s) = some (loftWf (still true s)) := by
  simp only [execFinialWatchdogRestart]
  repeat' split
  all_goals simp

@[simp] theorem loftNext_execPatrolSliceDue (s : State) :
    loftNext (execPatrolSliceDue s) = some (loftWf (still true s)) := by
  simp only [execPatrolSliceDue]
  repeat' split
  all_goals simp

@[simp] theorem loftNext_execPatrolNoticeEnd (s : State) :
    loftNext (execPatrolNoticeEnd s) = some (loftWf (still true s)) := by
  unfold execPatrolNoticeEnd
  split <;> simp

@[simp] theorem loftNext_execPatrolSliceIsolate (s : State) :
    loftNext (execPatrolSliceIsolate s) = some (loftWf (still true s)) := by
  unfold execPatrolSliceIsolate
  repeat' split
  all_goals simp

@[simp] theorem loftNext_execPatrolDrainTimeout (s : State) :
    loftNext (execPatrolDrainTimeout s) = some (loftWf (still true s)) := by
  unfold execPatrolDrainTimeout
  split <;> simp

@[simp] theorem loftNext_execEventAckWrite (number : U32) (s : State) :
    loftNext (execEventAckWrite number s) = some (loftWf (still true s)) := by
  unfold execEventAckWrite
  split <;> simp

@[simp] theorem loftNext_execConnectionClose (conn : Nat) (s : State) :
    loftNext (execConnectionClose conn s) = some (loftWf (still true s)) := by
  unfold execConnectionClose
  split <;> simp

@[simp] theorem loftNext_execMalformedPacket (path : Path) (fault : PacketFault) (bytes : List Byte) (s : State) :
    loftNext (execMalformedPacket path fault bytes s) = some (loftWf (still true s)) := by
  simp only [execMalformedPacket]
  repeat' split
  all_goals simp

@[simp] theorem loftNext_execMbistRun (tap : Tap) (s : State) :
    loftNext (execMbistRun tap s) = some (loftWf (still true s)) := by
  unfold execMbistRun
  repeat' split
  all_goals simp [ite_apply]

theorem loftWf_of_bootTarget {kind target : Nat} {s t : State} {x : Option Nat × Bool}
    (h : bootTarget kind target s = (t, x)) : loftWf (still true t) = loftWf (still true s) := by
  simpa [h] using loftWf_bootTarget kind target s

@[simp] theorem loftNext_execEaveBoot (e : Eave) (ef ec ee : EpochResult) (s : State) :
    loftNext (execEaveBoot e ef ec ee s) = some (loftWf (still true s)) := by
  unfold execEaveBoot
  split
  · rfl
  · split
    · rfl
    · next hb => simp [loftWf_of_bootTarget hb]

@[simp] theorem loftNext_execFirmwareLoadDone (r : LoadResult) (s : State) :
    loftNext (execFirmwareLoadDone r s) = some (loftWf (still true s)) := by
  simp only [execFirmwareLoadDone, loftNext_ite]
  split
  · rfl
  · split
    · split
      · simp
      · next hb => simp [loftWf_of_bootTarget hb]
    all_goals simp

end Sys2Proof.Machine
end

section
/-! The Loft's bytes in canonical form (10_loft): the operations that store, clear or lose them, and every step. -/

namespace Sys2Proof.Machine

/-! ### The operations that store bytes of the Loft -/

@[simp] theorem loftWf_flushRequest (n : Nat) (r : LoftRequest) {s : State} (h : loftWf (still true s) = true) :
    loftWf (still true (flushRequest n r s)) = true := by
  have hwrite : Memory.wf (writeBytes r.address r.data (returnCredits r.port (r.header.cls.toNat % 8)
      (creditsOf r.header.length.toNat) (gutter n r.port 0xFFFF (r.header.cls.toNat % 8) s)).loft.cells) = true :=
    writeBytes_wf (by simp [h])
  simp only [flushRequest, loftWf_bumpFree]
  split
  · exact hwrite
  · simp [h]

/-- A fold of an operation that keeps the Loft's canonical form keeps it. -/
theorem loftWf_foldl_true {α : Type} {f : State → α → State}
    (hf : ∀ u x, loftWf (still true u) = true → loftWf (still true (f u x)) = true) (xs : List α) {s : State}
    (h : loftWf (still true s) = true) : loftWf (still true (xs.foldl f s)) = true := by
  induction xs generalizing s with
  | nil => exact h
  | cons x xs ih => exact ih (hf s x h)

@[simp] theorem loftWf_flushLoft (n cause : Nat) {s : State} (h : loftWf (still true s) = true) :
    loftWf (still true (flushLoft n cause s)) = true := by
  rw [flushLoft, loftWf_severRequests]
  exact loftWf_foldl_true (fun u r hu => loftWf_flushRequest n r hu) _ h

@[simp] theorem loftWf_flushSlate (n cause : Nat) {s : State} (h : loftWf (still true s) = true) :
    loftWf (still true (flushSlate n cause s)) = true := by
  simp [flushSlate, h]

@[simp] theorem loftWf_isolateSite (n cause : Nat) (st : SiteState) {s : State} (h : loftWf (still true s) = true) :
    loftWf (still true (isolateSite n cause st s)) = true := by
  simp [isolateSite, h]

@[simp] theorem loftWf_isolate (n cause : Nat) (st : SiteState) {s : State} (h : loftWf (still true s) = true) :
    loftWf (still true (isolate n cause st s)) = true := by
  unfold isolate
  split <;> simp [h]

@[simp] theorem loftWf_finishWrite (r : LoftRequest) {s : State} (h : loftWf (still true s) = true) :
    loftWf (still true (finishWrite r s)) = true := by
  have hwrite : ∀ u : State, loftWf (still true u) = true →
      Memory.wf (writeBytes r.address r.data u.loft.cells) = true := fun u hu => writeBytes_wf hu
  simp only [finishWrite]
  split <;> split <;> simp [h, hwrite]

@[simp] theorem loftWf_accessDone (block : Nat) (ecc : EccResult) {s : State} (h : loftWf (still true s) = true) :
    loftWf (still true (accessDone block ecc s)) = true := by
  unfold accessDone
  repeat' split
  all_goals simp [h]

theorem loftWf_clearRange (base size : Nat) {s : State} (h : loftWf (still true s) = true) :
    loftWf (still true (clearRange base size s)) = true := zeroRange_wf h

theorem loftWf_regionAllocRun (p : Packet) {s : State} (h : loftWf (still true s) = true) :
    loftWf (still true (regionAllocRun p s).1) = true := by
  simp only [regionAllocRun]
  repeat' split
  case h_2 => exact loftWf_clearRange _ _ h
  all_goals exact h

/-- The loss of the Loft rail empties it. -/
@[simp] theorem loftWf_loftRailLost (s : State) : loftWf (still true (loftRailLost s)) = true := by
  simp [loftRailLost, nil_wf]

/-- A tray whose always-on rail comes up has nothing in its Loft. -/
@[simp] theorem loftWf_retained (s : State) : loftWf (still true (retained s)) = true := (rfl)

/-! ### Rails and zones -/

@[simp] theorem loftWf_loftOff {s : State} (h : loftWf (still true s) = true) :
    loftWf (still true (loftOff s)) = true := by
  simp only [loftOff]
  split
  · exact h
  · split <;> simp [h]

@[simp] theorem loftWf_waferRailsOff {s : State} (h : loftWf (still true s) = true) :
    loftWf (still true (waferRailsOff s)) = true := by
  simp only [waferRailsOff]
  split <;> simp [h]

@[simp] theorem loftWf_zoneWOff {s : State} (h : loftWf (still true s) = true) :
    loftWf (still true (zoneWOff s)) = true := by
  simp only [zoneWOff]
  split <;> simp [h]

@[simp] theorem loftWf_zoneOff (z : Zone) {s : State} (h : loftWf (still true s) = true) :
    loftWf (still true (zoneOff z s)) = true := by
  cases z <;> simp [zoneOff, h]

@[simp] theorem loftWf_finialAction (ch : Nat) {s : State} (h : loftWf (still true s) = true) :
    loftWf (still true (finialAction ch s)) = true := by
  simp [finialAction, h]

@[simp] theorem loftWf_leakCheck {s : State} (h : loftWf (still true s) = true) :
    loftWf (still true (leakCheck s)) = true := by
  unfold leakCheck
  repeat' split
  all_goals simp [h]

@[simp] theorem loftWf_leakAction (ch : Nat) {s : State} (h : loftWf (still true s) = true) :
    loftWf (still true (leakAction ch s)) = true := by
  simp [leakAction, h]

@[simp] theorem loftWf_enterTrigger (ch : Nat) {s : State} (h : loftWf (still true s) = true) :
    loftWf (still true (enterTrigger ch s)) = true := by
  simp only [enterTrigger]
  repeat' split
  all_goals simp [h]

@[simp] theorem loftWf_comparatorTo (ch : Nat) (st : Comparator) {s : State} (h : loftWf (still true s) = true) :
    loftWf (still true (comparatorTo ch st s)) = true := by
  simp only [comparatorTo]
  repeat' split
  all_goals simp [h]

theorem loftWf_forEach_true {f : Nat → State → State}
    (hf : ∀ n u, loftWf (still true u) = true → loftWf (still true (f n u)) = true) (xs : List Nat) {s : State}
    (h : loftWf (still true s) = true) : loftWf (still true (forEach xs f s)) = true :=
  loftWf_foldl_true (fun u n hu => hf n u hu) xs h

@[simp] theorem loftWf_channelMaskRun (p : Packet) {s : State} (h : loftWf (still true s) = true) :
    loftWf (still true (channelMaskRun p s).1) = true := by
  simp only [channelMaskRun]
  split
  · exact h
  · rw [loftWf_settleFlow]
    refine loftWf_forEach_true (fun ch u hu => ?_) _ (by simp [h])
    repeat' split
    all_goals simp [hu]

@[simp] theorem loftWf_failEave (e : Eave) (verdict originator sequence : Nat) (d1 d2 : Digest) {s : State}
    (h : loftWf (still true s) = true) :
    loftWf (still true (failEave e verdict originator sequence d1 d2 s)) = true := by
  simp only [failEave]
  repeat' split
  all_goals simp [h]

@[simp] theorem loftWf_failStandby (r : Diverged) {s : State} (h : loftWf (still true s) = true) :
    loftWf (still true (failStandby r s)) = true := by
  unfold failStandby
  split <;> simp [h]

@[simp] theorem loftWf_latchCart (b : Nat) (on : Bool) {s : State} (h : loftWf (still true s) = true) :
    loftWf (still true (latchCart b on s)) = true := by
  unfold latchCart
  repeat' split
  all_goals simp [h]

@[simp] theorem loftWf_latchReset (n : Nat) (on : Bool) {s : State} (h : loftWf (still true s) = true) :
    loftWf (still true (latchReset n on s)) = true := by
  simp [latchReset, h]

@[simp] theorem loftWf_latchBit (g i : Nat) (on : Bool) {s : State} (h : loftWf (still true s) = true) :
    loftWf (still true (latchBit g i on s)) = true := by
  unfold latchBit
  split <;> simp [h]

@[simp] theorem loftWf_latchWriteRun (p : Packet) {s : State} (h : loftWf (still true s) = true) :
    loftWf (still true (latchWriteRun p s).1) = true := by
  simp only [latchWriteRun]
  split
  · exact h
  · split
    · exact h
    · rw [loftWf_settleFlow, loftWf_setLatches]
      exact loftWf_forEach_true (fun i u hu => loftWf_latchBit _ i _ hu) _ h

@[simp] theorem loftWf_failSlice (x : Slice) {s : State} (h : loftWf (still true s) = true) :
    loftWf (still true (failSlice x s)) = true := by
  unfold failSlice
  split <;> simp [h]

/-! ### Batten commands -/

@[simp] theorem loftWf_run (c : Instr) {s : State} (h : loftWf (still true s) = true) :
    loftWf (still true (run c s).1) = true := by
  unfold run
  split
  all_goals simp [h, loftWf_regionAllocRun]

@[simp] theorem loftWf_follow (c : Instr) {s : State} (h : loftWf (still true s) = true) :
    loftWf (still true (follow c s)) = true := by
  unfold follow
  split <;> simp [h]

@[simp] theorem loftWf_conclude (c : Instr) (p : Packet) (before : State) (a : Ans) {s : State}
    (h : loftWf (still true s) = true) : loftWf (still true (conclude c p before s a)) = true := by
  simp [conclude, h]

@[simp] theorem loftWf_runNow (key : Nat) (c : Instr) (p : Packet) {s : State} (h : loftWf (still true s) = true) :
    loftWf (still true (runNow key c p s)) = true := by
  simp [runNow, h]

@[simp] theorem loftWf_perform (key : Nat) (c : Instr) (p : Packet) {s : State} (h : loftWf (still true s) = true) :
    loftWf (still true (perform key c p s)) = true := by
  unfold perform
  split
  · simp [h]
  · split
    · simp [h]
    · cases hj : judged p.originator.toNat c p s with
      | none => simp [h]
      | some t => exact (loftWf_of_judged hj).trans h

@[simp] theorem loftWf_execute (key : Nat) (c : Instr) (p : Packet) {s : State} (h : loftWf (still true s) = true) :
    loftWf (still true (execute key c p s)) = true := by
  simp [execute, h]

@[simp] theorem loftWf_drain (key target receiver fuel : Nat) {s : State} (h : loftWf (still true s) = true) :
    loftWf (still true (drain key target receiver fuel s)) = true := by
  induction fuel generalizing s with
  | zero => exact h
  | succ fuel ih =>
    simp only [drain]
    repeat' split
    all_goals simp [ih, h]

@[simp] theorem loftWf_drainAfter (key : Nat) (p : Packet) {s : State} (h : loftWf (still true s) = true) :
    loftWf (still true (drainAfter key p s)) = true := by
  simp [drainAfter, h]

@[simp] theorem loftWf_sequence (c : Instr) (p : Packet) {s : State} (h : loftWf (still true s) = true) :
    loftWf (still true (sequence c p s)) = true := by
  simp only [sequence]
  split
  · next hj => exact (loftWf_of_judged hj).trans h
  · simp [h]

@[simp] theorem loftWf_anchorAndSequence (c : Instr) (p : Packet) {s : State} (h : loftWf (still true s) = true) :
    loftWf (still true (anchorAndSequence c p s)) = true := by
  unfold anchorAndSequence
  split <;> simp [h]

@[simp] theorem loftWf_admitPacket (c : Instr) (p : Packet) {s : State} (h : loftWf (still true s) = true) :
    loftWf (still true (admitPacket c p s)) = true := by
  unfold admitPacket
  repeat' split
  all_goals simp [h]

@[simp] theorem loftWf_receive (c : Instr) (p : Packet) {s : State} (h : loftWf (still true s) = true) :
    loftWf (still true (receive c p s)) = true := by
  simp [receive, h]

/-! ### Every command, and a step -/

@[simp] theorem loftNext_execSelftestResult (failA failB : Bool) {s : State} (h : loftWf (still true s) = true) :
    loftNext (execSelftestResult failA failB s) = some true := by
  unfold execSelftestResult
  repeat' split
  all_goals simp [h]

@[simp] theorem loftNext_execVoteTimeout {s : State} (h : loftWf (still true s) = true) :
    loftNext (execVoteTimeout s) = some true := by
  unfold execVoteTimeout
  split <;> simp [h]

@[simp] theorem loftNext_execVoteAnswerWrite (value : U32) {s : State} (h : loftWf (still true s) = true) :
    loftNext (execVoteAnswerWrite value s) = some true := by
  unfold execVoteAnswerWrite
  repeat' split
  all_goals simp [h]

@[simp] theorem loftNext_execRoleSwapTimeout {s : State} (h : loftWf (still true s) = true) :
    loftNext (execRoleSwapTimeout s) = some true := by
  unfold execRoleSwapTimeout
  split <;> simp [h]

@[simp] theorem loftNext_execPatrolTestDone (pass : Bool) {s : State} (h : loftWf (still true s) = true) :
    loftNext (execPatrolTestDone pass s) = some true := by
  unfold execPatrolTestDone
  split <;> simp [h]

@[simp] theorem loftNext_execAuditTick (site_ : Nat) (walk : WalkResult) {s : State} (h : loftWf
    (still true s) = true) :
    
    loftNext (execAuditTick site_ walk s) = some true := by
  unfold execAuditTick
  split <;> simp [h]

@[simp] theorem loftNext_execGapHoldExpiry (originator : U32) {s : State} (h : loftWf (still true s) = true) :
    loftNext (execGapHoldExpiry originator s) = some true := by
  unfold execGapHoldExpiry
  repeat' split
  all_goals simp [h]

/-- An event that leaves all but the ports, the outputs and the journal leaves the Loft. -/
theorem loftNext_of_stillNext {o : Host.Outcome State Fault Refusal} {s : State}
    (h : stillNext true o = some (still true s)) : loftNext o = some (loftWf (still true s)) := by
  cases o with
  | next t => exact congrArg some (congrArg loftWf (Option.some.inj h))
  | fault r => nomatch h
  | refused r => nomatch h

/-- A Batten command comes through its reception, every other command through its own meaning. -/
theorem loftNext_exec (c : Instr) {s : State} (h : loftWf (still true s) = true) : loftNext (exec c s) = some true := by
  by_cases hb : ∃ p, c.packet? = some p ∧ (opRow c).isSome = true
  · obtain ⟨p, hp, hr⟩ := hb
    rw [exec_batten hp hr, loftNext_next, loftWf_receive c p h]
  · revert hb
    cases c <;> simp [h, Instr.packet?, opRow, exec,
      execLoftAccessDone, execLoftScrubPass, execLoftReinitDone, execScrubUncorrectable, execRampRelease,
      execLendStart, execRecordDurable, execSegmentSealTimeout, execBankFault, execBankResyncDone, execDataFrame,
      execContribFrame, execLoftRdFrame, execLoftWrFrame, execFrameTypeError, execEgressGrant, execPortDrainEnd,
      execPortSignalDetect, execLinkTrainingDone, execTrainingTimeout, execPortRetrainTimer, execBerMeasureEnd,
      execFecSwitch, execIdentityBlock, execIdentitySend, execLstateBlock, execLstateRefresh, execAdaptAckTimeout,
      execCreditBlock, execCreditRefresh, execAlignRound, execLaneSignalLoss, execFecLBerWindow,
      execCrossingQueueOverrun, execFreezeIdleRx, execReservedBlock, execExpressPreemptSof, execFrameRxTimeout,
      execFecUncorrectable, execStrayBlock, execModuleReady, execModuleRemoval, execTallyPllLock, execRackMarker,
      execTallySlewStep, execTallySyncLoss, execTallyFreqWindow, execHoldoverExpiry, execTallySyncReturn,
      execTallyRequest, execTallyResponse, execDeglitchHoldEnd, execComplianceFaultOnset, execComplianceFaultClear,
      execSenseWord, execIndeterminateTimeout, execLeakWindowExpiry, execFlowTrip, execThermalTrip,
      execCounterSnapshot, execTallyMark, execFrzNAssert, execFrzNRelease, execFreezeStop, execAutoThaw,
      execSnapReadoutStart, execDivergedReport, execHeartbeat, execHeartbeatInterval, execEaveRestartRelease,
      execResyncDigestReport, execInventoryWrite, execAonPowerUp, execAonPowerLoss, execCoolantGatePass,
      execCoolantGateAlert, execRimWaitExpiry, execSlateRailEnable, execBusbarPowerFail, execBusbarOvervoltage,
      execPowerFailClear, execHoldupExpiry, execBusRangeResume, execBusbarLow, execBusbarRangeReturn, execShelfFault,
      execShelfOkReturn, execSlotIdChange, execCartridgeFault, execFinialBoot, execWaferResetRelease,
      execFullBistDone, execPushTimeout, execThatchMount, execPatrolCycleStart, execFuseTrip, execGableCoreFault,
      execExtest, execSamplePreload, execIdcode, execClamp, execHighz, execExtestPulse, execExtestTrain,
      execDescriptorRead, execSlateSel, execScanDump, execTallyRead, execBypass, execTapReset, execRackIdWrite,
      execRowPosWrite, execMarkerNextWrite, execInvSelWrite, execSidebandRegisterWrite, execTlsHandshake,
      execSessionLingerExpiry, execUnassignedOpcode, loftNext_of_stillNext (stillNext_execContBlock true _ _ _ s),
      loftNext_of_stillNext (stillNext_execFrameResume _ s),
      loftNext_of_stillNext (stillNext_execSegmentSignDone _ _ s),
      loftNext_of_stillNext (stillNext_execThatchPatrol _ _ s),
      loftNext_of_stillNext (stillNext_execJournalExportDone s)]

/-- Settles O56: a tick and every command keep the canonical form. -/
theorem stepKeepsLoftCanonical : Obligations.StepKeepsLoftCanonical := by
  intro s t h e
  rw [loftCanonical_iff_still] at h ⊢
  cases hq : s.pending with
  | nil =>
    obtain rfl := Host.Outcome.next.inj ((step_idle hq).symm.trans e)
    exact (loftWf_idleTick s).trans h
  | cons c rest =>
    have hexec : exec c { s with pending := rest } = .next t := (step_front hq).symm.trans e
    have hnext := loftNext_exec c (s := { s with pending := rest }) h
    rw [hexec] at hnext
    exact Option.some.inj hnext

end Sys2Proof.Machine
end

section
/-! The commands of Table 6.14 (R748, R751, R757, R769, R777, R778, R782, R792): what FREEZE, FREEZE_AT, THAW,
RESTART and SNAP_START answer. -/

namespace Sys2Proof.Machine

/-! ### What each command answers (Table 6.14) -/

section
variable {p : Packet} {s : State}

theorem freezeRun_frozen (hf : s.freezeUnit.frozen = true) :
    freezeRun p s = (trigger 2 0 0 s, ok (le 8 s.freezeUnit.freezeTally)) := by
  simp [freezeRun, hf]

theorem freezeRun_requests (hf : s.freezeUnit.frozen = false) (hp : triggerPhase s = true) :
    freezeRun p s = (trigger 2 0 0 { s with
      batten.ops := s.batten.ops ++ [{ opOf .freeze p 0x90 with accepted := false }] }, .accept []) := by
  simp [freezeRun, hf, hp]

theorem freezeRun_phase (hf : s.freezeUnit.frozen = false) (hp : triggerPhase s = false) :
    freezeRun p s = (s, refusePhase s) := by
  simp [freezeRun, hf, hp]

theorem freezeAtRun_eq (p : Packet) (s : State) : freezeAtRun p s =
    if field p.body 0 8 ≠ 0 ∧ (field p.body 0 8 ≤ tallyNat s ∨ tallyNat s + 2 ^ 40 < field p.body 0 8) then
      (s, refuse stRange rField 0)
    else if s.tally.state = .acquiring ∨ s.tally.state = .unlocked then (s, refuse stPrecond rTally s.tally.state.code)
    else if field p.body 0 8 = 0 then (cancelArm s, ok (le 8 0))
    else (journalWafer (armBody 0 (field p.body 0 8) s) { s with freezeUnit.armed := some (field p.body 0 8) },
      ok (le 8 (field p.body 0 8))) := by
  unfold freezeAtRun
  cases s.tally.state <;> simp

theorem thawRun_eq (p : Packet) (s : State) : thawRun p s =
    if s.freezeUnit.frozen = false then (s, refuse stPrecond rNotFrozen 0)
    else if mayThaw s = false then (s, refuse stPrecond rThawWindow 0)
    else (thawNow s, ok (le 8 s.freezeUnit.freezeTally)) := by
  simp [thawRun]

theorem restartRun_eq (p : Packet) (s : State) : restartRun p s =
    if s.freezeUnit.frozen = false then (s, refuse stPrecond rNotFrozen 0)
    else if s.freezeUnit.powerFail = true then (s, refusePhase s)
    else (startOp .restart p 0x93 s, .accept []) := by
  simp [restartRun]

theorem snapStartRun_eq (p : Packet) (s : State) : snapStartRun p s =
    if s.freezeUnit.frozen = false then (s, refuse stPrecond rNotFrozen 0)
    else (startOp (.snapshot (decide (field p.body 0 1 = 1))) p 0x94 { s with freezeUnit.snapRequested := true },
      .accept []) := by
  simp [snapStartRun]
end

/-- Settles O40: each answer is a branch of the command's own meaning, concluded as an accepted command is. -/
theorem freezeCommands : Obligations.FreezeCommands := by
  refine ⟨?freeze, ?freezeAt, ?thaw, ?restart, ?snapStart⟩
  case freeze =>
    intro p s h c b
    refine ⟨fun hf => ?_, fun hf hp => ?_, fun hf hp => ?_⟩
    · exact completes_of_run rfl rfl h (freezeRun_frozen hf) rfl fun _ => rfl
    · exact completes_of_run rfl rfl h (freezeRun_requests hf hp) rfl fun _ => rfl
    · exact refuses_of_run rfl rfl h (freezeRun_phase hf hp) rfl
  case freezeAt =>
    intro p s h c b t locked
    refine ⟨fun h0 hr => ?_, fun hlow hhigh hl => ?_, fun h0 hl => ?_, fun ht hl => ?_⟩
    · exact refuses_of_run rfl rfl h ((freezeAtRun_eq p b).trans (if_pos ⟨h0, hr⟩)) rfl
    · have hrange : ¬(t ≠ 0 ∧ (t ≤ tallyNat b ∨ tallyNat b + 2 ^ 40 < t)) := by omega
      exact completes_of_run rfl rfl h ((freezeAtRun_eq p b).trans ((if_neg hrange).trans
        ((if_neg (not_or.mpr hl)).trans (if_neg (by omega))))) rfl fun _ => rfl
    · exact completes_of_run rfl rfl h ((freezeAtRun_eq p b).trans ((if_neg fun hr => hr.1 h0).trans
        ((if_neg (not_or.mpr hl)).trans (if_pos h0)))) rfl fun _ => rfl
    · have hrange : ¬(t ≠ 0 ∧ (t ≤ tallyNat b ∨ tallyNat b + 2 ^ 40 < t)) := by omega
      exact refuses_of_run rfl rfl h ((freezeAtRun_eq p b).trans ((if_neg hrange).trans
        (if_pos (not_and_or.mp hl |>.imp not_not.mp not_not.mp)))) rfl
  case thaw =>
    intro p s h c b
    refine ⟨fun hf hm => ?_, fun hf hm => ?_, fun hf => ?_⟩
    · exact completes_of_run rfl rfl h ((thawRun_eq p b).trans (by simp [hf, hm])) rfl fun _ => rfl
    · exact refuses_of_run rfl rfl h ((thawRun_eq p b).trans (by simp [hf, hm])) rfl
    · exact refuses_of_run rfl rfl h ((thawRun_eq p b).trans (if_pos hf)) rfl
  case restart =>
    intro p s h c b
    refine ⟨fun hf hp => ?_, fun hf hp => ?_, fun hf => ?_⟩
    · exact completes_of_run rfl rfl h ((restartRun_eq p b).trans (by simp [hf, hp])) rfl fun _ => rfl
    · exact refuses_of_run rfl rfl h ((restartRun_eq p b).trans (by simp [hf, hp])) rfl
    · exact refuses_of_run rfl rfl h ((restartRun_eq p b).trans (if_pos hf)) rfl
  case snapStart =>
    intro p s h c b
    refine ⟨fun hf => ?_, fun hf => ?_⟩
    · exact completes_of_run rfl rfl h ((snapStartRun_eq p b).trans (by simp [hf])) rfl fun _ => rfl
    · exact refuses_of_run rfl rfl h ((snapStartRun_eq p b).trans (if_pos hf)) rfl

end Sys2Proof.Machine
end

section
/-! The events of a freeze (R210, R748, R750, R757, R761, R779, R792), and the domains that it stops. -/

namespace Sys2Proof.Machine

section
variable {s t : State}

/-! ### The wafer's domains while nothing runs (R757, R761) -/

theorem marksSent_of_not_live (h : waferLive s = false) : marksSent s = false := by
  simp [marksSent, h]

theorem exec_rehomeMapSwitch_stopped (h : waferLive s = false) : exec .rehomeMapSwitch s = .next s := by
  simp only [exec, execRehomeMapSwitch, h, Bool.false_eq_true, if_false]
  split <;> simp

theorem exec_collectiveTimeout_stopped (h : waferLive s = false) (i : U64) :
    exec (.collectiveTimeout i) s = .next s := by
  simp only [exec, execCollectiveTimeout, h]
  split <;> simp

theorem exec_resealDone_stopped (h : waferLive s = false) (n : U32) : exec (.resealDone n) s = .next s := by
  simp only [exec, execResealDone, h]
  split <;> simp

theorem exec_patrolSliceDue_stopped (h : waferLive s = false) : exec .patrolSliceDue s = .next s := by
  simp only [exec, execPatrolSliceDue, h]
  split <;> simp

theorem exec_patrolTestDone_stopped (h : waferLive s = false) (r : Bool) : exec (.patrolTestDone r) s = .next s := by
  simp only [exec, execPatrolTestDone, h]
  split <;> simp

/-! ### FRZ_N, the stop and the readout -/

theorem exec_frzNAssert_falls (h : s.freezeUnit.frzLow = false) : exec .frzNAssert s = .next (
    if s.freezeUnit.frozen = true ∨ triggerPhase { s with freezeUnit.frzLow := true } = true then
      trigger 0 0 0 { s with freezeUnit.frzLow := true }
    else count (cFreeze 1) { s with freezeUnit.frzLow := true }) := by
  simp only [exec, execFrzNAssert, h, Bool.false_eq_true, if_false, Bool.or_eq_true]
  exact (apply_ite Host.Outcome.next _ _ _).symm

theorem exec_freezeAtReached {n : Nat} (ha : s.freezeUnit.armed = some n) (hm : marksSent s = true) :
    exec .freezeAtReached s = .next (trigger 1 0 0 (advanceTo n { s with freezeUnit.armed := none })) := by
  simp [exec, execFreezeAtReached, ha, hm]

theorem exec_freezeStop (hf : s.freezeUnit.frozen = false) (hr : s.freezeUnit.requests ≠ [])
    (hw : s.power.waferRunning = true) : exec .freezeStop s =
      .next (freezeNow (if s.freezeUnit.requests.any (fun r => r.code = 1) then s else advance 1 s)) := by
  simp only [exec, execFreezeStop, hf, hw, List.isEmpty_eq_false_iff.mpr hr, Bool.false_or, Bool.not_true,
    Bool.false_eq_true, if_false]
  split <;> rfl

theorem exec_autoThaw (hf : s.freezeUnit.frozen = true) (ha : param pAutoThaw s ≠ 0)
    (hsnap : s.freezeUnit.snapRequested = false) (ht : t = { s with
      now := max s.now (s.freezeUnit.notice + param pAutoThaw s * 3125 / 10) }) :
    exec .autoThaw s = .next (if mayThaw t = true then thawNow t else t) := by
  subst ht
  simp only [exec, execAutoThaw, hf, hsnap]
  split
  · simp_all
  · split <;> rfl

theorem exec_snapReadoutStart (hf : s.freezeUnit.frozen = true) (hr : s.freezeUnit.reading = none) :
    exec .snapReadoutStart s = .next (startReadout s) := by
  simp [exec, execSnapReadoutStart, hf, hr]
end

/-- Settles O41: each event does its one thing where its conditions hold, and the stopped domains hear none of
theirs. -/
theorem freezeEvents : Obligations.FreezeEvents := by
  refine ⟨?frzN, fun s => rfl, fun s t ha hm => exec_freezeAtReached ha hm, fun s hf hr hw => exec_freezeStop hf hr hw,
    ?autoThaw, fun s hf hr => exec_snapReadoutStart hf hr, ?snapDone, ?stopped⟩
  case frzN =>
    intro s h t
    refine ⟨fun hasked => ?_, fun hf hp => ?_⟩
    · exact (exec_frzNAssert_falls h).trans (congrArg _ (if_pos hasked))
    · have hnone := not_or.mpr ⟨ne_true_of_eq_false hf, ne_true_of_eq_false hp⟩
      exact (exec_frzNAssert_falls h).trans (congrArg _ (if_neg hnone))
  case autoThaw =>
    intro s hf ha hsnap t
    refine ⟨fun hm => ?_, fun hm => ?_⟩
    · exact (exec_autoThaw hf ha hsnap rfl).trans (congrArg _ (if_pos hm))
    · exact (exec_autoThaw hf ha hsnap rfl).trans (congrArg _ (if_neg (ne_true_of_eq_false hm)))
  case snapDone =>
    intro s d full o hr ho
    simp [exec, execSnapDone, hr, ho]
  case stopped =>
    intro s h
    refine ⟨?_, ?_, ?_, ?_, ?_, ?_, ?_, ?_, ?_, ?_, ?_, exec_rehomeMapSwitch_stopped h,
      exec_collectiveTimeout_stopped h,
      ?_, ?_, ?_, exec_resealDone_stopped h, ?_, ?_, ?_, ?_, exec_patrolSliceDue_stopped h,
      exec_patrolTestDone_stopped h⟩
    all_goals simp [exec, h, marksSent_of_not_live h, execLstateBlock, execLstateRefresh, execCreditBlock,
      execCreditRefresh, execAlignRound, execFreezeIdleRx, execFecUncorrectable, execLaneSignalLoss, execPortDrainEnd,
      execAuditTick, execGableCoreFault, execRampRelease, execLoftAccessDone, execLoftScrubPass, execBankResyncDone,
      execRackMarker, execTallyMark, execPatrolCycleStart]

end Sys2Proof.Machine
end

section
/-! The stop (R757, R789): what a freeze notes of the requests that waited, and what it leaves of the tally. -/

namespace Sys2Proof.Machine

/-! ### The lowest code and every class (R789) -/

theorem foldl_min_le_init (ns : List Nat) (b : Nat) : ns.foldl min b ≤ b := by
  induction ns generalizing b with
  | nil => exact le_rfl
  | cons n ns ih => exact (ih (min b n)).trans (min_le_left b n)

theorem foldl_min_le_mem {n : Nat} {ns : List Nat} (h : n ∈ ns) (b : Nat) : ns.foldl min b ≤ n := by
  induction ns generalizing b with
  | nil => nomatch h
  | cons m ns ih =>
    rcases List.mem_cons.mp h with rfl | h
    · exact (foldl_min_le_init ns (min b n)).trans (min_le_right b n)
    · exact ih h (min b m)

theorem foldl_min_eq_or_mem (ns : List Nat) (b : Nat) : ns.foldl min b = b ∨ ns.foldl min b ∈ ns := by
  induction ns generalizing b with
  | nil => exact .inl rfl
  | cons n ns ih =>
    rcases ih (min b n) with h | h
    · rw [List.foldl_cons, h]
      rcases min_choice b n with h | h <;> simp [h]
    · exact .inr (List.mem_cons_of_mem n h)

theorem lowestCode_le {r : FreezeRequest} {rs : List FreezeRequest} (h : r ∈ rs) : lowestCode rs ≤ r.code :=
  foldl_min_le_mem (List.mem_map_of_mem h) 4

/-- With requests of codes up to 4, the lowest code is that of a request. -/
theorem exists_code_eq_lowestCode {rs : List FreezeRequest} (hne : rs ≠ []) (hcode : ∀ r ∈ rs, r.code ≤ 4) :
    ∃ r ∈ rs, r.code = lowestCode rs := by
  rcases foldl_min_eq_or_mem (rs.map FreezeRequest.code) 4 with h | h
  · obtain ⟨r, hr⟩ := List.exists_mem_of_ne_nil rs hne
    exact ⟨r, hr, le_antisymm ((hcode r hr).trans h.ge) (lowestCode_le hr)⟩
  · exact List.mem_map.mp h

theorem testBit_allClasses (rs : List FreezeRequest) (i : Nat) :
    (allClasses rs).testBit i = true ↔ ∃ r ∈ rs, r.classes.testBit i = true := by
  have fold : ∀ (ns : List Nat) (b : Nat), (ns.foldl (· ||| ·) b).testBit i = true ↔
      b.testBit i = true ∨ ∃ n ∈ ns, n.testBit i = true := fun ns => by
    induction ns with
    | nil => simp
    | cons n ns ih => intro b; simp [ih, or_assoc]
  simp [allClasses, fold]

/-! ### What the stop leaves of the tally and of the freeze -/

section
variable {s t : State}

theorem tally_of_still (h : still true t = still true s) :
    t.tally = { s.tally with lastPtpNs := t.tally.lastPtpNs } := by
  rw [eq_of_still_wide h]

theorem setParam_tally (id v : Nat) (s : State) : (setParam id v s).tally = s.tally := by
  unfold setParam
  split <;> rfl

theorem disarm_tally (rs : List FreezeRequest) (s : State) : (disarm rs s).tally = s.tally := by
  simp only [disarm]
  repeat' split
  all_goals simp [setParam_tally]

@[simp] theorem still_freezePort (p : Nat) (s : State) : still true (freezePort p s) = still true s := by
  simp [freezePort]

@[simp] theorem journalWith_freezeUnit (body : RecordBody) (builder extra : Nat) (s : State) :
    (journalWith body builder extra s).freezeUnit = s.freezeUnit := by
  have number : ∀ n u, (noteNumber body n u).freezeUnit = u.freezeUnit := fun n u => by
    unfold noteNumber
    split <;> rfl
  simp only [journalWith, buildRecord, countHeld]
  repeat' split
  all_goals simp [number, countUnjournalled]

@[simp] theorem flushOne_freezeUnit (cause : Nat) (f : QFrame) (s : State) :
    (flushOne cause f s).freezeUnit = s.freezeUnit := by
  have returned : (returnCredits f.input f.cls f.shingles (gutter f.site f.input f.output f.cls
      (unqueue f s))).freezeUnit = s.freezeUnit := by
    simp only [returnCredits, gutter, unqueue, takeOut]
    repeat' split
    all_goals rfl
  unfold flushOne
  split <;> simp [returned, journalWafer]

@[simp] theorem finishOp_freezeUnit (op : Op) (status reason arg : Nat) (payload : List Byte) (s : State) :
    (finishOp op status reason arg payload s).freezeUnit = s.freezeUnit := by
  have kept : ∀ o q r final u, (keep o q r final u).freezeUnit = u.freezeUnit := fun o q r final u => by
    unfold keep
    split <;> rfl
  have sent : ∀ f u, (sendTray f u).freezeUnit = u.freezeUnit := fun f u => by
    simp only [sendTray]
    split
    · rfl
    · exact flushOne_freezeUnit _ f _
  simp only [finishOp, sendReply]
  split
  · rw [sent, kept]
  · exact (foldl_keeps State.freezeUnit (fun u q => emit_freezeUnit (.reply q _) u) _ _).trans (kept ..)

@[simp] theorem finishAll_freezeUnit (kind : OpKind → Bool) (status reason arg : Nat) (payload : List Byte)
    (s : State) : (finishAll kind status reason arg payload s).freezeUnit = s.freezeUnit :=
  foldl_keeps State.freezeUnit (fun u o => finishOp_freezeUnit o status reason arg payload u) _ s

/-- The tray as its ports have stopped, before the freeze is noted. -/
def portsStopped (s : State) : State := forEach (List.range 160) freezePort (disarm s.freezeUnit.requests s)

theorem portsStopped_tally (s : State) :
    (portsStopped s).tally = { s.tally with lastPtpNs := (portsStopped s).tally.lastPtpNs } := by
  have h : still true (portsStopped s) = still true (disarm s.freezeUnit.requests s) :=
    still_forEach true still_freezePort _ _
  rw [tally_of_still h, disarm_tally]

/-- The freeze of a tray whose ports have stopped, for the requests that waited. -/
def notedFreeze (rs : List FreezeRequest) (u : State) : FreezeUnit := { u.freezeUnit with
  frozen := true, requests := [], freezeTally := tallyNat u, trigger := lowestCode rs
  collective := ((rs.filter fun r => r.code = 3).map FreezeRequest.collective).headD 0, classes := allClasses rs
  since := u.now, notice := u.now + noticeDelay u, destructive := false, cancelled := u.freezeUnit.armed, armed := none
  reading := none, snapshots := [], snapRequested := false, powerFail := u.power.powerFail }

theorem freezeNow_eq (s : State) : freezeNow s = finishAll isFreezeOp stOk 0 0 (le 8 (tallyNat (portsStopped s)))
    (count (cFreeze 2) { bumpFree (portsStopped s) with
      freezeUnit := notedFreeze s.freezeUnit.requests (portsStopped s) }) := by
  unfold freezeNow portsStopped
  rfl

theorem freezeNow_freezeUnit (s : State) :
    (freezeNow s).freezeUnit = notedFreeze s.freezeUnit.requests (portsStopped s) := by
  rw [freezeNow_eq, finishAll_freezeUnit, count_freezeUnit]

theorem freezeNow_tally (s : State) :
    (freezeNow s).tally = { s.tally with lastPtpNs := (freezeNow s).tally.lastPtpNs } := by
  rw [freezeNow_eq]
  generalize hu : portsStopped s = u
  have h := tally_of_still (still_finishAll isFreezeOp stOk 0 0 (le 8 (tallyNat u)) (count (cFreeze 2) { bumpFree u with
    freezeUnit := notedFreeze s.freezeUnit.requests u }))
  have hstopped := portsStopped_tally s
  rw [hu] at hstopped
  rw [h, count_tally, bumpFree_tally, hstopped]

theorem tallyNat_portsStopped (s : State) : tallyNat (portsStopped s) = tallyNat s := by
  rw [tallyNat, portsStopped_tally, tallyNat]
end

/-- Settles O42: the freeze is noted for all the requests at once, and nothing before or after moves the tally. -/
theorem freezeHoldsTheTray : Obligations.FreezeHoldsTheTray := by
  intro s _ hne hcode
  dsimp only
  generalize hstop : freezeNow s = t
  obtain ⟨u, htally, hunit⟩ : ∃ u, tallyNat u = tallyNat s ∧ t.freezeUnit = notedFreeze s.freezeUnit.requests u :=
    ⟨portsStopped s, tallyNat_portsStopped s, hstop ▸ freezeNow_freezeUnit s⟩
  rw [hunit]
  exact ⟨rfl, rfl, rfl, fun r hr => lowestCode_le hr, exists_code_eq_lowestCode hne hcode, testBit_allClasses _,
    htally, hstop ▸ freezeNow_tally s⟩

end Sys2Proof.Machine
end

section
/-! The controllers' commands and Finial's part in them (Table 6.12, R798-R829, R840, R1047): heartbeats, divergences,
self-tests, votes, restarts and role swaps. -/

namespace Sys2Proof.Machine

section
variable {p : Packet} {s t : State} {e : Eave}

/-! ### ROLE_SWAP and INVENTORY (Table 6.12, R817, R818, R840) -/

theorem roleSwapRun_eq (p : Packet) (s : State) : roleSwapRun p s =
    if swapPermitted s = false then (s, refuse stPrecond rNoStandby 0)
    else (startOp (.roleSwap (if field p.body 0 8 = 0 then tallyNat s + 65536 else field p.body 0 8)) p 0x7D s,
      .accept []) := by
  simp [roleSwapRun]

theorem exec_inventoryWrite (h : (authority s).isSome = true) : exec .inventoryWrite s =
    .next (onAccepting (fun n u => setBank n (fun b => { b with
      invCycles := (accrue s).invCycles, invHours := (accrue s).invHours }) u) (accrue s)) := by
  simp [exec, execInventoryWrite, Option.isSome_iff_ne_none.mp h]

/-! ### Heartbeats (R799-R803, R845) -/

/-- What a good heartbeat leaves of its Eave: it is heard and counted, and its digest is held. -/
def beatCounted (hb : Heartbeat) (s : State) : State :=
  let t := setEave hb.eave (fun u => { u with
    heard := true, lastCount := some hb.count.toNat, cleanRun := if hb.selftest = 0#16 then u.cleanRun + 1 else 0
    digestSeq := hb.digestSeq.toNat, digest := hb.stateDigest }) (count (cEave (Eave.code hb.eave) 1) s)
  { t with referee.noController := false }

theorem beatCounted_swapped (hb : Heartbeat) (s : State) :
    (beatCounted hb s).referee.swapped = s.referee.swapped := by
  unfold beatCounted
  cases hb.eave <;> rfl

/-- A good heartbeat taken: one in which the new authority reports itself completes the swap. -/
def beatTaken (hb : Heartbeat) (s : State) : State :=
  if s.referee.swapped = some hb.eave ∧ hb.state = 0#8 then swapReported (beatCounted hb s) else beatCounted hb s

theorem exec_heartbeat_good {hb : Heartbeat} (hboot : s.referee.booted = true) (hrec : recognised hb.eave s = true)
    (hcrc : hb.crcGood = true) (hnew : (eave hb.eave s).lastCount.any (fun n => hb.count.toNat ≤ n) = false) :
    exec (.heartbeat hb) s = .next (if hb.selftest = 0#16 then compareDigests (beatTaken hb s)
      else failEave hb.eave 3 0 0 0 0 (beatTaken hb s)) := by
  have hzero : (hb.state.toNat = 0) = (hb.state = 0#8) := by
    simp [← BitVec.toNat_inj]
  rw [beatTaken, ← beatCounted_swapped hb s]
  simp only [exec, execHeartbeat, hboot, hrec, hcrc, hnew, Bool.not_true, Bool.or_false, Bool.false_eq_true, if_false,
    beatCounted, decide_eq_true_eq, Bool.and_eq_true, hzero]
  exact (apply_ite Host.Outcome.next _ _ _).symm

theorem exec_heartbeat_ignored {hb : Heartbeat}
    (h : hb.crcGood = false ∨ (eave hb.eave s).lastCount.any (fun n => hb.count.toNat ≤ n) = true) :
    exec (.heartbeat hb) s = .next s := by
  rcases h with h | h <;> simp [exec, execHeartbeat, h]

theorem exec_heartbeatInterval (hboot : s.referee.booted = true) (ht : intervalEnd .b (intervalEnd .a s) = t) :
    exec .heartbeatInterval s = .next (
      if silent .a t = true ∧ silent .b t = true then leakCheck { t with referee.noController := true }
      else if silent .a t = true then failEave .a 1 0 0 0 0 t
      else if silent .b t = true then failEave .b 1 0 0 0 0 t else t) := by
  simp only [exec, execHeartbeatInterval, hboot, ht, Bool.and_eq_true, Bool.not_true, Bool.false_eq_true, if_false,
    apply_ite Host.Outcome.next]

theorem intervalEnd_missed (hrec : recognised e s = true) (hh : (eave e s).heard = false) :
    (eave e (intervalEnd e s)).missedRun = (eave e s).missedRun + 1 := by
  simp [intervalEnd, hrec, hh]
  cases e <;> rfl

theorem intervalEnd_heard (hrec : recognised e s = true) (hh : (eave e s).heard = true) :
    (eave e (intervalEnd e s)).missedRun = 0 := by
  simp [intervalEnd, hrec, hh]

/-! ### Divergences, self-tests and votes (R801-R808, R821, R1047) -/

theorem divergedToFinial_orders (r : Diverged) (hboot : s.referee.booted = true) (hnone : noVerdict s = true)
    (hmask : (stored pErrorMask s).testBit 0 = false) :
    divergedToFinial r s = { s with referee.selftest := .diverged r } := by
  simp [divergedToFinial, errorClass, hmask, hboot, hnone]

/-- The Eave that a self-test's results fail (R804). -/
def selftestLoser (fa fb : Bool) (s : State) : Option Eave :=
  if fa = true ∧ fb = false ∧ recognised .a s = true then some .a
  else if fb = true ∧ fa = false ∧ recognised .b s = true then some .b else none

theorem exec_selftestResult_diverged {r : Diverged} (fa fb : Bool) (h : s.referee.selftest = .diverged r)
    (ht : t = { s with referee.selftest := .none }) : exec (.selftestResult fa fb) s = .next (
      match selftestLoser fa fb s with
      | some e => failEave e 3 0 0 0 0 t
      | none =>
        if param pVoteMs t ≠ 0 then count (cFinial 4) { t with
          referee.vote := some { id := t.referee.nextVote, report := r }
          referee.nextVote := t.referee.nextVote + 1 }
        else failStandby r t) := by
  subst ht
  have hrec : ∀ e, recognised e { s with referee.selftest := .none } = recognised e s := fun e => by cases e <;> rfl
  simp only [exec, execSelftestResult, h, hrec, selftestLoser]
  cases fa <;> cases fb <;> cases recognised .a s <;> cases recognised .b s <;> simp [apply_ite Host.Outcome.next]

/-- Whether the self-test before a swap failed the Eave that would lead (R821). -/
def swapTestFailed (e : Eave) (fa fb : Bool) : Bool :=
  match e with
  | .a => fa
  | .b => fb

theorem exec_selftestResult_swap {ts : Nat} (fa fb : Bool) (h : s.referee.selftest = .swap ts)
    (he : standby s = some e) : exec (.selftestResult fa fb) s = .next (
      if swapTestFailed e fa fb = true then
        failEave e 3 0 0 0 0 (skipSwap ts { s with referee.selftest := .none })
      else s) := by
  simp only [exec, execSelftestResult, h, he, dropSwap, if_true]
  exact (apply_ite Host.Outcome.next _ _ _).symm

theorem exec_voteTimeout {v : Vote} (h : s.referee.vote = some v) : exec .voteTimeout s =
    .next (failStandby v.report (count (cFinial 5) { s with referee.vote := none })) := by
  simp [exec, execVoteTimeout, h]

/-- The Eave that a vote's answer goes against (R1047). -/
def voteLoser (w : U32) : Option Eave :=
  match w.toNat % 4 with
  | 1 => some .b
  | 2 => some .a
  | _ => none

theorem exec_voteAnswerWrite {v : Vote} {w : U32} (h : s.referee.vote = some v)
    (hid : w.toNat / 256 = v.id % 2 ^ 24) (ht : t = { s with referee.vote := none }) :
    exec (.voteAnswerWrite w) s = .next (
      match voteLoser w with
      | some e =>
        if recognised e t = true then
          failEave e 2 v.report.originator.toNat v.report.sequence.toNat v.report.digestA v.report.digestB t
        else t
      | none => failStandby v.report t) := by
  subst ht
  simp only [exec, execVoteAnswerWrite, h, hid, ne_eq, not_true_eq_false, if_false]
  change (match voteLoser w with | some e => _ | none => _) = _
  cases voteLoser w with
  | none => rfl
  | some e => exact (apply_ite Host.Outcome.next _ _ _).symm

theorem exec_voteAnswerWrite_other {v : Vote} {w : U32} (h : s.referee.vote = some v)
    (hid : w.toNat / 256 ≠ v.id % 2 ^ 24) : exec (.voteAnswerWrite w) s = .next s := by
  simp only [exec, execVoteAnswerWrite, h]
  exact if_pos hid
end

/-- Settles O43: ROLE_SWAP by what it may do, the two reads as they stand, and the inventory's writing. -/
theorem controllerCommands : Obligations.ControllerCommands := by
  refine ⟨?roleSwap, fun p s h => completes_of_run rfl rfl h rfl rfl fun _ => rfl,
    fun p s h => completes_of_run rfl rfl h rfl rfl fun _ => rfl, fun s h => exec_inventoryWrite h⟩
  case roleSwap =>
    intro p s h c b t
    refine ⟨fun hp => ?_, fun hp => ?_⟩
    · exact completes_of_run rfl rfl h ((roleSwapRun_eq p b).trans (if_neg (ne_false_of_eq_true hp))) rfl fun _ => rfl
    · exact refuses_of_run rfl rfl h ((roleSwapRun_eq p b).trans (if_pos hp)) rfl

section
variable {fa fb : Bool} {s : State}

theorem selftestLoser_a (hrec : recognised .a s = true) : selftestLoser true false s = some .a :=
  if_pos ⟨rfl, rfl, hrec⟩

theorem selftestLoser_b (hrec : recognised .b s = true) : selftestLoser false true s = some .b := by
  simp [selftestLoser, hrec]

theorem selftestLoser_none (h : fa = fb ∨ fa = true ∧ recognised .a s = false ∨ fb = true ∧ recognised .b s = false) :
    selftestLoser fa fb s = none := by
  unfold selftestLoser
  rw [if_neg, if_neg]
  · rintro ⟨rfl, rfl, hrec⟩
    simp [hrec] at h
  · rintro ⟨rfl, rfl, hrec⟩
    simp [hrec] at h

variable {w : U32}

theorem voteLoser_b (hw : w.toNat % 4 = 1) : voteLoser w = some .b := by simp [voteLoser, hw]

theorem voteLoser_a (hw : w.toNat % 4 = 2) : voteLoser w = some .a := by simp [voteLoser, hw]

theorem voteLoser_none (hb : w.toNat % 4 ≠ 1) (ha : w.toNat % 4 ≠ 2) : voteLoser w = none := by
  unfold voteLoser
  split
  · contradiction
  · contradiction
  · rfl
end

/-- Settles O44: heartbeats, intervals, divergences, self-tests and votes, each by what its event may do. -/
theorem refereeJudges : Obligations.RefereeJudges := by
  refine ⟨?good, fun hb s h => exec_heartbeat_ignored h, ?interval, fun e s => intervalEnd_missed,
    fun e s => intervalEnd_heard, fun r s => rfl, fun r s => divergedToFinial_orders r, ?diverged, ?swap,
    fun s v => exec_voteTimeout, ?vote, fun w s v => exec_voteAnswerWrite_other⟩
  case good =>
    intro hb s hboot hrec hcrc hnew e t₁ t₂ t₃
    have h := exec_heartbeat_good hboot hrec hcrc hnew
    exact ⟨fun hs => h.trans (congrArg _ (if_pos hs)), fun hs => h.trans (congrArg _ (if_neg hs))⟩
  case interval =>
    intro s hboot t
    rw [exec_heartbeatInterval hboot (t := t) rfl]
    generalize t = u
    cases silent .a u <;> cases silent .b u <;> simp
  case diverged =>
    intro fa fb s r h t
    have hrun := exec_selftestResult_diverged fa fb h (t := t) rfl
    refine ⟨fun hfa hfb hrec => ?_, fun hfa hfb hrec => ?_, fun hnone hvote => ?_, fun hnone hvote => ?_⟩
    · rw [hrun, hfa, hfb, selftestLoser_a hrec]
    · rw [hrun, hfa, hfb, selftestLoser_b hrec]
    · rw [hrun, selftestLoser_none hnone]
      exact congrArg _ (if_pos hvote)
    · rw [hrun, selftestLoser_none hnone]
      exact congrArg _ (if_neg (not_not_intro hvote))
  case swap =>
    intro fa fb s ts e h he
    have hrun := exec_selftestResult_swap fa fb h he
    exact ⟨fun hf => hrun.trans (congrArg _ (if_neg (ne_true_of_eq_false hf))),
      fun hf => hrun.trans (congrArg _ (if_pos hf))⟩
  case vote =>
    intro w s v h hid t r
    have hrun := exec_voteAnswerWrite h hid (t := t) rfl
    refine ⟨fun hw hrec => ?_, fun hw hrec => ?_, fun hb ha => ?_⟩
    · rw [hrun, voteLoser_b hw]
      exact congrArg _ (if_pos hrec)
    · rw [hrun, voteLoser_a hw]
      exact congrArg _ (if_pos hrec)
    · rw [hrun, voteLoser_none hb ha]


/-! ### Restarts, resynchronisation and role swaps (R808, R813-R829) -/

section
variable {s t : State} {e : Eave}

theorem eave_eaveTo_same (e : Eave) (st : ControllerState) (s : State) : (eave e (eaveTo e st s)).state = st := by
  simp [eaveTo]

theorem eave_eaveTo_peer (e : Eave) (st : ControllerState) (s : State) :
    eave (peer e) (eaveTo e st s) = eave (peer e) s := by
  simp [eaveTo]

theorem nameAuthority_self (e : Eave) (s : State) : (eave e (nameAuthority e s)).state = .authoritative :=
  eave_eaveTo_same ..

theorem nameAuthority_peer (e : Eave) (s : State) : (eave (peer e) (nameAuthority e s)).state ≠ .authoritative := by
  unfold nameAuthority
  rw [eave_eaveTo_peer]
  split
  · rw [eave_eaveTo_same]
    exact ControllerState.noConfusion
  · assumption

theorem authority_eq_some (hself : (eave e s).state = .authoritative)
    (hpeer : (eave (peer e) s).state ≠ .authoritative) : authority s = some e := by
  cases e with
  | a => exact if_pos hself
  | b => exact (if_neg hpeer).trans (if_pos hself)

theorem exec_eaveRestartRelease (h : (eave e s).releasing = true) :
    exec (.eaveRestartRelease e) s = .next (byFinial (releaseEave e) s) := if_pos h

/-- The state after a resynchronisation whose digests agree, before its record and the Eave's return (R815). -/
def resyncMatched (e : Eave) (s : State) : State :=
  count (cEave (Eave.code e) 3) { setEave e (fun u => { u with mismatches := 0 }) (eaveTo e .standby s) with
    batten.ridgeOnly := none, referee.digestsAgree := true }

theorem exec_resyncDigestReport {d r : Digest} (hst : (eave e s).state = .resyncing) (hboot : (eave e s).booted = true)
    (hauth : (authority s).isSome = true) : exec (.resyncDigestReport e d r) s = .next (
      if d = r then eaveReady e (journalFinial (finialBody 3 (Eave.code e) ControllerState.resyncing.code
        ControllerState.standby.code 0 0 (resyncMatched e s)) (resyncMatched e s))
      else if 2 ≤ (eave e s).mismatches then failEave e 2 1 0 r d s
      else setEave e (fun u => { u with mismatches := u.mismatches + 1 }) s) := by
  have hsome : (authority s).isNone = false := by simpa using hauth
  simp only [exec, execResyncDigestReport, hst, hboot, hsome, ne_eq, not_true_eq_false, decide_false, Bool.not_true,
    Bool.or_false, Bool.false_eq_true, if_false, apply_ite Host.Outcome.next]
  rfl

theorem exec_roleSwapCheck {due : Nat} (hdue : nextSwap s = some due) (hmarks : marksSent s = true)
    (hboot : s.referee.booted = true) (hswap : s.referee.swapped = none) (htest : s.referee.selftest = .none)
    (ht : t = advanceTo (max (markerFrom due) (markerFrom (tallyNat s) + 65536) - 65536) s) :
    exec .roleSwapCheck s = .next (
      if swapPermitted t = true then
        { t with referee.selftest := .swap (max (markerFrom due) (markerFrom (tallyNat s) + 65536)) }
      else skipSwap (max (markerFrom due) (markerFrom (tallyNat s) + 65536)) t) := by
  subst ht
  simp only [exec, execRoleSwapCheck, hdue, hmarks, hboot, hswap, htest, Option.isSome_none, Bool.not_true,
    Bool.or_false, Bool.false_eq_true, if_false]
  exact (apply_ite Host.Outcome.next _ _ _).symm

/-- The swap made at its marker `ts`, with `e` the new authority (R817, R818). -/
def swapMade (ts : Nat) (e : Eave) (s : State) : State :=
  let u := passSchedule ts (count (cFinial 2) (nameAuthority e s))
  { u with referee := { u.referee with swapped := some e, swapTick := ts, swapAnchor := true } }

theorem exec_roleSwapMarker {ts : Nat} (h : s.referee.selftest = .swap ts) (hmarks : marksSent s = true)
    (ht : t = advanceTo ts { s with referee.selftest := .none }) : exec .roleSwapMarker s = .next (
      match standby t with
      | none => skipSwap ts t
      | some e => swapMade ts e t) := by
  simp only [exec, execRoleSwapMarker, h, hmarks, Bool.not_true, Bool.false_eq_true, if_false, ← ht]
  cases standby t <;> rfl

theorem exec_roleSwapTimeout (h : s.referee.swapped = some e)
    (ht : t = finishAll (fun k => match k with | .roleSwap u => u ≤ s.referee.swapTick | _ => false) stAborted 0 0 []
      { s with referee.swapped := none }) : exec .roleSwapTimeout s = .next (
      if (eave (peer e) t).state = .standby then failEave e 1 0 0 0 0 (nameAuthority (peer e) t) else t) := by
  subst ht
  simp only [exec, execRoleSwapTimeout, h]
  exact (apply_ite Host.Outcome.next _ _ _).symm
end

/-- Settles O45: each event by what it may do, and the authority's name by the two states it leaves. -/
theorem eavesReturnAndSwap : Obligations.EavesReturnAndSwap := by
  refine ⟨fun e s => exec_eaveRestartRelease, ?resync, ?check, ?marker, ?timeout, ?restart,
    fun e s => ⟨nameAuthority_self e s, nameAuthority_peer e s,
      authority_eq_some (nameAuthority_self e s) (nameAuthority_peer e s)⟩⟩
  case resync =>
    intro e d r s hst hboot hauth
    have hrun := exec_resyncDigestReport (d := d) (r := r) hst hboot hauth
    refine ⟨fun hd => hrun.trans (congrArg _ (if_pos hd)), fun hd hm => ?_, fun hd hm => ?_⟩
    · rw [hrun, if_neg hd, if_neg (Nat.not_le.mpr hm)]
    · rw [hrun, if_neg hd, if_pos hm]
  case check =>
    intro s due hdue hmarks hboot hswap htest ts t
    have hrun := exec_roleSwapCheck hdue hmarks hboot hswap htest (t := t) rfl
    exact ⟨fun hp => hrun.trans (congrArg _ (if_pos hp)),
      fun hp => hrun.trans (congrArg _ (if_neg (ne_true_of_eq_false hp)))⟩
  case marker =>
    intro s ts h hmarks t
    have hrun := exec_roleSwapMarker h hmarks (t := t) rfl
    refine ⟨fun he => ?_, fun e he => ?_⟩
    · rw [hrun, he]
    · rw [hrun, he]
      rfl
  case timeout =>
    intro s e h t
    have hrun := exec_roleSwapTimeout h (t := t) rfl
    exact ⟨fun hp => hrun.trans (congrArg _ (if_pos hp)), fun hp => hrun.trans (congrArg _ (if_neg hp))⟩
  case restart =>
    intro a b s hboot t₁ t₂
    simp only [exec, execFinialWatchdogRestart, hboot, Bool.not_true, Bool.false_eq_true, if_false]
    rfl

end Sys2Proof.Machine
end

section
/-! The Coping unit's commands, its outputs and its calibrations (Table 6.12, R859, R884-R888, R903-R919, R930). -/

namespace Sys2Proof.Machine

/-! ### The commands of the Coping unit (Table 6.12, R859, R884, R898) -/

section
variable {p : Packet} {s : State}

theorem senseSyncRun_eq (p : Packet) (s : State) : senseSyncRun p s =
    if marksSent s = true then ({ s with coping.syncPending := true }, ok (le 8 (nextMark s)))
    else (syncAll s, ok (le 8 0)) := rfl

/-- A body of CAL_RUN whose type its channel has not is refused at its first field (R884). -/
theorem calRun_field_refused (hlen : p.body.length = 8)
    (hbad : 3 < field p.body 0 1 ∨ calMatches (field p.body 0 1) p.unit.toNat p.inst.toNat = false) :
    (layoutOf s (.calRun p)).refusal p.body = some (rField, 0) := by
  have hcond : (field p.body 0 1 ≤ 3 && calMatches (field p.body 0 1) p.unit.toNat p.inst.toNat : Bool) = false := by
    rcases hbad with h | h <;> simp [h]
  have hsize : sizeOf' (layoutOf s (.calRun p)).head = 8 := rfl
  have hlayout : (layoutOf s (.calRun p)).length p.body = 8 := rfl
  rw [Layout.refusal, if_neg (by omega)]
  simp only [layoutOf, List.cons_append, firstFault, fieldFault, hcond, Bool.false_eq_true, if_false]
end

/-- Settles O35: each command's own meaning, and the first fault of a body whose type is wrong. -/
theorem copingCommands : Obligations.CopingCommands := by
  refine ⟨fun p s h => completes_of_run rfl rfl h rfl rfl fun _ => rfl, ?sync, ?mask,
    fun p s h => completes_of_run rfl rfl h rfl rfl fun _ => rfl,
    fun p s h => completes_of_run rfl rfl h rfl rfl fun _ => rfl,
    fun p s h => completes_of_run rfl rfl h rfl rfl fun _ => rfl,
    fun p s => calRun_field_refused⟩
  case sync =>
    intro p s h c b
    refine ⟨fun hm => ?_, fun hm => ?_⟩
    · exact completes_of_run rfl rfl h ((senseSyncRun_eq p b).trans (if_pos hm)) rfl fun _ => rfl
    · exact completes_of_run rfl rfl h ((senseSyncRun_eq p b).trans (if_neg (ne_true_of_eq_false hm))) rfl fun _ => rfl
  case mask =>
    intro p s h c b new old t₁ t₂ t₃
    refine ⟨fun hs => ?_, fun hs => ?_⟩
    · exact completes_of_run rfl rfl h (if_pos hs) rfl fun _ => rfl
    · exact completes_of_run rfl rfl h (if_neg hs) rfl fun _ => rfl

/-! ### Channels and the deglitcher (R903-R907, R912, R930) -/

section
variable {ch : Nat} {code : U16} {s : State}

theorem aout_setAout (f : AoutChannel → AoutChannel) (hch : ch < s.coping.aout.length) :
    aout ch (setAout ch f s) = f (aout ch s) := by
  simp [aout, setAout, hch]

theorem aout_count (ch id : Nat) (s : State) : aout ch (count id s) = aout ch s := rfl

theorem driveCode_held (hh : (aout ch s).holding = true) :
    driveCode ch code s = setAout ch (fun c => { c with code := code }) s := if_pos hh

theorem driveCode_alike (hh : (aout ch s).holding = false) (heq : code >>> 12 = (aout ch s).output >>> 12) :
    driveCode ch code s = setAout ch (fun c => { c with code := code, output := code }) s := by
  simp [driveCode, hh, heq]

theorem driveCode_differs (hh : (aout ch s).holding = false) (hne : code >>> 12 ≠ (aout ch s).output >>> 12) :
    driveCode ch code s = count (cAout ch 2) (setAout ch (fun c => { c with code := code, holding := true }) s) := by
  simp [driveCode, hh, hne]

theorem aout_driveCode (hch : ch < s.coping.aout.length) : (aout ch (driveCode ch code s)).code = code ∧
    (aout ch (driveCode ch code s)).fallback = (aout ch s).fallback := by
  cases hh : (aout ch s).holding with
  | true =>
    rw [driveCode_held hh, aout_setAout _ hch]
    exact ⟨rfl, rfl⟩
  | false =>
    by_cases heq : code >>> 12 = (aout ch s).output >>> 12
    · rw [driveCode_alike hh heq, aout_setAout _ hch]
      exact ⟨rfl, rfl⟩
    · rw [driveCode_differs hh heq, aout_count, aout_setAout _ hch]
      exact ⟨rfl, rfl⟩

theorem aout_disturb (kind : Nat → Bool) (ch d : Nat) (s : State) : aout d (disturb kind ch s) = aout d s := by
  unfold disturb
  repeat' split
  all_goals rfl

theorem length_aout_dropEntry (ch : Nat) (s : State) : (dropEntry ch s).coping.aout.length = s.coping.aout.length := by
  have dropped : ∀ id u, (uncount id u).coping = u.coping := fun id u => rfl
  unfold dropEntry
  split
  · rfl
  · dsimp only
    split
    · rfl
    · simp only [setAout, List.length_modify, dropped]
      split <;> rfl

/-- The channel as a write leaves it before the code is driven. -/
def writeReady (ch : Nat) (s : State) : State :=
  let t := dropEntry ch (count (cAout ch 1) s)
  setAout ch (fun c => { c with fallback := false, entry := none, written := some (d9Cycle t) }) t

theorem aout_writeAout (ch : Nat) (code : U16) (s : State) :
    aout ch (writeAout ch code s) = aout ch (driveCode ch code (writeReady ch s)) := aout_disturb ..

theorem length_aout_writeReady (ch : Nat) (s : State) :
    (writeReady ch s).coping.aout.length = s.coping.aout.length := by
  simp [writeReady, setAout, length_aout_dropEntry]

theorem aout_writeReady_fallback (hch : ch < s.coping.aout.length) : (aout ch (writeReady ch s)).fallback = false := by
  rw [writeReady, aout_setAout]
  rwa [length_aout_dropEntry]

end

/-! ### Compliance (R908-R913, R930) -/

section
variable {ch : Nat} {cause : Compliance} {s : State}

/-- A compliance condition noted, and counted at its onset. -/
def faultNoted (ch : Nat) (cause : Compliance) (s : State) : State :=
  setAout ch (fun c => { c with fault := some cause }) (if (aout ch s).fault.isNone then count (cAout ch 3) s else s)

theorem param_faultNoted (id ch : Nat) (cause : Compliance) (s : State) :
    param id (faultNoted ch cause s) = param id s := by
  unfold faultNoted
  split <;> rfl

theorem exec_complianceFaultOnset (haon : s.power.aonUp = true) (happ : complianceApplies ch cause s = true) :
    exec (.complianceFaultOnset ch cause) s = .next (
      if param (pAout ch 3) (faultNoted ch cause s) = 1 ∧ (aout ch (faultNoted ch cause s)).fallback = false ∧
          (aout ch (faultNoted ch cause s)).written ≠ some (d9Cycle (faultNoted ch cause s)) then
        enterFallback ch (faultNoted ch cause s)
      else faultNoted ch cause s) := by
  simp only [exec, execComplianceFaultOnset, haon, happ, Bool.not_true, Bool.or_false, Bool.false_eq_true, if_false]
  change ite _ (Host.Outcome.next (enterFallback ch (faultNoted ch cause s))) (.next (faultNoted ch cause s)) = _
  rw [apply_ite Host.Outcome.next]
  simp [and_assoc, faultNoted]
end

/-! ### Calibrations (R884-R888, R917-R919) -/

section
variable {k : Calibration} {w : CalWindow} {s : State}

theorem exec_calStartCheckEnd (hk : s.coping.calibration = some k) (hstep : k.step = 1) :
    exec (.calStartCheckEnd w) s = .next (
      if w.held = true ∧ calHolds k s = true then
        if k.kind = 2 then setAout k.channel (fun c => { c with output := 0x1000 })
          { s with coping.calibration := some { k with step := 2 } }
        else { s with coping.calibration := some { k with step := 2 } }
      else endCalibration stPrecond rPreStart [] s) := by
  simp only [exec, execCalStartCheckEnd, hk, hstep, ne_eq, not_true_eq_false, if_false]
  cases w.held <;> cases calHolds k s <;> rfl

theorem exec_calMeasurementEnd (hk : s.coping.calibration = some k) (hstep : k.step = 2) :
    exec (.calMeasurementEnd w) s = .next (
      if k.kind = 2 ∧ k.failed = false then setAout k.channel (fun c => { c with output := c.code })
        { s with coping.calibration := some { k with
          step := 3, mean := w.mean, offset := w.offset, gain := w.gain, referencesBad := w.referencesBad } }
      else { s with coping.calibration := some { k with
        step := 3, mean := w.mean, offset := w.offset, gain := w.gain, referencesBad := w.referencesBad } }) := by
  simp [exec, execCalMeasurementEnd, hk, hstep]

theorem exec_aoutSelfCodeSwitch (hk : s.coping.calibration = some k) (hkind : k.kind = 2) (hstep : k.step = 2)
    (hok : k.failed = false) : exec .aoutSelfCodeSwitch s =
      .next (setAout k.channel (fun c => { c with output := 0xF000 }) s) := by
  simp [exec, execAoutSelfCodeSwitch, hk, hkind, hstep, hok]

theorem exec_calEndCheckEnd (hk : s.coping.calibration = some k) (hstep : k.step = 3) :
    exec (.calEndCheckEnd w) s = .next (
      if k.failed = true ∨ w.held = false ∨ calHolds k s = false then endCalibration stPrecond rPreEnd [] s
      else if k.kind = 3 ∧ k.referencesBad = true then
        endCalibration stFaulted 0 [] (setSense k.channel (fun c => { c with faulted := true }) s)
      else endCalibration stOk 0 (leInt 4 (calResult k s).2.1 ++ leInt 4 (calResult k s).2.2) (calResult k s).1) := by
  simp [exec, execCalEndCheckEnd, hk, hstep, or_assoc, apply_ite Host.Outcome.next]
end

/-- Settles O37: the deglitcher by its three cases, a write by what precedes the code it drives, and each step of a
calibration by what its event may do. -/
theorem outputsAndCalibration : Obligations.OutputsAndCalibration := by
  refine ⟨fun ch s hh => if_pos hh, ?drive, ?noted, ?fallback, ?write, fun ch s => rfl, ?start,
    fun k s => exec_aoutSelfCodeSwitch, fun k w s => exec_calMeasurementEnd, ?finish⟩
  case drive =>
    intro ch code s hch
    refine ⟨(aout_driveCode hch).1, fun hh => ?_, fun hh heq => ?_, fun hh hne => ?_⟩
    · rw [driveCode_held hh, aout_setAout _ hch]
    · rw [driveCode_alike hh heq, aout_setAout _ hch]
      exact ⟨rfl, hh⟩
    · rw [driveCode_differs hh hne, aout_count, aout_setAout _ hch]
      exact ⟨rfl, rfl⟩
  case noted =>
    intro ch cause s haon happ hp
    rw [exec_complianceFaultOnset haon happ, if_neg (by simp [param_faultNoted, hp])]
    rfl
  case fallback =>
    intro ch cause s haon happ t hp
    have hand : ∀ q : Prop, (param (pAout ch 3) (faultNoted ch cause s) = 1 ∧ q) = q := fun q =>
      propext (and_iff_right hp)
    rw [exec_complianceFaultOnset haon happ]
    simp only [hand]
    rfl
  case write =>
    intro ch code s hch
    have hready : ch < (writeReady ch s).coping.aout.length := by rwa [length_aout_writeReady]
    obtain ⟨hcode, hfallback⟩ := aout_driveCode (code := code) hready
    rw [aout_writeAout]
    exact ⟨hcode, hfallback.trans (aout_writeReady_fallback hch)⟩
  case start =>
    intro k w s hk hstep
    rw [exec_calStartCheckEnd hk hstep]
    refine ⟨fun hw hh => congrArg _ (if_pos ⟨hw, hh⟩), fun hbad => congrArg _ (if_neg ?_)⟩
    rintro ⟨hw, hh⟩
    simp [hw, hh] at hbad
  case finish =>
    intro k w s hk hstep
    rw [exec_calEndCheckEnd hk hstep]
    refine ⟨fun hbad => congrArg _ (if_pos hbad), fun hf hw hh hbad => ?_, fun hf hw hh hkind hbad => ?_⟩
    · rw [if_neg (by simp [hf, hw, hh]), if_neg hbad]
    · rw [if_neg (by simp [hf, hw, hh]), if_pos ⟨hkind, hbad⟩]

end Sys2Proof.Machine
end

section
/-! Firmware (Table 6.13, R939-R970, R978): the commands, the events of verifications and activations, and the boot
pointers. -/

namespace Sys2Proof.Machine

/-! ### Images named by a command: download, verification, activation, confirmation -/

section
variable {p : Packet} {s : State}

/-- The slot that a command's image field names. -/
def namedSlot (p : Packet) (s : State) : ImageSlot :=
  slotOf (field p.body 0 1) (field p.body 1 1) (field p.body 2 2) s

theorem manifestLoadRun_good (hm : manifestGood (p.body.drop 8) = true)
    (hv : Config.manifestVerifies (p.body.drop 8) = true) : manifestLoadRun p s =
      let m := p.body.drop 8
      let t := { s with firmware.manifest := m, firmware.manifestGood := true }
      (refreshTested (journalFinial (paramBody 5 (field m 10 2) p.originator.toNat (markTallyNat t) (sha256 m) t) t),
        ok (digestBytes (sha256 m))) := by
  unfold manifestLoadRun
  exact if_neg (by simp [hm, hv])

theorem manifestLoadRun_refused (h : manifestGood (p.body.drop 8) = false ∨
    Config.manifestVerifies (p.body.drop 8) = false) : manifestLoadRun p s = (s, refuse stPrecond rSignature 0) :=
  if_pos (by rcases h with h | h <;> simp [h])

theorem imgDownloadRun_size (h : field p.body 8 8 < 256 ∨ slotSize (field p.body 0 1) < field p.body 8 8) :
    imgDownloadRun p s = (s, refuse stRange rField 8) := by
  refine if_pos ?_
  simpa using h

/-- Whether a chunk past the first does not continue the download of its slot. -/
def breaksDownload (p : Packet) (x : ImageSlot) : Prop :=
  x.state ≠ .incomplete ∨ x.owner ≠ p.originator ∨ field p.body 16 8 ≠ x.image.length

theorem imgDownloadRun_offset (hleast : 256 ≤ field p.body 8 8)
    (hmost : field p.body 8 8 ≤ slotSize (field p.body 0 1)) (hoff : field p.body 16 8 ≠ 0)
    (hbad : breaksDownload p (namedSlot p s)) : imgDownloadRun p s = (s, refuse stRange rField 16) := by
  refine (if_neg ?_).trans (if_pos ?_)
  · simp [hleast, hmost]
  · simpa [breaksDownload, namedSlot, hoff, or_assoc] using hbad

/-- A chunk that its slot can take: of the right sizes, and the download's next. -/
structure ChunkFits (p : Packet) (s : State) : Prop where
  least : 256 ≤ field p.body 8 8
  most : field p.body 8 8 ≤ slotSize (field p.body 0 1)
  ends : field p.body 16 8 + (p.body.drop 32).length ≤ field p.body 8 8
  zeros : fieldFault p.body 28 4 .zero = none
  continues : field p.body 16 8 ≠ 0 → (namedSlot p s).state = .incomplete ∧ (namedSlot p s).owner = p.originator ∧
    field p.body 16 8 = (namedSlot p s).image.length ∧ field p.body 8 8 = (namedSlot p s).total

/-- The image of a slot with a chunk stored. -/
def chunkStored (p : Packet) (x : ImageSlot) : List Byte :=
  if field p.body 16 8 = 0 then p.body.drop 32 else x.image ++ p.body.drop 32

theorem imgDownloadRun_fits (h : ChunkFits p s) : imgDownloadRun p s =
    if slotBusy (field p.body 0 1) (field p.body 1 1) (field p.body 2 2) s = true then
      (s, refuse stPrecond rActiveSlot 0)
    else (storeSlot { namedSlot p s with
        state := if (chunkStored p (namedSlot p s)).length = field p.body 8 8 then .unverified else .incomplete
        owner := p.originator, total := field p.body 8 8, image := chunkStored p (namedSlot p s) } s,
      ok (le 8 (chunkStored p (namedSlot p s)).length)) := by
  obtain ⟨hleast, hmost, hends, hzeros, hcont⟩ := h
  refine (if_neg ?_).trans ((if_neg ?_).trans ((if_neg ?_).trans ((if_neg (Nat.not_lt.mpr hends)).trans ?_)))
  · simp [hleast, hmost]
  · intro hbad
    obtain ⟨hoff, hbad⟩ := by simpa [or_assoc] using hbad
    obtain ⟨hstate, howner, hlen, -⟩ := hcont hoff
    exact hbad.elim (· hstate) (·.elim (· howner) (· hlen))
  · intro hbad
    obtain ⟨hoff, htotal⟩ := by simpa using hbad
    exact htotal (hcont hoff).2.2.2
  · rw [hzeros]
    rfl

theorem imgVerifyRun_eq (p : Packet) (s : State) : imgVerifyRun p s =
    if (namedSlot p s).state = .unverified ∨ (namedSlot p s).state = .verified then
      (startOp (.imgVerify (field p.body 0 1) (field p.body 1 1) (field p.body 2 2)) p 0x81
        (storeSlot { namedSlot p s with busy := true } s), .accept [])
    else (s, refuse stPrecond rIncomplete 0) := by
  by_cases h : (namedSlot p s).state = .unverified ∨ (namedSlot p s).state = .verified
  · exact (if_neg (by simpa [namedSlot, or_iff_not_imp_left] using h)).trans (if_pos h).symm
  · exact (if_pos (by simpa [namedSlot] using h)).trans (if_neg h).symm

theorem imgConfirmRun_eq (p : Packet) (s : State) : imgConfirmRun p s =
    if (namedSlot p s).state ≠ .trial ∨ (namedSlot p s).busy = true then (s, refuse stPrecond rNotTrial 0)
    else (journalFwset 2 0xFE (setSlotState (field p.body 0 1) (field p.body 1 1) (field p.body 2 2) .active
      (setSlotState (field p.body 0 1) (1 - field p.body 1 1) (field p.body 2 2) .verified
        (writePointer (field p.body 0 1) (field p.body 2 2) (field p.body 1 1) false 0 s))), ok []) := by
  by_cases h : (namedSlot p s).state ≠ .trial ∨ (namedSlot p s).busy = true
  · exact (if_pos (by simpa [namedSlot] using h)).trans (if_pos h).symm
  · exact (if_neg (by simpa [namedSlot] using h)).trans (if_neg h).symm
end

/-! ### The refusals of an activation (R956) -/

section
variable {kind slot target : Nat} {s : State}

theorem activateRefusal_unverified (h : (slotOf kind slot target s).state ≠ .verified) :
    activateRefusal kind slot target s = some (refuse stPrecond rUnverified 0) := if_pos h

theorem activateRefusal_clash {i : Nat} (h : (slotOf kind slot target s).state = .verified)
    (hc : clash (runningFrom (slotOf kind slot target s)) (slotOf kind slot target s).factory s = some i) :
    activateRefusal kind slot target s = some (refuse stPrecond rEpoch i) := by
  simp [activateRefusal, h, hc]

/-- Whether an image of the wafer lists the wafer's stepping; the factory's does. -/
def listsStepping (x : ImageSlot) (s : State) : Bool :=
  x.factory || (imageSteppings x.image).contains s.ident.stepping.toNat

theorem activateRefusal_meets (h : (slotOf kind slot target s).state = .verified)
    (hc : clash (runningFrom (slotOf kind slot target s)) (slotOf kind slot target s).factory s = none) :
    activateRefusal kind slot target s =
      if kind = 0 ∧ listsStepping (slotOf kind slot target s) s = false then some (refuse stPrecond rEpoch 0)
      else if isLedger s = true ∧ kind ≠ 6 ∧
          activationTested (withImage (runningFrom (slotOf kind slot target s)) s) s = false then
        some (refuse stPrecond rUntested 0)
      else none := by
  simp [activateRefusal, listsStepping, h, hc, and_assoc]

theorem imgActivateRun_started {p : Packet}
    (h : confirmedRunning (field p.body 0 1) (field p.body 1 1) (field p.body 2 2) s = true ∨
      activateRefusal (field p.body 0 1) (field p.body 1 1) (field p.body 2 2) s = none) :
    imgActivateRun p s = (startOp (.imgActivate (field p.body 0 1) (field p.body 1 1) (field p.body 2 2)) p 0x82 s,
      .accept []) := by
  rcases h with h | h <;> simp [imgActivateRun, imageName, h]

theorem imgActivateRun_refused {p : Packet} {a : Ans}
    (hc : confirmedRunning (field p.body 0 1) (field p.body 1 1) (field p.body 2 2) s = false)
    (h : activateRefusal (field p.body 0 1) (field p.body 1 1) (field p.body 2 2) s = some a) :
    imgActivateRun p s = (s, a) := by
  simp [imgActivateRun, imageName, hc, h]
end

/-- Settles O38: the reads as they stand, and each other command by the cases of its own meaning. -/
theorem firmwareCommands : Obligations.FirmwareCommands := by
  refine ⟨fun p s h => completes_of_run rfl rfl h rfl rfl fun _ => rfl,
    fun p s h => completes_of_run rfl rfl h rfl rfl fun _ => rfl,
    fun p s h => completes_of_run rfl rfl h rfl rfl fun _ => rfl, ?manifest, ?download, ?verify, ?activate, ?confirm⟩
  case manifest =>
    intro p s h c b m t
    exact ⟨fun hm hv => completes_of_run rfl rfl h (manifestLoadRun_good hm hv) rfl fun _ => rfl,
      fun hbad => refuses_of_run rfl rfl h (manifestLoadRun_refused hbad) rfl⟩
  case download =>
    intro p s h c b
    refine ⟨fun hsize => refuses_of_run rfl rfl h (imgDownloadRun_size hsize) rfl,
      fun hleast hmost hoff hbad => refuses_of_run rfl rfl h (imgDownloadRun_offset hleast hmost hoff hbad) rfl,
      fun hleast hmost hends hzeros hcont => ?_⟩
    have hrun := imgDownloadRun_fits (p := p) (s := b) ⟨hleast, hmost, hends, hzeros, hcont⟩
    exact ⟨fun hbusy => refuses_of_run rfl rfl h (hrun.trans (if_pos hbusy)) rfl,
      fun hbusy => completes_of_run rfl rfl h (hrun.trans (if_neg (ne_true_of_eq_false hbusy))) rfl fun _ => rfl⟩
  case verify =>
    intro p s h c b
    have hrun := imgVerifyRun_eq p b
    exact ⟨fun hst => completes_of_run rfl rfl h (hrun.trans (if_pos hst)) rfl fun _ => rfl,
      fun hu hv => refuses_of_run rfl rfl h (hrun.trans (if_neg (not_or.mpr ⟨hu, hv⟩))) rfl⟩
  case activate =>
    intro p s h c b
    refine ⟨fun hgo => completes_of_run rfl rfl h (imgActivateRun_started hgo) rfl fun _ => rfl,
      fun hc hst => refuses_of_run rfl rfl h (imgActivateRun_refused hc (activateRefusal_unverified hst)) rfl,
      fun i hc hst hclash =>
        refuses_of_run rfl rfl h (imgActivateRun_refused hc (activateRefusal_clash hst hclash)) rfl,
      fun hc hst hclash => ?_⟩
    have hrefusal := activateRefusal_meets hst hclash
    exact ⟨fun hk hl => refuses_of_run rfl rfl h (imgActivateRun_refused hc (hrefusal.trans (if_pos ⟨hk, hl⟩))) rfl,
      fun hl hled hk htest => refuses_of_run rfl rfl h (imgActivateRun_refused hc (hrefusal.trans ((if_neg fun hbad =>
        ne_true_of_eq_false hbad.2 (hl hbad.1)).trans (if_pos ⟨hled, hk, htest⟩)))) rfl⟩
  case confirm =>
    intro p s h c b
    have hrun := imgConfirmRun_eq p b
    exact ⟨fun hst hbusy => completes_of_run rfl rfl h (hrun.trans (if_neg fun hbad =>
        hbad.elim (· hst) (ne_true_of_eq_false hbusy))) rfl fun _ => rfl,
      fun hbad => refuses_of_run rfl rfl h (hrun.trans (if_pos hbad)) rfl⟩

/-! ### Boot pointers (R966-R969) -/

section
variable {kind target : Nat} {s t : State}

theorem pointerOf_congr (h : t.firmware.pointers = s.firmware.pointers) :
    pointerOf kind target t = pointerOf kind target s := by
  rw [pointerOf, h, pointerOf]

theorem pointerOf_names (kind target : Nat) (s : State) :
    (pointerOf kind target s).kind = kind ∧ (pointerOf kind target s).target = target := by
  unfold pointerOf
  cases hfind : s.firmware.pointers.find? fun x => x.kind = kind && x.target = target with
  | none => exact ⟨rfl, rfl⟩
  | some x => simpa using List.find?_some hfind

/-- A write's new copy, with the generation after the one in force (R967). -/
def nextCopy (p : Pointer) (slot : Nat) (trial : Bool) (left : Nat) : PointerCopy :=
  { valid := true, generation := (p.inForce.map PointerCopy.generation).getD 0 + 1, slot, trial, left }

/-- A pointer with a copy written over the one that is not in force. -/
def putCopy (c : PointerCopy) (p : Pointer) : Pointer :=
  if p.secondRules then { p with first := c } else { p with second := c }

theorem pointerOf_writePointer (kind target slot : Nat) (trial : Bool) (left : Nat) (s : State) :
    pointerOf kind target (writePointer kind target slot trial left s) =
      putCopy (nextCopy (pointerOf kind target s) slot trial left) (pointerOf kind target s) := by
  obtain ⟨hkind, htarget⟩ := pointerOf_names kind target s
  generalize hp : putCopy (nextCopy (pointerOf kind target s) slot trial left) (pointerOf kind target s) = p
  have hnames : p.kind = kind ∧ p.target = target := by
    rw [← hp, putCopy]
    split <;> exact ⟨hkind, htarget⟩
  have hwrite : (writePointer kind target slot trial left s).firmware.pointers =
      (s.firmware.pointers.filter fun x => !(x.kind = kind && x.target = target)) ++ [p] := by
    rw [← hp]
    rfl
  have hnone : (s.firmware.pointers.filter fun x => !(x.kind = kind && x.target = target)).find?
      (fun x => x.kind = kind && x.target = target) = none := by
    rw [List.find?_eq_none]
    intro x hx
    simpa [imp_iff_not_or] using (List.mem_filter.mp hx).2
  rw [pointerOf, hwrite, List.find?_append, hnone]
  simp [hnames]

theorem inForce_withFirst {c : PointerCopy} {p : Pointer} (hc : c.valid = true)
    (hgen : p.second.generation ≤ c.generation) : Pointer.inForce { p with first := c } = some c := by
  simp [Pointer.inForce, Pointer.secondRules, hc, Nat.not_lt.mpr hgen]

theorem inForce_withSecond {c : PointerCopy} {p : Pointer} (hc : c.valid = true)
    (hgen : p.first.valid = true → p.first.generation < c.generation) :
    Pointer.inForce { p with second := c } = some c := by
  refine if_pos ?_
  cases hv : p.first.valid with
  | true => simp [Pointer.secondRules, hc, hgen hv]
  | false => simp [Pointer.secondRules, hc, hv]

theorem inForce_putCopy (p : Pointer) (slot : Nat) (trial : Bool) (left : Nat) :
    (putCopy (nextCopy p slot trial left) p).inForce = some (nextCopy p slot trial left) := by
  unfold putCopy
  split
  case isTrue h => exact inForce_withFirst rfl (by simp [nextCopy, Pointer.inForce, h])
  case isFalse h => exact inForce_withSecond rfl fun hv => by simp [nextCopy, Pointer.inForce, h, hv]

theorem inForce_writePointer (kind target slot : Nat) (trial : Bool) (left : Nat) (s : State) :
    (pointerOf kind target (writePointer kind target slot trial left s)).inForce =
      some (nextCopy (pointerOf kind target s) slot trial left) := by
  rw [pointerOf_writePointer, inForce_putCopy]

theorem firmware_of_still {w : Bool} (h : still w t = still w s) : t.firmware = s.firmware := by
  change (still w t).firmware = (still w s).firmware
  rw [h]

theorem journalFwset_firmware (reason builder : Nat) (s : State) :
    (journalFwset reason builder s).firmware = s.firmware :=
  firmware_of_still (w := true) (still_journalWith ..)

theorem bootTarget_confirmed {c : PointerCopy} (hc : (pointerOf kind target s).inForce = some c)
    (ht : c.trial = false) :
    bootTarget kind target s = (runImage (runningFrom (slotOf kind c.slot target s)) s, some c.slot, false) := by
  simp [bootTarget, hc, ht]

theorem bootTarget_trial {c : PointerCopy} (hc : (pointerOf kind target s).inForce = some c) (ht : c.trial = true)
    (hleft : 0 < c.left) : (bootTarget kind target s).2 = (some c.slot, false) ∧
      (bootTarget kind target s).1.firmware.pointers =
        (writePointer kind target c.slot true (c.left - 1) s).firmware.pointers := by
  simp [bootTarget, hc, ht, Nat.pos_iff_ne_zero.mp hleft, runImage]

theorem bootTarget_reverts {c : PointerCopy} (hc : (pointerOf kind target s).inForce = some c) (ht : c.trial = true)
    (hleft : c.left = 0) : (bootTarget kind target s).2 = (some (1 - c.slot), true) ∧
      (bootTarget kind target s).1.firmware.pointers =
        (writePointer kind target (1 - c.slot) false 0 (count (cUpdate 2) s)).firmware.pointers := by
  simp [bootTarget, hc, ht, hleft, journalFwset_firmware, runImage, setSlotState, storeSlot]
end

/-! ### Verifications, rolls, switches and re-homings (R953-R964, R98, R1008) -/

section
variable {s t : State} {a : Activation} {n : Nat}

def isVerifyOp : OpKind → Bool
  | .imgVerify _ _ _ => true
  | _ => false

/-- Whether an image passes its verification (R953): the factory's does. -/
def verifies (x : ImageSlot) (r : VerifyResult) : Bool := x.factory || (imageGood x && r.signatureGood)

theorem verifies_iff {x : ImageSlot} {r : VerifyResult} :
    verifies x r = true ↔ x.factory = true ∨ imageGood x = true ∧ r.signatureGood = true := by
  simp [verifies]

/-- How the verification `o` of a slot ends. -/
def verified (o : Op) (r : VerifyResult) (x : ImageSlot) (s : State) : State :=
  let busy := decide (1 < (s.batten.ops.filter fun q => q.kind = o.kind).length)
  if verifies x r = true then
    finishOp o stOk 0 0 (verifyPayload x) (storeSlot { x with state := .verified, busy := busy } s)
  else finishOp o stFaulted rSignature 0 []
    (storeSlot { x with state := .unverified, busy := busy } (count (cUpdate 3) s))

theorem exec_imgVerifyDone_again {r : VerifyResult} {kind slot target : Nat} {rest : List (Nat × Nat × Nat)}
    (h : s.firmware.reverify = (kind, slot, target) :: rest) : exec (.imgVerifyDone r) s =
      .next (verifyAgain (slotOf kind slot target s) r { s with firmware.reverify := rest }) := by
  simp only [exec, execImgVerifyDone, h]

theorem exec_imgVerifyDone {r : VerifyResult} {o : Op} {kind slot target : Nat} (h : s.firmware.reverify = [])
    (ho : s.batten.ops.find? (fun o => isVerifyOp o.kind) = some o)
    (hk : o.kind = .imgVerify kind slot target) :
    exec (.imgVerifyDone r) s = .next (verified o r (slotOf kind slot target s) s) := by
  simp only [exec, execImgVerifyDone, h]
  generalize hfind : s.batten.ops.find? _ = found
  obtain rfl : found = some o := hfind.symm.trans ho
  simp only [hk, verified, verifies, apply_ite Host.Outcome.next]

/-- The activation with a site no longer loading. -/
def siteLoaded (a : Activation) (n : Nat) (s : State) : State :=
  { s with firmware.activation := some { a with loading := a.loading.filter (· != n) } }

theorem exec_rollSiteReady (ha : s.firmware.activation = some a) (hlive : waferLive s = true) (hk : a.kind = 0)
    (hn : n ∈ a.loading) : exec (.rollSiteReady n) s = .next (settleActivations (rollNext (siteLoaded a n
      (setSite n (fun t => { t with
        state := .idle, cause := 0, bistPassed := true, bistRunning := false, newImage := !a.reverting }) s)))) := by
  simp [exec, execRollSiteReady, ha, hlive, hk, hn, siteLoaded]

theorem exec_activationTimeout_roll (ha : s.firmware.activation = some a) (hlive : waferLive s = true)
    (hk : a.kind = 0) (hn : n ∈ a.loading) : exec (.activationTimeout n) s = .next (settleActivations (
      if a.reverting = true then
        rollNext (siteLoaded a n (setSite n (fun t => { t with state := .failed, cause := 0, bistRunning := false }) s))
      else rollStop a n s)) := by
  simp only [exec, execActivationTimeout, ha, hlive, hk, List.contains_iff_mem.mpr hn, Bool.not_true, Bool.or_false,
    Bool.false_eq_true, if_false, if_true, siteLoaded]
  split <;> rfl

theorem exec_activationTimeout_eave (ha : s.firmware.activation = some a) (hk : a.kind = 1) :
    exec (.activationTimeout n) s = .next (holdForSwitch a (eaveOf a.target) s) := by
  simp [exec, execActivationTimeout, ha, hk]

theorem exec_activationTimeout_other (ha : s.firmware.activation = some a) (h0 : a.kind ≠ 0) (h1 : a.kind ≠ 1) :
    exec (.activationTimeout n) s = .next (restartTarget a s) := by
  simp [exec, execActivationTimeout, ha, h0, h1]

theorem exec_slateBistDone_failed {r : SlateBist} (ha : s.firmware.activation = some a) (hlive : waferLive s = true)
    (hk : a.kind = 0) (hn : n ∈ a.loading) (hrun : (site n s).bistRunning = true) (hm : s.patrol.mbistSite = none)
    (hr : r.pass = false) : exec (.slateBistDone n r) s = .next (settleActivations (rollBistFailed n r a s)) := by
  simp [exec, execSlateBistDone, ha, hlive, hk, hn, hrun, hm, hr]

theorem exec_slateBistDone_restore {r : SlateBist} (hrun : (site n s).bistRunning = true) (hlive : waferLive s = true)
    (hm : s.patrol.mbistSite = none) (ha : s.firmware.activation = none) :
    exec (.slateBistDone n r) s = .next (startMbist (restoreDone n r s)) := by
  simp [exec, execSlateBistDone, ha, hlive, hrun, hm]

theorem exec_slateBistDone_mbist {r : SlateBist} (hrun : (site n s).bistRunning = true)
    (hm : s.patrol.mbistSite = some n) (hd : s.patrol.mbistDone = false) (hw : s.patrol.mbistWait = false) :
    exec (.slateBistDone n r) s = .next (mbistEnds n r.pass s) := by
  simp [exec, execSlateBistDone, hrun, hm, hd, hw]

theorem exec_cartridgeMcuReady (ha : s.firmware.activation = some a) (hk : a.kind = 4 ∨ a.kind = 5)
    (hn : a.target = n) :
    exec (.cartridgeMcuReady n) s = .next (checkCartridges (settleActivations (switchDone a s))) := by
  simp [exec, execCartridgeMcuReady, ha, hk, hn]

theorem waferLive_landFrame (f : QFrame) (s : State) : waferLive (landFrame f s) = waferLive s := by
  have credits : ∀ i c n u, waferLive (returnCredits i c n u) = waferLive u := fun i c n u => by
    unfold returnCredits
    split <;> rfl
  exact credits ..

theorem waferLive_landPort (p : Nat) (s : State) : waferLive (landPort p s) = waferLive s := by
  unfold landPort
  split
  · rfl
  · split
    · rfl
    · exact waferLive_landFrame ..

theorem waferLive_landAll (s : State) : waferLive (landAll s) = waferLive s :=
  foldl_keeps waferLive (fun u p => waferLive_landPort p u) _ s

theorem exec_rehomeMapSwitch {r : Rehoming} (hr : s.switch.rehomings = [r]) (hlive : waferLive s = true)
    (ht : t = landAll s) (hd : r.drain = true → drained r.site t = true) :
    exec .rehomeMapSwitch s = .next (settleActivations (rollNext (retryRestores (finishRehoming r t)))) := by
  simp only [exec, execRehomeMapSwitch, hr, List.foldl_cons, List.foldl_nil, hlive, if_true, ← ht]
  have htlive : waferLive t = true := by rw [ht, waferLive_landAll, hlive]
  exact if_neg (by simpa [htlive] using hd)
end

/-- Settles O39: each event by what it may do, a pointer's write by the copy it puts, and a boot by the pointer in
force. -/
theorem firmwareEvents : Obligations.FirmwareEvents := by
  refine ⟨fun r s kind slot target rest => exec_imgVerifyDone_again, ?verify, ?roll,
    fun n s a => exec_activationTimeout_eave, fun n s a => exec_activationTimeout_other,
    fun n s a => exec_cartridgeMcuReady, fun n r s => exec_slateBistDone_restore,
    fun n r s => exec_slateBistDone_mbist, fun s r hr hlive hd => exec_rehomeMapSwitch hr hlive rfl hd,
    inForce_writePointer, ?boot⟩
  case verify =>
    intro r s o kind slot target h ho hk x busy
    have hrun := exec_imgVerifyDone (r := r) h ho hk
    refine ⟨fun hgood => hrun.trans (congrArg _ (if_pos (verifies_iff.mpr hgood))),
      fun hf hbad => hrun.trans (congrArg _ (if_neg fun hv => ?_))⟩
    obtain hv | ⟨himage, hsignature⟩ := verifies_iff.mp hv
    · exact ne_true_of_eq_false hf hv
    · exact hbad.elim (ne_true_of_eq_false · himage) (ne_true_of_eq_false · hsignature)
  case roll =>
    intro n s a ha hlive hk hn left
    have hrun := exec_activationTimeout_roll ha hlive hk hn
    refine ⟨exec_rollSiteReady ha hlive hk hn, fun hr => ?_, fun hr => ?_,
      fun r => exec_slateBistDone_failed ha hlive hk hn⟩
    · rw [hrun, if_neg (ne_true_of_eq_false hr)]
    · rw [hrun, if_pos hr]
      rfl
  case boot =>
    intro kind target s c hc
    refine ⟨fun ht => congrArg Prod.snd (bootTarget_confirmed hc ht), fun ht hleft => ?_, fun ht hleft => ?_⟩
    · obtain ⟨hboot, hpointers⟩ := bootTarget_trial hc ht hleft
      rw [pointerOf_congr hpointers, inForce_writePointer]
      exact ⟨hboot, rfl⟩
    · obtain ⟨hboot, hpointers⟩ := bootTarget_reverts hc ht hleft
      rw [pointerOf_congr hpointers, inForce_writePointer]
      exact ⟨hboot, rfl⟩

end Sys2Proof.Machine
end

section
/-! The patrol and the TAPs (Tables 18.2-18.6, R990-R995, R1011, R1012, R1017, R1018, R1022, R1023). -/

namespace Sys2Proof.Machine

/-! ### The patrol's cycle and its slices (Table 18.2, R990-R995, R1022, R1023) -/

section
variable {s u : State} {x : Slice}

/-- The tally at which the next cycle starts (R1022). -/
def nextStart (s : State) : Nat :=
  if s.patrol.period = 0 then s.patrol.cycleStart else s.patrol.cycleStart + s.patrol.period

/-- The cycle that starts at a tally, with the sites and links that serve then. -/
def cycleBegun (start : Nat) (u : State) : State :=
  let sites := (List.range 36).filter fun n => patrolled n u
  let links := (List.range 60).filter fun l => sites.contains (linkEnds l).1 && sites.contains (linkEnds l).2
  let n := 569 * sites.length + links.length
  let period := param pPatrolCycle u * 1125000000000
  count (cPatrol 4) { u with patrol := { u.patrol with
    cycleStart := start, sites := sites, links := links, count := n, next := 0, done := 0, period := period
    interval := period / max 1 n, noticeMs := param pPatrolNotice u } }

theorem exec_patrolCycleStart (hlive : waferLive s = true) (hstarted : s.patrol.started = true) :
    exec .patrolCycleStart s = .next (cycleBegun (nextStart s) (advanceTo (nextStart s) s)) := by
  refine (if_neg (by simp [hlive, hstarted])).trans ?_
  rfl

/-- A slice given notice: its reductions keep off it, and step 2 is set. -/
def noticed (x : Slice) (noticeMs : Nat) (s : State) : State :=
  let t := match x with
    | .unit n k => if k < 512 then { s with reduction.underNotice := s.reduction.underNotice ++ [(n, k)] } else s
    | .link _ => s
  { t with patrol.current := some (x, .notice), patrol.noticeAt := tallyNat t + noticeMs * tkPerMs }

theorem exec_patrolSliceDue (hlive : waferLive s = true) (hidle : s.patrol.current = none)
    (hmore : s.patrol.next < s.patrol.count) (hx : sliceAt s.patrol.next s = some x)
    (hu : u = advanceTo (s.patrol.cycleStart + s.patrol.next * s.patrol.interval)
      { s with patrol.next := s.patrol.next + 1 }) : exec .patrolSliceDue s = .next (
      if param pPatrolEnable u = 0 ∨ listed x u = false then u
      else if skipped x u = true then count (cPatrol 2) u else noticed x s.patrol.noticeMs u) := by
  simp only [exec, execPatrolSliceDue, hx]
  refine (if_neg (by simp [hlive, hidle, hmore])).trans ?_
  rw [← hu, apply_ite Host.Outcome.next, apply_ite Host.Outcome.next]
  simp only [Bool.or_eq_true, decide_eq_true_eq, Bool.not_eq_true']
  rfl

theorem exec_patrolNoticeEnd (hlive : waferLive s = true) (hl : listed x s = true)
    (hc : s.patrol.current = some (x, .notice)) : exec .patrolNoticeEnd s =
      .next (advanceTo s.patrol.noticeAt { s with patrol.current := some (x, .drainWait) }) := by
  simp [exec, execPatrolNoticeEnd, hlive, hl, hc]

/-- A slice isolated for its test; the spare takes the role of a RAM. -/
def isolated (x : Slice) (s : State) : State :=
  match x with
  | .unit n k => if 552 ≤ k then swapRam n (k - 552) { s with patrol.current := some (x, .testing) }
      else { s with patrol.current := some (x, .testing) }
  | .link _ => { s with patrol.current := some (x, .testing) }

theorem exec_patrolSliceIsolate (hlive : waferLive s = true) (hl : listed x s = true)
    (hc : s.patrol.current = some (x, .drainWait)) (hd : sliceDrained x s ≠ some false) :
    exec .patrolSliceIsolate s = .next (isolated x s) := by
  simp only [exec, execPatrolSliceIsolate, hlive, hl, hc, hd]
  cases x <;> rfl

theorem exec_patrolDrainTimeout (hlive : waferLive s = true) (hl : listed x s = true)
    (hc : s.patrol.current = some (x, .drainWait)) (hd : sliceDrained x s ≠ some true) :
    exec .patrolDrainTimeout s = .next (count (cPatrol 2) (endSlice x s)) := by
  simp [exec, execPatrolDrainTimeout, hlive, hl, hc, hd]

theorem exec_patrolTestDone (hlive : waferLive s = true) (hl : listed x s = true)
    (hc : s.patrol.current = some (x, .testing)) (pass : Bool) (hu : u = count (cPatrol 1) (endSlice x s)) :
    exec (.patrolTestDone pass) s = .next (
      if pass = true then { u with patrol.done := u.patrol.done + 1 }
      else failSlice x (count (cPatrol 3) { u with patrol.done := u.patrol.done + 1 })) := by
  simp only [exec, execPatrolTestDone, hlive, hl, hc, ← hu, Bool.not_true, Bool.false_eq_true, if_false]
end

/-- Settles O16: a cycle's start, a slice's steps by what each event may do, and the read. -/
theorem patrolCyclesAndSlices : Obligations.PatrolCyclesAndSlices := by
  refine ⟨?cycle, ?due, ?steps, fun p s h => completes_of_run rfl rfl h rfl rfl fun _ => rfl⟩
  case cycle =>
    intro s hlive hstarted start u sites links n period
    exact exec_patrolCycleStart hlive hstarted
  case due =>
    intro s x hlive hidle hmore hx u
    have hrun := exec_patrolSliceDue hlive hidle hmore hx (u := u) rfl
    refine ⟨fun hoff => hrun.trans (congrArg _ (if_pos hoff)), fun hon hl hs => ?_, fun hon hl hs => ?_⟩
    · rw [hrun, if_neg (by simp [hon, hl]), if_pos hs]
    · rw [hrun, if_neg (by simp [hon, hl]), if_neg (ne_true_of_eq_false hs)]
      refine ⟨fun l hx => ?_, fun n k hx => ?_⟩
      · subst hx
        rfl
      · subst hx
        dsimp only [noticed]
        split <;> rfl
  case steps =>
    intro s x hlive hl
    refine ⟨exec_patrolNoticeEnd hlive hl, fun hc hd => ?_, exec_patrolDrainTimeout hlive hl,
      fun hc pass => exec_patrolTestDone hlive hl hc pass rfl⟩
    rw [exec_patrolSliceIsolate hlive hl hc hd]
    refine ⟨fun l hx => ?_, fun n k hx => ?_⟩
    · subst hx
      rfl
    · subst hx
      rfl

/-! ### The TAPs (Tables 18.3-18.6, R1011, R1012, R1017, R1018) -/

section
variable {t : Tap} {s : State} {f : State → State} {n : Nat}

theorem destructive_permitted (hp : tapPermits t s = true) (hf : ¬(t = .wafer ∧ s.freezeUnit.frozen = true)) :
    destructive t f s = f s := by
  simpa [destructive, hp] using fun ht hfr => absurd ⟨ht, hfr⟩ hf

theorem destructive_refused (hp : tapPermits t s = false) : destructive t f s =
    setTap t { ir := 0xFF, refused := true, dr := 0 } (count (cPatrol 0x10) s) := by
  simp [destructive, hp]

/-- An instruction on the wafer of a frozen tray is always permitted, and marks the freeze (R1018). -/
theorem destructive_frozen (hf : s.freezeUnit.frozen = true) :
    destructive .wafer f s = f { s with freezeUnit.destructive := true } := by
  simp [destructive, tapPermits, hf]

theorem tapPresent_loadTap (t v : Tap) (ir : Byte) (dr : Nat) (s : State) :
    tapPresent t (loadTap v ir dr s) = tapPresent t s := by
  cases t <;> cases v <;> rfl

theorem tapIdcode_loadTap (t v : Tap) (ir : Byte) (dr : Nat) (s : State) :
    tapIdcode t (loadTap v ir dr s) = tapIdcode t s := by
  cases t <;> cases v <;> rfl

/-- What a destructive instruction of every TAP does once it is accepted. -/
def tapEffect (t : Tap) : Instr → State → State
  | .extest _ => captureFree t 0x00
  | .clamp _ => loadTap t 0x03 0
  | _ => loadTap t 0x04 0

theorem exec_destructive {c : Instr} (h : tapAccepts t s = true) (hc : c ∈ [Instr.extest t, .clamp t, .highz t]) :
    exec c s = .next (destructive t (tapEffect t c) s) := by
  simp only [List.mem_cons, List.not_mem_nil, or_false] at hc
  rcases hc with rfl | rfl | rfl <;> exact if_pos h

theorem tapEffect_freezeUnit (t : Tap) (c : Instr) (s : State) : (tapEffect t c s).freezeUnit = s.freezeUnit := by
  unfold tapEffect
  split <;> cases t <;> rfl

theorem exec_pulse (h : tapAccepts t s = true) (ht : t ≠ .coping) :
    exec (.extestPulse t) s = .next (destructive t (captureFree t 0x08) s) ∧
      exec (.extestTrain t) s = .next (destructive t (captureFree t 0x09) s) := by
  simp [exec, execExtestPulse, execExtestTrain, h, hasPulse, ht]

theorem exec_scanDump (h : tapAccepts .wafer s = true) (hn : s.patrol.selected = some n) :
    exec (.scanDump .wafer) s = .next (destructive .wafer (captureFree .wafer 0x22) s) := by
  simp [exec, execScanDump, h, hn]

theorem askMbist_idle (hm : s.patrol.mbistSite = none) (hb : (site n s).bistRunning = false) :
    askMbist n s = setSite n Site.underBist (loadTap .wafer 0x23 0 { s with patrol := { s.patrol with
      mbistSite := some n, mbistWait := false, mbistDone := false } }) := by
  have hleave : leaveMbist s = s := by simp [leaveMbist, hm]
  rw [askMbist, hleave]
  refine if_pos ?_
  change (true && (!(site n s).bistRunning || _)) = true
  simp [hb]

theorem exec_mbistRun (h : tapAccepts .wafer s = true) (hn : s.patrol.selected = some n)
    (hm : s.patrol.mbistSite = none) :
    exec (.mbistRun .wafer) s = .next (destructive .wafer (askMbist n) s) := by
  simp [exec, execMbistRun, h, hn, hm]
end

/-- Settles O17: what each instruction loads, and what a destructive one leaves when it is refused or when the tray is
frozen. -/
theorem tapInstructions : Obligations.TapInstructions := by
  refine ⟨?every, ?wafer, ?reset, fun t s h => ⟨fun hp c hc => ?_, fun ht hf c hc u hu => ?_⟩⟩
  case every =>
    intro t s h
    refine ⟨if_pos h, if_pos h, if_pos h, fun hp hf => ?_⟩
    have hrun {c : Instr} (hc : c ∈ [Instr.extest t, .clamp t, .highz t]) : exec c s = .next (tapEffect t c s) := by
      rw [exec_destructive h hc, destructive_permitted hp hf]
    refine ⟨hrun (by simp), hrun (by simp), hrun (by simp), fun ht => ?_⟩
    obtain ⟨hpulse, htrain⟩ := exec_pulse h ht
    rw [hpulse, htrain, destructive_permitted hp hf, destructive_permitted hp hf]
    exact ⟨rfl, rfl⟩
  case wafer =>
    intro s h
    refine ⟨?_, ?_, fun v => ?_, fun n hn hp hf => ?_⟩
    · simp [exec, execDescriptorRead, h]
    · simp [exec, execTallyRead, h]
    · simp [exec, execSlateSel, h]
    · have hpermit {f : State → State} : destructive .wafer f s = f s := destructive_permitted hp (by simp [hf])
      refine ⟨(exec_scanDump h hn).trans (congrArg _ hpermit), fun hm hb => ?_⟩
      rw [exec_mbistRun h hn hm, hpermit, askMbist_idle hm hb]
  case reset =>
    intro s haon hboot hrim
    have hpresent (t : Tap) : tapPresent t s = true := by
      cases t <;> simp [tapPresent, haon, hboot, hrim]
    simp only [exec, execTapReset, hpresent, tapPresent_loadTap, tapIdcode_loadTap, if_true]
    rfl
  · rw [exec_destructive h hc, destructive_refused hp]
  · subst ht
    rw [exec_destructive h hc, destructive_frozen hf] at hu
    cases hu
    rw [tapEffect_freezeUnit]
    exact ⟨rfl, hf⟩

end Sys2Proof.Machine
end
